-- ==== Sys2Proof/Word.lean ====
section
/-! DEFINITION. The words the block is made of: bytes, 64-bit words, and the sparse tables in canonical form that hold
every large store of the block. -/

namespace Sys2Proof

/-- A byte. -/
abbrev Byte := BitVec 8

/-- A 64-bit word. -/
abbrev Word := BitVec 64

/-- A sparse table: pairs of a key and a value with keys strictly rising; a key that is not listed holds a default
value that each use names, and no listed value equals it. -/
abbrev Sparse (α : Type) := List (Nat × α)

namespace Sparse

/-- The value at key `k`: the first pair with that key, or the default. -/
def get {α : Type} (d : α) : Sparse α → Nat → α
  | [], _ => d
  | (j, w) :: r, k => if j = k then w else get d r k

/-- Insert a pair before the first larger key. -/
def insert {α : Type} (k : Nat) (v : α) : Sparse α → Sparse α
  | [] => [(k, v)]
  | (j, w) :: r => if k < j then (k, v) :: (j, w) :: r else (j, w) :: insert k v r

/-- Set key `k` to `v`; the default value removes the entry. -/
def set {α : Type} [DecidableEq α] (d : α) (m : Sparse α) (k : Nat) (v : α) : Sparse α :=
  let r := m.filter (fun e => e.1 != k)
  if v = d then r else insert k v r

/-- Keys strictly rising. -/
def rising {α : Type} : Sparse α → Bool
  | [] => true
  | [_] => true
  | a :: b :: r => decide (a.1 < b.1) && rising (b :: r)

/-- The canonical form: keys strictly rising and no listed value equal to the default. -/
def wf {α : Type} [DecidableEq α] (d : α) (m : Sparse α) : Bool :=
  rising m && m.all (fun e => decide (e.2 ≠ d))

/-- Change the value at key `k` by `f`. -/
def modify {α : Type} [DecidableEq α] (d : α) (m : Sparse α) (k : Nat) (f : α → α) : Sparse α :=
  set d m k (f (get d m k))

end Sparse

end Sys2Proof
end

