-- ==== Sys2Proof/Syntax.lean ====
section
/-! DEFINITION. The commands of the block: one constructor of Instr for each row of the table of operations
and events, with the operands that the row's step takes, and the small records those operands are made of. -/

namespace Sys2Proof

/-- What the check bits of a memory show when it is read (R366, R367): nothing wrong, an error the code corrects, an error
it cannot correct. The operand `found` of a row that reads memory lists, by the key of a byte in each, the units that
show an error; units it does not list are clean. The rows of a channel move and of a RETAINED copy name a unit by its
offset in the stack or scratchpad. -/
inductive EccFind
  | clean | corrected | uncorrectable
deriving DecidableEq, Repr

/-- An instruction word as the sequencer of physical core `core` issues it for `thread` (R284). `bits` are bits
[55:0] of the base word; the opcode, bits [63:56], is fixed by the row of the table. `ext` is the extension word,
present when XT (bit 51) is 1, and `found` what the fetch of the two words finds wrong in the CODE partition (R366,
R367). -/
structure Ins where
  core : Fin 64
  thread : Fin 16
  bits : BitVec 56
  ext : BitVec 64
  found : List (Nat × EccFind) := []
deriving DecidableEq, Repr

/-- The header fields of an accepted control frame that a command, an IDLE or a NAK carries (Table 15-2). -/
structure CpHdr where
  seq : BitVec 32
  ackseq : BitVec 32
  ctag : BitVec 16
  credit : BitVec 16
deriving DecidableEq, Repr

/-- The header of a fabric frame (Table 14-2), its TYPE fixed by the row. A frame whose tag GTAG fails arrives as
FABRIC_FRAME_DISCARD (R431). `fec` and `ins` are no fields of the header: the codewords that RS(544,514) corrected in the
frame (R448), and the instruction of its core that a request belongs to, by which R355 tells one from another. -/
structure FabHdr where
  response : Bool
  hop : BitVec 3
  enc : Bool
  dst : BitVec 12
  src : BitVec 12
  hseq : BitVec 32
  hack : BitVec 32
  orig : BitVec 6
  tag : BitVec 8
  status : BitVec 8
  spen : Bool
  shalf : Bool
  rten : Bool
  rtq : BitVec 4
  spair : BitVec 8
  pcore : BitVec 6
  step : Bool
  chain : BitVec 3
  sel : BitVec 6
  addr : BitVec 64
  gtag : BitVec 96 := 0
  fec : Nat := 0
  ins : Nat := 0
deriving DecidableEq, Repr

/-- What the environment makes of the read of an MRED's prime list: the transfer exceeds its timer, or the memory shows
the errors of a list (R137, R366, R367). -/
inductive AccessErr
  | timeout
  | ecc (found : List (Nat × EccFind))
deriving DecidableEq, Repr

/-- The three fixed-latency engines of a core (R253). -/
inductive FixedEngine
  | lme | te | ve
deriving DecidableEq, Repr

/-- The block that a general counter belongs to, and its number (R574). -/
inductive CounterId
  | core (c : Fin 64) (n : Fin 16)
  | die (d : Fin 4) (n : Fin 32)
  | hub (n : Fin 64)
deriving DecidableEq, Repr

/-- The three kinds of mesh link that R491 tells apart. In a die, link 3y + x joins core position (x, y) to (x + 1, y), and
link 12 + 4y + x joins it to (x, y + 1). -/
inductive MeshLink
  | corePort (c : Fin 64)
  | inDie (die : Fin 4) (link : Fin 24)
  | bridge (n : Fin 8)
deriving DecidableEq, Repr

/-- The fence causes of Table 16-3. -/
inductive FenceCause
  | tileWord | sequencerWord | seedExpander | streamPort | scratchpadWord | selfTest | monitor
deriving DecidableEq, Repr

/-- The module's own memories of Table 16-1, each word under SECDED: the tile registers and buffers of a core, the tables,
thread state and counts of a core, and the mould banks, the command processor's memory and the event queue. -/
inductive OwnMem
  | tiles (c : Fin 64) | tables (c : Fin 64) | mouldBanks | commandMemory | eventQueue
deriving DecidableEq, Repr

/-- What a check that no instruction asked for reads (R369, R487): a tier or scratchpad block, or a word of the module's own
memories. -/
inductive ScrubAt
  | block (space : Fin 4) (off : BitVec 48)
  | own (m : OwnMem)
deriving DecidableEq, Repr

/-- Why a fabric frame is discarded (R420, R431). -/
inductive DiscardCause
  | crc | codeword | invalid | tagFailed
deriving DecidableEq, Repr

/-- The rows of the table of operations and events, in its order. -/
inductive Instr
  /-- ADD (R294). -/
  | add (i : Ins)
  /-- SUB (R294). -/
  | sub (i : Ins)
  /-- MUL (R294). -/
  | mul (i : Ins)
  /-- AND (R293). -/
  | and (i : Ins)
  /-- OR (R293). -/
  | or (i : Ins)
  /-- XOR (R293). -/
  | xor (i : Ins)
  /-- SHL (R294). -/
  | shl (i : Ins)
  /-- SHR (R294). -/
  | shr (i : Ins)
  /-- SRA (R294). -/
  | sra (i : Ins)
  /-- MIN (R294). -/
  | min (i : Ins)
  /-- MAX (R294). -/
  | max (i : Ins)
  /-- ADD_I (R294). -/
  | addI (i : Ins)
  /-- SUB_I (R294). -/
  | subI (i : Ins)
  /-- MUL_I (R294). -/
  | mulI (i : Ins)
  /-- AND_I (R293). -/
  | andI (i : Ins)
  /-- OR_I (R293). -/
  | orI (i : Ins)
  /-- XOR_I (R293). -/
  | xorI (i : Ins)
  /-- SHL_I (R294). -/
  | shlI (i : Ins)
  /-- SHR_I (R294). -/
  | shrI (i : Ins)
  /-- SRA_I (R294). -/
  | sraI (i : Ins)
  /-- MIN_I (R294). -/
  | minI (i : Ins)
  /-- MAX_I (R294). -/
  | maxI (i : Ins)
  /-- MOVI (R293). -/
  | movi (i : Ins)
  /-- MOVHI (R293). -/
  | movhi (i : Ins)
  /-- CMP (R295). -/
  | cmp (i : Ins)
  /-- CMP_I (R295). -/
  | cmpI (i : Ins)
  /-- PAND (R293). -/
  | pand (i : Ins)
  /-- POR (R293). -/
  | por (i : Ins)
  /-- PXOR (R293). -/
  | pxor (i : Ins)
  /-- PNOT (R293). -/
  | pnot (i : Ins)
  /-- BR (R293). -/
  | br (i : Ins)
  /-- BR_REG (R293). -/
  | brReg (i : Ins)
  /-- BR_LINK (R293). -/
  | brLink (i : Ins)
  /-- BR_FORK (R246). -/
  | brFork (i : Ins)
  /-- HSET (R298). -/
  | hset (i : Ins)
  /-- HGET (R298). -/
  | hget (i : Ins)
  /-- HALT (R247). -/
  | halt (i : Ins)
  /-- COMMIT (R275). -/
  | commit (i : Ins)
  /-- FENCE_E (R268). -/
  | fenceE (i : Ins)
  /-- SEM_WAIT (R266). -/
  | semWait (i : Ins)
  /-- SEM_POST (R266). -/
  | semPost (i : Ins)
  /-- TOKEN_WAIT (R262). -/
  | tokenWait (i : Ins)
  /-- TOKEN_SIGNAL (R262). -/
  | tokenSignal (i : Ins)
  /-- LMM (R117). -/
  | lmm (i : Ins)
  /-- LMM_RES2 (R114). -/
  | lmmRes2 (i : Ins)
  /-- LMM_RES4 (R114). -/
  | lmmRes4 (i : Ins)
  /-- LMM_RES8 (R114). -/
  | lmmRes8 (i : Ins)
  /-- LMM_RR (R114). -/
  | lmmRr (i : Ins)
  /-- TCFG (R112). -/
  | tcfg (i : Ins)
  /-- TZERO (R326). -/
  | tzero (i : Ins)
  /-- TMOVE (R327). -/
  | tmove (i : Ins)
  /-- NTT (R154). -/
  | ntt (i : Ins)
  /-- INTT (R155). -/
  | intt (i : Ins)
  /-- AUTO (R172). -/
  | auto (i : Ins)
  /-- VCHAIN (R223). -/
  | vchain (i : Ins)
  /-- VRED (R231). -/
  | vred (i : Ins)
  /-- VHIST_ARM (R232). -/
  | vhistArm (i : Ins)
  /-- VHIST_CLEAR (R232). -/
  | vhistClear (i : Ins)
  /-- VHIST_READ (R232). -/
  | vhistRead (i : Ins)
  /-- MRED (R225). -/
  | mred (i : Ins)
  /-- RESCALE (R226). -/
  | rescale (i : Ins)
  /-- LD (R308). -/
  | ld (i : Ins)
  /-- LD_S (R309). -/
  | ldS (i : Ins)
  /-- ST_S (R309). -/
  | stS (i : Ins)
  /-- LD_H (R310). -/
  | ldH (i : Ins)
  /-- ST_H (R310). -/
  | stH (i : Ins)
  /-- LD_C (R312). -/
  | ldC (i : Ins)
  /-- LDT (R313). -/
  | ldt (i : Ins)
  /-- STT (R313). -/
  | stt (i : Ins)
  /-- GATHER (R315). -/
  | gather (i : Ins)
  /-- SCATTER (R315). -/
  | scatter (i : Ins)
  /-- RPUT (R316). -/
  | rput (i : Ins)
  /-- RGET (R316). -/
  | rget (i : Ins)
  /-- RADD (R317). -/
  | radd (i : Ins)
  /-- FILL (R320). -/
  | fill (i : Ins)
  /-- CKSUM (R321). -/
  | cksum (i : Ins)
  /-- KEXP (R196). -/
  | kexp (i : Ins)
  /-- QUEUE_FULL_ISSUE (R252). -/
  | queueFullIssue (c : Fin 64) (t : Fin 16)
  /-- TOKEN_PLACE_ISSUE (R258). -/
  | tokenPlaceIssue (c : Fin 64) (t : Fin 16)
  /-- SLOT_STALL_RESUME (R66). -/
  | slotStallResume (c : Fin 64) (t : Fin 16)
  /-- TOKEN_WAIT_SATISFIED (R262). -/
  | tokenWaitSatisfied (c : Fin 64) (t : Fin 16)
  /-- SEM_WAIT_SATISFIED (R266). -/
  | semWaitSatisfied (c : Fin 64) (t : Fin 16)
  /-- FENCE_RELEASE (R268). -/
  | fenceRelease (c : Fin 64) (t : Fin 16)
  /-- FORK_THREAD_START (R246). -/
  | forkThreadStart (c : Fin 64) (t : Fin 16)
  /-- LME_INSTRUCTION_START (R120). -/
  | lmeInstructionStart (c : Fin 64)
  /-- LME_INSTRUCTION_COMPLETE (R124). -/
  | lmeInstructionComplete (c : Fin 64)
  /-- LME_ABORT (R126). -/
  | lmeAbort (c : Fin 64) (code : BitVec 8)
  /-- TE_INSTRUCTION_START (R174). -/
  | teInstructionStart (c : Fin 64)
  /-- TE_INSTRUCTION_COMPLETE (R178). -/
  | teInstructionComplete (c : Fin 64)
  /-- TE_ABORT (R168). -/
  | teAbort (c : Fin 64) (perm : Option Nat)
  /-- VE_INSTRUCTION_START (R234). -/
  | veInstructionStart (c : Fin 64) (env : Option AccessErr)
  /-- VE_INSTRUCTION_COMPLETE (R238). -/
  | veInstructionComplete (c : Fin 64)
  /-- VE_ABORT (R242). -/
  | veAbort (c : Fin 64)
  /-- SE_INSTRUCTION_START (R343). -/
  | seInstructionStart (c : Fin 64)
  /-- TRANSFER_ISSUE (R341). -/
  | transferIssue (c : Fin 64) (id : Nat)
  /-- TRANSFER_COMPLETE (R341). -/
  | transferComplete (c : Fin 64) (x : Nat) (found : List (Nat × EccFind))
  /-- SE_INSTRUCTION_COMPLETE (R260). -/
  | seInstructionComplete (c : Fin 64) (id : Nat)
  /-- KEXP_HEADER_ARRIVAL (R198). -/
  | kexpHeaderArrival (c : Fin 64) (id : Nat) (found : List (Nat × EccFind))
  /-- TRANSFER_TIMEOUT (R358). -/
  | transferTimeout (c : Fin 64) (x : Nat)
  /-- REMOTE_TOKEN_DELIVER (R264). -/
  | remoteTokenDeliver (c : Fin 64) (q : Fin 16)
  /-- TOKEN_STARVED (R265). -/
  | tokenStarved (c : Fin 64)
  /-- ENGINE_WATCHDOG_EXPIRY (R272). -/
  | engineWatchdogExpiry (c : Fin 64) (u : FixedEngine)
  /-- POUR_NO_PROGRESS_TIMEOUT (R272). -/
  | pourNoProgressTimeout (f : Fin 16)
  /-- FLASK_QUIET (R270). -/
  | flaskQuiet (f : Fin 16)
  /-- POUR_NORMAL_END (R273). -/
  | pourNormalEnd (f : Fin 16)
  /-- COMMIT_FLIP (R276). -/
  | commitFlip (f : Fin 16)
  /-- POUR_CODE_LOADED (R244). -/
  | pourCodeLoaded (f : Fin 16) (found : List (Nat × EccFind))
  /-- INFO (R466). -/
  | info (h : CpHdr) (p : List Byte)
  /-- ERR_CLEAR (R471). -/
  | errClear (h : CpHdr) (p : List Byte)
  /-- MEM_READ (R467). -/
  | memRead (h : CpHdr) (p : List Byte) (found : List (Nat × EccFind))
  /-- MEM_WRITE (R469). -/
  | memWrite (h : CpHdr) (p : List Byte) (found : List (Nat × EccFind))
  /-- REG_READ (R470). -/
  | regRead (h : CpHdr) (p : List Byte)
  /-- REG_WRITE (R470). -/
  | regWrite (h : CpHdr) (p : List Byte)
  /-- MOULD_LOAD (R472). -/
  | mouldLoad (h : CpHdr) (p : List Byte)
  /-- MOULD_COMMIT (R473). -/
  | mouldCommit (h : CpHdr) (p : List Byte)
  /-- MOULD_APPLY_DONE (R409). -/
  | mouldApplyDone
  /-- POUR_START (R474). -/
  | pourStart (h : CpHdr) (p : List Byte)
  /-- POUR_ABORT (R476). -/
  | pourAbort (h : CpHdr) (p : List Byte)
  /-- FLASK_RESET (R477). -/
  | flaskReset (h : CpHdr) (p : List Byte)
  /-- ATTEST (R478). -/
  | attest (h : CpHdr) (p : List Byte)
  /-- DEBUG_LEVEL (R479). -/
  | debugLevel (h : CpHdr) (p : List Byte)
  /-- OWN (R480). -/
  | own (h : CpHdr) (p : List Byte)
  /-- DECOMMISSION (R481). -/
  | decommission (h : CpHdr) (p : List Byte)
  /-- POWER_STATE (R482). -/
  | powerState (h : CpHdr) (p : List Byte)
  /-- WARM_RESET (R483). -/
  | warmReset (h : CpHdr) (p : List Byte)
  /-- WARM_RESET_BEGIN (R569). -/
  | warmResetBegin
  /-- COMMAND_TIMEOUT (R465). -/
  | commandTimeout (ctag : BitVec 16)
  /-- FREEZE (R579). -/
  | freeze (v : Bool)
  /-- SNAP (R580). -/
  | snap
  /-- SNAP_DONE (R580). -/
  | snapDone
  /-- CLRALL (R582). -/
  | clrall
  /-- CNT_VAL_WRITE (R577). -/
  | cntValWrite (k : CounterId) (v : BitVec 48)
  /-- WLOG_WRITE (R586). -/
  | wlogWrite (v : BitVec 5)
  /-- WCLR (R586). -/
  | wclr
  /-- WINDOW_END (R585). -/
  | windowEnd
  /-- PORT_EN_WRITE (R448). -/
  | portEnWrite (p : Fin 32) (en : Bool)
  /-- HALTREQ (R541). -/
  | haltreq (c : Fin 64) (v : Bool)
  /-- CP_LOCK (R451). -/
  | cpLock
  /-- CP_LOSS_OF_LOCK (R459). -/
  | cpLossOfLock
  /-- CP_LIVENESS_EXPIRY (R459). -/
  | cpLivenessExpiry
  /-- CP_SYNC (R460). -/
  | cpSync (p : List Byte)
  /-- CP_SYNC_ACK (R460). -/
  | cpSyncAck (p : List Byte)
  /-- CP_SYNC_TIMER (R460). -/
  | cpSyncTimer
  /-- CP_IDLE (R453). -/
  | cpIdle (h : CpHdr)
  /-- CP_NAK (R456). -/
  | cpNak (h : CpHdr)
  /-- CP_RESEND_TIMEOUT (R456). -/
  | cpResendTimeout
  /-- CP_IDLE_TIMER (R458). -/
  | cpIdleTimer
  /-- STICKY_EVENT_TIMER (R485). -/
  | stickyEventTimer
  /-- FAB_TRAIN_DONE (R425). -/
  | fabTrainDone (p : Fin 32)
  /-- FAB_TRAIN_TIMEOUT (R425). -/
  | fabTrainTimeout (p : Fin 32) (lanes : BitVec 8)
  /-- FAB_PORT_RETRY_TIMER (R425). -/
  | fabPortRetryTimer (p : Fin 32)
  /-- HELLO (R427). -/
  | hello (p : Fin 32) (d : List Byte)
  /-- KEYX (R428). -/
  | keyx (p : Fin 32) (d : List Byte)
  /-- KEYX_TIMEOUT (R528). -/
  | keyxTimeout (p : Fin 32)
  /-- FAB_LOSS_OF_LOCK (R434). -/
  | fabLossOfLock (p : Fin 32)
  /-- FAB_LIVENESS_EXPIRY (R434). -/
  | fabLivenessExpiry (p : Fin 32)
  /-- IDLE (R424). -/
  | idle (p : Fin 32) (hack : BitVec 32) (d : List Byte)
  /-- FAB_IDLE_TIMER (R424). -/
  | fabIdleTimer (p : Fin 32)
  /-- LSA (R433). -/
  | lsa (p : Fin 32) (h : FabHdr) (d : List Byte)
  /-- LSA_TIMER (R433). -/
  | lsaTimer
  /-- LSA_AGE_OUT (R433). -/
  | lsaAgeOut (serial : BitVec 64)
  /-- ROUTE_RECOMPUTE_DONE (R437). -/
  | routeRecomputeDone
  /-- LASTSEQ_TIMEOUT (R440). -/
  | lastseqTimeout (p : Fin 32)
  /-- PUT (R444). -/
  | put (p : Fin 33) (h : FabHdr) (d : List Byte) (found : List (Nat × EccFind))
  /-- ADD_FRAME (R444). -/
  | addFrame (p : Fin 33) (h : FabHdr) (d : List Byte) (found : List (Nat × EccFind))
  /-- GET_REQ (R444). -/
  | getReq (p : Fin 33) (h : FabHdr) (d : List Byte) (found : List (Nat × EccFind))
  /-- POST (R446). -/
  | post (p : Fin 33) (h : FabHdr) (d : List Byte)
  /-- ACK (R443). -/
  | ack (p : Fin 33) (h : FabHdr) (d : List Byte)
  /-- NACK (R443). -/
  | nack (p : Fin 33) (h : FabHdr) (d : List Byte)
  /-- GET_RESP (R443). -/
  | getResp (p : Fin 33) (h : FabHdr) (d : List Byte)
  /-- LOST (R442). -/
  | lost (p : Fin 33) (h : FabHdr) (d : List Byte)
  /-- CROSSBAR_PARITY_ERROR (R447). -/
  | crossbarParityError (p : Fin 33) (h : FabHdr)
  /-- MESH_PARITY_ERROR (R490). -/
  | meshParityError (l : MeshLink) (fourth : Bool)
  /-- SCRUB (R369). -/
  | scrub (p : ScrubAt) (working : Bool) (found : EccFind)
  /-- CHANNEL_MOVE_DONE (R377). -/
  | channelMoveDone (st : Fin 32) (found : List (Nat × EccFind))
  /-- THERMAL_SAMPLE (R384). -/
  | thermalSample (stackT : List Nat) (coreT : List Nat) (hubT : Nat)
  /-- GOVERNOR_TICK (R551). -/
  | governorTick (mv : Nat) (mw : Nat)
  /-- RAMP_LIMIT_TIMER (R554). -/
  | rampLimitTimer
  /-- CORE_FENCE (R495). -/
  | coreFence (c : Fin 64) (cause : FenceCause)
  /-- FENCE_DEFERRED_EFFECT (R494). -/
  | fenceDeferredEffect (c : Fin 64)
  /-- FLASK_RECOVERY (R497). -/
  | flaskRecovery (f : Fin 16)
  /-- RETAINED_COPY_DONE (R498). -/
  | retainedCopyDone (c : Fin 64) (found : List (Nat × EccFind))
  /-- TIME_SHARE_SWAP (R502). -/
  | timeShareSwap (c : Fin 64)
  /-- SECURITY_JOB_COMPLETE (R527). -/
  | securityJobComplete
  /-- BNE_VERIFY_COMPLETE (R530). -/
  | bneVerifyComplete
  /-- DEBUG_ZEROISE_DONE (R538). -/
  | debugZeroiseDone
  /-- POWER_TRANSITION_COMPLETE (R559). -/
  | powerTransitionComplete (failed : List (Nat × Nat))
  /-- POWER_ON (R567). -/
  | powerOn (mv : Nat)
  /-- BULK_CHARGED (R548). -/
  | bulkCharged
  /-- TRAINING_DONE (R571). -/
  | trainingDone (failed : List (Nat × Nat))
  /-- POWER_LOSS (R549). -/
  | powerLoss
  /-- INPUT_FAULT (R549). -/
  | inputFault (overV : Bool)
  /-- INPUT_RECOVERY_TIMER (R549). -/
  | inputRecoveryTimer
  /-- PRESENT_MATE (R590). -/
  | presentMate
  /-- PRESENT_BREAK (R590). -/
  | presentBreak
  /-- RESET_N (R568). -/
  | resetN
  /-- WAKE_N (R593). -/
  | wakeN
  /-- CLOCK_FAULT (R566). -/
  | clockFault (d : Fin 100) (supply : Bool)
  /-- CLEAR_FAULTS (R597). -/
  | clearFaults (pec : Bool)
  /-- STATUS_WORD (R596). -/
  | statusWord (pec : Bool)
  /-- READ_VIN (R596). -/
  | readVin (pec : Bool)
  /-- READ_IIN (R596). -/
  | readIin (pec : Bool)
  /-- READ_TEMPERATURE_1 (R596). -/
  | readTemperature1 (pec : Bool)
  /-- READ_TEMPERATURE_2 (R596). -/
  | readTemperature2 (pec : Bool)
  /-- READ_TEMPERATURE_3 (R596). -/
  | readTemperature3 (pec : Bool)
  /-- READ_PIN (R596). -/
  | readPin (pec : Bool)
  /-- PMBUS_REVISION (R596). -/
  | pmbusRevision (pec : Bool)
  /-- MFR_WAKE (R597). -/
  | mfrWake (v : BitVec 8) (pec : Bool)
  /-- MFR_STICKY (R596). -/
  | mfrSticky (pec : Bool)
  /-- MFR_POWER_STATE (R596). -/
  | mfrPowerState (pec : Bool)
  /-- SMBUS_INVALID_COMMAND (R596). -/
  | smbusInvalidCommand (code : BitVec 8)
  /-- TAP_RESET (R598). -/
  | tapReset
  /-- EXTEST (R598). -/
  | extest
  /-- IDCODE (R598). -/
  | idcode
  /-- SAMPLE_PRELOAD (R598). -/
  | samplePreload
  /-- DBGREG (R598). -/
  | dbgreg (d : BitVec 128)
  /-- DBGMEM (R598). -/
  | dbgmem (d : BitVec 128) (found : List (Nat × EccFind))
  /-- BYPASS (R598). -/
  | bypass
  /-- UNDEFINED_OPCODE_ISSUE (R286). -/
  | undefinedOpcodeIssue (op : BitVec 8) (i : Ins)
  /-- BAD_OPCODE_COMMAND (R464). -/
  | badOpcodeCommand (op : BitVec 8) (h : CpHdr) (p : List Byte)
  /-- CP_FRAME_DISCARD (R453). -/
  | cpFrameDiscard (seq : Option (BitVec 32))
  /-- FABRIC_FRAME_DISCARD (R420). -/
  | fabricFrameDiscard (p : Fin 32) (why : DiscardCause)
  /-- SHA512_DIGEST_DONE (R534). -/
  | sha512DigestDone
  /-- BNE_CURVE_CHECK_DONE (R533). -/
  | bneCurveCheckDone
  /-- FUSE_PROGRAMMING_DONE (R518). -/
  | fuseProgrammingDone
  /-- LIFECYCLE_ZEROING_DONE (R520). -/
  | lifecycleZeroingDone
  /-- SELF_TEST_DONE (R561). -/
  | selfTestDone (failed : List (Fin 64))
  /-- RESET_N_RELEASE (R568). -/
  | resetNRelease
  /-- RESET_SEQUENCE_DONE (R567). -/
  | resetSequenceDone
  /-- TIME_SHARE_SWAP_DONE (R502). -/
  | timeShareSwapDone (c : Fin 64)
deriving DecidableEq, Repr

end Sys2Proof
end

