-- ==== Sys2Proof/Decode.lean ====
section
/-! DEFINITION. The command that a word of the table spells. -/

namespace Sys2Proof

/-- The command that the `nbits` bits of `w` spell. The table of operations and events gives no row bits: an instruction
word reaches the block inside its command (the field `bits` of Ins), so no word spells a command. -/
def decodeTableWord (_nbits _w : Nat) : Option Instr := none

end Sys2Proof
end

