-- ==== Sys2Proof/Config.lean ====
section
/-! DEFINITION. What the manual leaves open, as constants without a body: free values, random draws, and the keys that
the ROM and the fuses hold. No proof can learn a value of any of them. -/

namespace Sys2Proof.Config

/-- A byte whose value the manual leaves undefined (log 3): the argument is the state's count of free values used. -/
opaque freeByte : Nat → BitVec 8

/-- The choice that keeps FRCP, FRSQRT and FEXP2 within 1 ulp of the exact value (R217, log 4), by opcode and operand. -/
opaque fpPick : Nat → BitVec 32 → Nat

/-- The results that the manual leaves unstated for an operand of a floating stage (FRSQRT of a zero; log 4), by opcode
and operand. -/
opaque fpOpen : Nat → BitVec 32 → BitVec 32

/-- Where a map-out puts a line (R377 does not state it, log 64), by stack, line and channel moved: it counts through the
channels that are left. -/
opaque movedTo : Nat → Nat → Nat → Nat

/-- The cocoon's random number generator (R524, R537): one 576-bit draw per argument (log 5). -/
opaque random : Nat → Nat

/-- The factory key that the ROM holds, x then y (R405, log 6). -/
opaque factoryKey : Nat × Nat

/-- The public key of the device CA root that the ROM holds, x then y (R522, log 6). -/
opaque rootKey : Nat × Nat

/-- The straps ADDR[2:0] of the SMBus target's address (R595, log 70). -/
opaque addrStraps : BitVec 3

/-- The serial number fused at manufacture (Table 17-1, log 7). -/
opaque serial : BitVec 64

/-- The identity private key fused at manufacture (Table 17-1, log 7). -/
opaque idKey : Nat

/-- The certificate chain fused at manufacture, 1,024 bytes by index (Table 17-1, log 7). -/
opaque cert : Nat → BitVec 8

end Sys2Proof.Config
end

