-- ==== Sys2Proof/Machine/State.lean ====
section
/-! DEFINITION. The state of the block as plain data, and the state at reset. Large stores are sparse tables; the
default of each is named beside its field. -/

namespace Sys2Proof.Machine

/-! ### One core -/

/-- The run state of a thread (Table 9-1). -/
inductive Run
  | run | stall | halted
deriving DecidableEq, Repr

/-- Why a thread holds an instruction it could not finish issuing (R66, R246, R252, R258, R262, R266, R268, R275). -/
inductive Hold
  | queueFull
  | tokenPlace
  | slot
  | tokenWait (q n : Nat)
  | signalPlace (q n : Nat)
  | semWait (pair : Nat) (empty : Bool)
  | fence (mask : BitVec 4)
  | fork (t : Fin 16)
  | commit
deriving DecidableEq, Repr

/-- An instruction together with its opcode. -/
structure Op where
  opc : BitVec 8
  ins : Ins
deriving DecidableEq, Repr

/-- An instruction that a thread holds, why, and the cycle in which the wait began (R263). -/
structure Held where
  why : Hold
  ticket : Nat
  op : Op
deriving DecidableEq, Repr

/-- The state of a thread (Table 9-1), with the registers whose writes are outstanding (R250). -/
structure Thread where
  pc : BitVec 32
  s : Sparse Word          -- default 0
  p : BitVec 8             -- bit i is p_i; bit 0 reads 1
  run : Run
  held : Option Held
  busy : List Nat
deriving DecidableEq, Repr

/-- A thread that has not started (Table 9-1). -/
def Thread.idle : Thread := ⟨0, [], 1, .halted, none, []⟩

/-- A token queue (R257). -/
structure TokQ where
  count : Nat
  reserved : Nat
deriving DecidableEq, Repr

/-- A semaphore pair (R266). -/
structure Sem where
  full : Nat
  empty : Nat
deriving DecidableEq, Repr

/-- The state of a core that a commit record holds (Table 9-7). -/
structure Rec where
  threads : Sparse Thread  -- default Thread.idle
  slots : Sparse Byte      -- byte b of slot h at 128 h + b; default 0
  ctab : Sparse Byte       -- byte b of entry e at 64 e + b; default 0
  tokq : Sparse TokQ       -- default ⟨0, 0⟩
  sems : Sparse Sem        -- default ⟨0, 0⟩
deriving DecidableEq, Repr

/-- What a B cell's attribute says of the digit it stands beside: sign, exponent, and whether the element was Inf or
NaN (R96). -/
structure BAttr where
  neg : Bool
  exp : Int
  special : Nat            -- 0 finite, 1 Inf, 2 NaN
deriving DecidableEq, Repr

/-- One cell of a B tile: the digit, and the attributes of its low and high halves (R90, R96). -/
structure BCell where
  digit : BitVec 4
  lo : BAttr
  hi : BAttr
deriving DecidableEq, Repr

/-- An empty B cell. -/
def BCell.zero : BCell := ⟨0, ⟨false, 0, 0⟩, ⟨false, 0, 0⟩⟩

/-- The class of a C tile (R98). -/
inductive CClass
  | n | r | w
deriving DecidableEq, Repr

/-- A declared shape (Table 4-3). -/
structure Shape where
  rows : Nat
  cols : Nat
  pair : Bool
deriving DecidableEq, Repr

/-- A tile register with its state (Tables 4-2, 4-3). `data` holds the bytes of an A or C tile, `cells` the cells of a
B tile (array row r, column c at 512 r + c), `status` the NaN, +Inf and −Inf bits of the accumulator that starts at
a byte offset, `mag` BMAG or CMAG. -/
structure Tile where
  data : Sparse Byte       -- default 0
  cells : Sparse BCell     -- default BCell.zero
  status : Sparse (BitVec 3) -- bit 0 NaN, bit 1 +Inf, bit 2 −Inf; default 0
  fmt : BitVec 8
  cls : CClass
  shape : Option Shape
  valid : Bool
  mag : Sparse (BitVec 32) -- default 0
deriving DecidableEq, Repr

/-- A tile at the start of a pour (Table 4-3). -/
def Tile.init : Tile := ⟨[], [], [], 0x05#8, .n, none, true, []⟩

/-- A transform or vector buffer with the VALID bit of each 16 KiB segment (R158, R207). -/
structure Buf where
  data : Sparse Byte       -- default 0
  valid : Sparse Bool      -- default true
deriving DecidableEq, Repr

/-- A buffer at the start of a pour. -/
def Buf.init : Buf := ⟨[], []⟩

/-- The tag of an operand reuse latch (R108). -/
structure Latch where
  operand : Nat
  row : Nat
  k0 : Nat
  fmt : BitVec 8
  k : Nat
deriving DecidableEq, Repr

/-- The exponent histogram (R232, R233): the armed stream address, element count and format, and the bins. -/
structure Hist where
  armed : Option (BitVec 32 × Nat × BitVec 8)
  bins : Sparse (BitVec 32) -- default 0
deriving DecidableEq, Repr

/-- What a logical core consists of besides its scratchpad. -/
structure Arch where
  rcd : Rec
  tiles : Sparse Tile      -- by tile code 4 to 7, 0xA to 0xD; default Tile.init
  bufs : Sparse Buf        -- by tile code 0 to 3, 0xE, 0xF; default Buf.init
  hist : Hist
  latches : List Latch
deriving DecidableEq, Repr

/-- A logical core at the start of a pour. -/
def Arch.init : Arch := ⟨⟨[], [], [], [], []⟩, [], [], ⟨none, []⟩, []⟩

/-- An instruction in an engine queue: with its PC, the scalar values it read at issue (R252, R289), and the cycle in
which it entered. -/
structure QEnt where
  op : Op
  pc : BitVec 32
  vals : List Word
  born : Nat
deriving DecidableEq, Repr

/-- A run of half bytes of a tile or buffer (by tile code; code 16 is the histogram): the smallest part that an element, or
a cell of a B tile, takes. -/
structure Range where
  buf : Nat
  lo : Nat
  hi : Nat
deriving DecidableEq, Repr

/-- The metadata that an instruction writes back to a ciphertext slot (R135). -/
structure MdOut where
  noise : Nat
  scale : Nat
  ksid : Word
  domain : Bool
  unreliable : Bool
deriving DecidableEq, Repr

/-- A started instruction of a fixed-latency engine: its start cycle, occupancy and result latency, the descriptors it
copied at start (R65), the runs it reads and writes, and what its completion or abort does. `magAdd` says that the
magnitudes are added to those of the tile (R116), `abortAt` the slice at which the abort comes. -/
structure Flight where
  ent : QEnt
  descs : List (List Byte)
  start : Nat
  occ : Nat
  lat : Nat
  reads : List Range
  writes : List Range
  slot : Option Nat
  md : Option MdOut
  mags : List (Nat × Nat × BitVec 32) -- tile, column, BMAG or CMAG
  magAdd : Bool
  cover : List Nat                 -- tiles of which every element is written
  abort : Option (BitVec 8)
  abortAt : Nat
deriving DecidableEq, Repr

/-- A fixed-latency engine: its queue, the cycle in which its head became the head, the previous instruction's start
plus occupancy, that occupancy, the completion of the last LMM with an index operand (R124), and the started instructions
in order. -/
structure Engine where
  queue : List QEnt
  ticket : Nat
  free : Nat
  occ : Nat
  ready : Nat
  flights : List Flight
deriving DecidableEq, Repr

/-- An empty engine. -/
def Engine.init : Engine := ⟨[], 0, 0, 0, 0, []⟩

/-- What a transfer carries: data of the instruction, indices for the walker (R347), the key header of a KEXP (R198), or
only a post (R350, R446). -/
inductive XKind
  | data | walker | header | post
deriving DecidableEq, Repr

/-- A transfer that holds a tag (R341). `pool` is 0 read, 1 write, 2 remote; `u0` and `n` name the access units it
carries; `blk` is the 512-byte line of a local transfer, or the 2 KiB block of a remote one with its module; `tag` its
remote tag; `time` the local time at its issue (R357); `path` the moves of a write to another logical core (R180, R181). -/
structure Xfer where
  num : Nat
  kind : XKind
  pool : Nat
  u0 : Nat
  n : Nat
  blk : Nat
  tag : Nat
  time : Nat
  path : List Nat
deriving DecidableEq, Repr

/-- An active instruction of the stream engine (R343): the descriptors it copied at start (R65), its access units, the
units whose reads and whose writes have been issued, its transfers, whether a byte has landed in each of its two
destinations, its fault, what its reads have delivered by unit, and which units have arrived. -/
structure SeAct where
  id : Nat
  ent : QEnt
  descs : List (List Byte)
  total : Nat
  nextR : Nat
  nextW : Nat
  xfers : List Xfer
  landed : Bool
  landed2 : Bool
  stale : Bool                 -- an STT has read a tile or segment with VALID 0 (R346)
  fault : Option (BitVec 8)
  got : Sparse Byte            -- byte b of unit u at 256 u + b; default 0
  arrived : Sparse Bool        -- by unit; default false
  index : List Nat             -- indices that the walker has read
  walked : Nat                 -- indices that the walker has asked for
  cuts : List Nat              -- the first index of each of the walker's transfers
  wrote : List Nat             -- the tiles of an LDT in which an element has landed
  checked : Bool               -- the key header has passed its checks
  key : List (Nat × Nat)       -- the memory of a KEXP's key: spans as key and length
  dirty : Bool                 -- that memory was written while the KEXP read it (R200)
  posted : Nat                 -- 0 no post sent, 1 sent, 2 answered
deriving DecidableEq, Repr

/-- The walker's read of the index operand of the LMM at the head of the limb matrix engine's queue (R349): its number, the
LMM, the descriptor as the walker copied it, its transfers, the indices asked for, those that have arrived with the cycle
of their arrival, and what ended the read. -/
structure Walk where
  id : Nat
  ent : QEnt
  desc : List Byte
  xfers : List Xfer
  asked : Nat
  got : List (Nat × Nat)
  fault : Option (BitVec 8)
deriving DecidableEq, Repr

/-- The stream engine of a core. -/
structure Se where
  queue : List QEnt
  ticket : Nat
  active : List SeAct
  walk : Option Walk
  nextId : Nat
  nextX : Nat
  turn : Nat                   -- the active instruction that issued a transfer last (R343)
deriving DecidableEq, Repr

/-- A physical core. -/
structure Core where
  arch : Arch
  lme : Engine
  te : Engine
  ve : Engine
  se : Se
  remoteTok : List (Nat × Nat × FabHdr)  -- inbound queue, port, and request of each remote token that waits at a full queue (R264)
  lastIssued : Nat         -- the thread that issued last (R249)
  issueAt : Nat            -- the first cycle in which the sequencer may issue again (R249)
  loaded : BitVec 8        -- chains in the twiddle store and prime table (R161, R210)
  hazchk : Bool
  faultCode : BitVec 8
  faultUnit : BitVec 4
  faultThread : BitVec 4
  faultPc : BitVec 32
  faultWord : Word
  haltreq : Bool
  pwr : BitVec 16          -- powered bank groups (SPAD_STATUS)
  spadCe : Nat
  spadUe : Nat
  satSe : BitVec 32
  satVe : BitVec 32
  serves : Option (Nat × Nat) -- flask and logical core now resident
  gated : Bool             -- the clock domain is gated by a fence or a trip
deriving DecidableEq, Repr

/-- A core at reset (Tables 9-9, 12-7, 17-8, 19-3). -/
def Core.init : Core :=
  { arch := Arch.init, lme := Engine.init, te := Engine.init, ve := Engine.init, se := ⟨[], 0, [], none, 0, 0, 0⟩, remoteTok := [],
    lastIssued := 15, issueAt := 0, loaded := 0, hazchk := false, faultCode := 0, faultUnit := 0, faultThread := 0,
    faultPc := 0, faultWord := 0, haltreq := false, pwr := 0xFFFF, spadCe := 0, spadUe := 0, satSe := 0, satVe := 0,
    serves := none, gated := false }

/-! ### The mould -/

/-- The record of one chain prime (Table 13-7) with its root table (R161). -/
structure Prime where
  q : Nat
  off : Nat
  pinv : Nat
  logq : Nat
  ninv : Nat
  msq : Nat
  qneg : Nat                       -- q′ and the fold constants F_q[1], F_q[3], F_q[4], computed at the commit (R397)
  f1 : Nat
  f3 : Nat
  f4 : Nat
  roots : List Nat
deriving DecidableEq, Repr

/-- A modulus chain (Tables 5-1, 13-6). -/
structure Chain where
  logn : Nat
  l : Nat
  k : Nat
  primes : List Prime
  qinv : List Nat
  logp : Nat
  noiseLimit : Nat
  vbound : Nat
  rndnoise : Nat
  ksnoise : List Nat
  fprint : List Byte
deriving DecidableEq, Repr

/-- A tier region (Table 13-8). -/
structure Region where
  space : Nat
  off : Nat
  size : Nat
  weight : Bool
  vb : Bool
  conf : Bool
  owner : Nat
  shadow : Nat
deriving DecidableEq, Repr

/-- A flask of the mould (Table 13-9). `parts` holds sixteen nibbles for each logical core. -/
structure FlaskDef where
  ncores : Nat
  mincores : Nat
  codeg : Nat
  declared : Bool
  mark : Bool
  chains : BitVec 8
  crreg : Nat
  wdog : Nat
  noprog : Nat
  ltmo : Nat
  rtmo : Nat
  coreList : List Nat
  spareList : List Nat
  parts : List (List Nat)
  windows : List (Nat × Nat)
  routes : Option (List Nat)
deriving DecidableEq, Repr

/-- A committed mould (chapter 13). -/
structure Mould where
  fabaddr : BitVec 12
  mnear : Nat
  mmid : Nat
  mfar : Nat
  pcap : Nat
  slew : Nat
  clken : BitVec 128
  chains : Sparse (Option Chain)     -- default none
  regions : List Region
  flasks : Sparse (Option FlaskDef)  -- default none
deriving DecidableEq, Repr

/-- MOULD_STATUS but for COMMITTED (Table 13-13). -/
structure MouldStatus where
  entry : BitVec 16
  sectype : BitVec 8
  secidx : BitVec 8
  reason : BitVec 8
  stage : BitVec 3
deriving DecidableEq, Repr

/-! ### Flasks and pours -/

/-- The first fault of a pour (R271). -/
structure FaultRec where
  code : BitVec 8
  lcore : Nat
  unit : BitVec 8
  thread : BitVec 8
  pc : BitVec 32
  word : Word
  raised : Option Nat              -- the mesh cycle in which an instruction raised it; none where no instruction did
deriving DecidableEq, Repr

/-- Why a flask is stopping. -/
inductive StopWhy
  | fault | abort | reset | recover | thermal
deriving DecidableEq, Repr

/-- Where a pour stands (Table 1-9). -/
inductive PStage
  | idle
  | loading
  | running
  | stopping (why : StopWhy)
  | copying
deriving DecidableEq, Repr

/-- A post or remote token: where it goes (module, logical core, semaphore half or inbound queue). -/
structure Dest where
  module : Nat
  lcore : Nat
  isSem : Bool
  index : Nat
  empty : Bool
deriving DecidableEq, Repr

/-- A host that time-shares two logical cores (R501): the parked one with its image (R502). The parked scratchpad lies in
the memory at space 9, logical core 64 f + l (log 9). -/
structure Share where
  host : Nat
  parked : Nat
  image : Arch
  swapping : Bool
  since : Nat                      -- the local time since which the resident one runs (R502)
deriving DecidableEq, Repr

/-- The run-time state of a flask. -/
structure Flask where
  stage : PStage
  arg : Word
  entry : BitVec 32
  code : Word
  codelen : Nat
  fault : Option FaultRec
  cseq : Nat
  notify : Bool
  map : List Nat                   -- physical core of each logical core
  spares : List Nat                -- unused spares
  paths : List (List Nat)          -- the route set in force, by ordered pair (R180, R182); empty for the default paths
  records : List Rec               -- the current commit record; empty before the first commit
  ext : List Dest                  -- posts and tokens from outside since the last commit (R497)
  peers : List (BitVec 12 × BitVec 6 × Nat) -- the instructions of modules and cores of which a request was checked for this pour (R355)
  oldPeers : List (BitVec 12 × BitVec 6 × Nat) -- those whose pour has ended since (R355)
  delivered : List Dest            -- outbound posts and tokens since the last commit (R505)
  suppress : List Dest             -- outbound posts and tokens the replay must not repeat (R505)
  orphans : List (Nat × Nat)       -- logical core and fenced physical core of each orphan
  copies : List (Nat × Nat)        -- fenced core and host of each RETAINED copy still to end
  shares : List Share
  replays : Nat
  lastProgress : Nat
  waiter : Option (BitVec 16 × BitVec 8) -- CTAG and opcode of the command that waits for quiet
deriving DecidableEq, Repr

/-- A flask with no pour. -/
def Flask.init : Flask :=
  { stage := .idle, arg := 0, entry := 0, code := 0, codelen := 0, fault := none, cseq := 0, notify := false, map := [],
    spares := [], paths := [], records := [], ext := [], peers := [], oldPeers := [], delivered := [], suppress := [], orphans := [], copies := [], shares := [],
    replays := 0, lastProgress := 0, waiter := none }

/-! ### Memory -/

/-- A stack of a tier (Table 12-7): 0 to 15 near, 16 to 27 mid, 28 to 31 far. -/
structure Stack where
  st : Nat
  temp : Nat
  level : Nat
  gated : Bool                     -- a trip has gated its traffic (R562)
  calm : Nat                       -- consecutive cool sampling periods (R385)
  used : Nat
  mapped : List Nat                -- channels mapped out
  dead : List Nat                  -- dead channels
  moving : Option Nat
  waiting : List Nat
  corrected : Sparse Nat           -- corrected blocks by channel; default 0
  ce : Nat
  ue : Nat
deriving DecidableEq, Repr

/-- A stack at reset. -/
def Stack.init : Stack := ⟨0, 0, 0, false, 0, 0, [], [], none, [], [], 0, 0⟩

/-! ### Control port -/

/-- The state of the control link (CP_STATUS). -/
inductive LinkSt
  | down | locking | sync | up
deriving DecidableEq, Repr

/-- A frame that the module sends on the control lane (Table 15-2). -/
structure CpFrame where
  type : BitVec 8
  replay : Bool
  seq : BitVec 32
  ackseq : BitVec 32
  credit : BitVec 16
  ctag : BitVec 16
  opcode : BitVec 8
  status : BitVec 8
  payload : List Byte
deriving DecidableEq, Repr

/-- An entry of the record of accepted commands (R461). -/
structure CmdRec where
  ctag : BitVec 16
  opcode : BitVec 8
  status : Option (BitVec 8)
  payload : Option (List Byte)
  time : Nat                       -- the local time of its acceptance (R465)
deriving DecidableEq, Repr

/-- A command that waits for an earlier ordered command (R462). -/
structure CmdWait where
  opcode : BitVec 8
  ctag : BitVec 16
  payload : List Byte
  found : List (Nat × EccFind)
deriving DecidableEq, Repr

/-- The control port. -/
structure Cp where
  st : LinkSt
  gotSync : Bool
  gotAck : Bool
  peerBufs : Nat
  peerCredit : Nat
  rxSeq : BitVec 32                -- ACKSEQ
  txSeq : BitVec 32                -- SEQ of the next sequenced frame
  txCount : Nat                    -- sequenced frames sent since the SYNC (R457)
  freed : BitVec 16                -- CREDIT
  held : List CpFrame              -- sent and not acknowledged
  ready : List CpFrame             -- responses and events that wait for credit or a link
  lane : List CpFrame              -- every frame sent, oldest first
  nakAt : Option Nat               -- when the last NAK of the present gap was sent (R455)
  heard : Nat                      -- when the last valid frame arrived (R459)
  ackAt : Nat                      -- when ACKSEQ last advanced, or frames were held or sent again since (R456)
  syncAt : Nat                     -- when the last SYNC was sent (R460)
  stickyAt : Option Nat            -- when the last STICKY event was sent (R485)
  downs : Nat
  resends : Nat
  naks : Nat
  discards : Nat
  record : List CmdRec             -- newest first, at most 256
  blocked : Bool                   -- an ordered command is still executing
  waiting : List CmdWait
deriving DecidableEq, Repr

/-- The control port at reset. -/
def Cp.init : Cp :=
  { st := .down, gotSync := false, gotAck := false, peerBufs := 0, peerCredit := 0, rxSeq := 0, txSeq := 0, txCount := 0, freed := 0,
    held := [], ready := [], lane := [], nakAt := none, heard := 0, ackAt := 0, syncAt := 0, stickyAt := none, downs := 0, resends := 0, naks := 0, discards := 0, record := [],
    blocked := false, waiting := [] }

/-- How far a background command has come. -/
inductive BgStage
  | hashing | verifying | applying | signing | checking | zeroising | fusing | zeroing | transition
  | waiting  -- a POWER_STATE behind another transition (R559)
deriving DecidableEq, Repr

/-- The background command that runs (R462). `data` is its request payload, or the report being signed. -/
structure Bg where
  opcode : BitVec 8
  ctag : BitVec 16
  stage : BgStage
  data : List Byte
deriving DecidableEq, Repr

/-! ### Security -/

/-- A verification or curve check of the big-number engine (R530, R533), and who asked for it. -/
inductive BneFor
  | mould | attest | debug | decommission | own | keyxCa (p : Nat) | keyxId (p : Nat) | keyxCurve (p : Nat)
deriving DecidableEq, Repr

/-- A job of the big-number engine. -/
structure BneJob where
  purpose : BneFor
  x : Nat
  y : Nat
  r : Nat
  sv : Nat
  digest : Nat
deriving DecidableEq, Repr

/-- A job of the security processor (R527). -/
inductive SpJob
  | sign | ecdh (p : Nat) | fuse
deriving DecidableEq, Repr

/-- A job of the SHA-512 engine (R534). -/
inductive ShaJob
  | mould | report
deriving DecidableEq, Repr

/-- The security state of the cocoon, its fuses included (Tables 17-1, 17-8). -/
structure Sec where
  serial : Word
  idKeyBlown : Bool                -- every bit of ID_KEY is blown (R520)
  idKeyOk : Bool                   -- the check word of ID_KEY holds (R521)
  ownerKey : List Byte             -- 132 bytes once fused
  ownerHash : List Byte            -- 64 bytes once fused
  lcOwned : BitVec 16
  lcDecom : BitVec 16
  lifecycle : Nat                  -- 0 Blank, 1 Owned, 2 Decommissioned
  debug : Nat                      -- 0 Closed, 1 Observe, 2 Open
  dbgSeen : Bool
  nonce : List Byte                -- DBG_NONCE, 32 bytes
  ksids : List Word
  ksovf : Bool
  sp : List SpJob
  spAt : Nat                       -- when the first of these jobs started (R528)
  bne : List BneJob
  bneShort : List BneJob
  sha : List ShaJob
deriving DecidableEq, Repr

/-! ### Fabric -/

/-- A fabric frame that the module sends: its type, header and payload, in clear within the module (R422). A frame that goes
on to a peer holds the buffer of the port and receive channel by which it came, until it leaves (R423, R424). -/
structure FabFrame where
  type : BitVec 8
  hdr : FabHdr
  payload : List Byte
  inBuf : Option (Nat × Nat) := none
deriving DecidableEq, Repr

/-- A link entry of an advertisement (Table 14-5). -/
structure LinkEnt where
  port : Nat
  up : Bool
  naddr : BitVec 12
  nport : Nat
  lastseq : BitVec 32
deriving DecidableEq, Repr

/-- The link state that a module advertises (Table 14-5). -/
structure Lsa where
  serial : Word
  addr : BitVec 12
  addrv : Bool
  seq : BitVec 32
  links : List LinkEnt
deriving DecidableEq, Repr

/-- A fabric port (Tables 14-4, 14-6). -/
structure Port where
  st : Nat
  since : Nat                      -- when the port entered this state (R425)
  downAt : Nat                     -- when it last left UP (R440)
  heard : Nat                      -- when the last valid frame arrived (R434)
  laneFail : BitVec 8
  enc : Bool
  naddrv : Bool
  nport : BitVec 5
  naddr : BitVec 12
  encrypt : Bool                   -- FAB_PORT_CTRL ENCRYPT
  en : Bool                        -- FAB_PORT_CTRL EN
  encNow : Bool                    -- ENCRYPT as this bring-up took it
  retry : Nat
  crcerr : Nat
  fecunc : Nat
  authfail : Nat
  corr : Nat
  txCount : Nat                    -- sequenced frames sent since UP; low 32 bits are HSEQ
  rxSeq : BitVec 32                -- last HSEQ accepted
  rxCount : Nat                    -- sequenced frames accepted since UP (R430)
  hackRx : BitVec 32               -- last HACK received
  lastseq : BitVec 32              -- LASTSEQ to advertise after the port went down
  replay : List FabFrame
  caught : List FabFrame           -- frames held after the port went down (R440)
  creditUsed : List Nat            -- buffers used at the far end, 17 channels, mod 256
  creditGot : List Nat             -- freed counts last received
  freedHere : List Nat             -- buffers freed here
  queue : List FabFrame            -- frames that wait for credit
  tagFails : List Nat              -- times of the tag failures of the last second (R431)
  peerSerial : Word
  peerHash : List Byte
  myNonce : List Byte
  peerNonce : List Byte
  peerCert : List Byte
  ecdh : Bool                      -- the port's ECDH job has been asked for
  keyTx : List Byte
  keyRx : List Byte
deriving DecidableEq, Repr

/-- A fabric port at reset (Table 14-6). -/
def Port.init : Port :=
  { st := 0, since := 0, downAt := 0, heard := 0, laneFail := 0, enc := false, naddrv := false, nport := 0, naddr := 0, encrypt := false, en := true,
    encNow := false, retry := 0, crcerr := 0, fecunc := 0, authfail := 0, corr := 0, txCount := 0, rxSeq := 0, rxCount := 0,
    hackRx := 0, lastseq := 0, replay := [], caught := [], creditUsed := [], creditGot := [],
    freedHere := [], queue := [], tagFails := [], peerSerial := 0, peerHash := [], myNonce := [], peerNonce := [],
    peerCert := [], ecdh := false, keyTx := [], keyRx := [] }

/-- The fabric router and its routes. -/
structure Fab where
  ports : Sparse Port              -- default Port.init
  addr : BitVec 12
  addrv : Bool
  oldAddr : Option (BitVec 12)     -- the address before the last commit that changed it (R436)
  lsaSeq : BitVec 32
  dup : Bool
  nreach : Nat
  db : List Lsa                    -- link state of the other modules
  ages : Sparse Nat                -- when the last LSA of each, by serial number, arrived (R433); default 0
  routes : Sparse (List Nat)       -- next-hop ports by destination; default []
  dist : Sparse Nat                -- hops to each destination; default 0
  emptied : List Nat               -- destinations whose last next hop went down since the last recomputation (R439)
  waiting : List FabFrame          -- frames that wait for recomputation (R439)
  sent : List (Nat × FabFrame)     -- every frame sent by port (32 is the loopback), oldest first
deriving DecidableEq, Repr

/-! ### Power -/

/-- The power state (Table 18-4). -/
inductive Power
  | run | idle | doze | chrysalis | off
deriving DecidableEq, Repr

/-- How far a power-on or a reset sequence has come (Table 18-7). -/
inductive Boot
  | off | charging | selfTest | training | ready
  | resetHeld | resetting | warmPending | warming | waking
deriving DecidableEq, Repr

/-- The cocoon's power, clock and thermal state (Tables 18-9, 20-6). Currents in µA, voltages in mV, powers in mW. -/
structure Pwr where
  state : Power
  boot : Boot
  target : Option Power            -- the state a transition leads to
  later : List (Power × BitVec 8)  -- commands (cause 0) and wakes that wait for the transition, oldest first (R559)
  wakeCause : BitVec 8             -- cause of the transition: 0 command, else as the POWER event has it
  resume : Option Boot             -- the stage of a bring-up that a reset interrupted, and that goes on after it
  wakeAt : Nat                     -- when the exit from Chrysalis began, in mesh cycles (R594)
  smbAddr : BitVec 7               -- the SMBus target's address, sampled at power-on (R595)
  vin : Nat
  iin : Nat
  pin : Nat
  pbase : List Nat                 -- samples of the last 1,000 ticks, newest first
  admitted : Nat
  iAdm : Nat
  pDem : Nat
  hold : Nat
  capLim : Bool
  capAt : Nat                      -- the tick since which the cap term holds I_A below demand (R554)
  duty : Sparse Nat                -- 4 core + class (0 SE, 1 TE, 2 VE, 3 LME), 256 + stack; default 0
  cursor : Nat                     -- the next core of the round-robin (R553)
  gatings : List Nat               -- domains that wait to be gated (R557)
  slew : Nat
  pcap : Nat
  clken : BitVec 100
  rstEntry : BitVec 4
  rstCause : BitVec 4
  level : Sparse Nat               -- thermal group levels; default 0
  calm : Sparse Nat                -- consecutive cool sampling periods by group; default 0
  trip : Bool
  tripSrc : BitVec 8
  hubT : Nat
  cmax : Nat
  smax : Nat
  coreT : Sparse Nat               -- default 0
  wakesBlocked : Bool              -- an input fault withholds wakes (R549)
  vinOk : Option Nat               -- since when the input lies between 48 V and 62 V, as far as measured (R549)
  present : Bool
  thermLow : Bool                  -- THERM_N is driven low
  resetLow : Bool                  -- RESET_N is low
  status : BitVec 16               -- STATUS_WORD as latched (Table 20-6)
  smbus : List Byte                -- the last response of the SMBus target
deriving DecidableEq, Repr

/-- The test access port (R598). -/
structure Tap where
  ir : BitVec 8
  dr : BitVec 128
deriving DecidableEq, Repr

/-! ### Errors and counters -/

/-- ERR_CORE_n (Table 16-5). -/
structure ErrCore where
  fenced : Bool
  cause : BitVec 8
  count : Nat
  deferred : Bool                  -- a fence of cause 0x05 that waits (R494)
deriving DecidableEq, Repr

/-- The error record of the cocoon (Table 16-5). -/
structure Err where
  sticky : Word
  raised : Word                    -- bits set since the last STICKY event (R485)
  eccInfo : Word
  eccAddr : Word
  eccTime : Word
  fenceInfo : Word
  fenceTime : Word
  linkInfo : Word
  linkTime : Word
  permInfo : Word
  permTime : Word
  cores : Sparse ErrCore           -- default ⟨false, 0, 0, false⟩
  meshRetries : Nat
  meshFailed : Nat
  bridgeFails : Sparse Nat         -- failures by bridge; default 0
  meshLinks : List Nat             -- failed links inside the dies, 24 to a die (R491)
  meshDead : Bool                  -- R492
  fencesDue : List (Nat × FenceCause) -- fences that wait for a command past its point of no return (R545)
  mouldDead : Bool                 -- own memory is lost: the mould goes when the pours have ended (R487)
deriving DecidableEq, Repr

/-- A window counter (R584): the count of the window in progress, LAST and PEAK. -/
structure Win where
  cur : Nat
  last : Nat
  peak : Nat
deriving DecidableEq, Repr

/-- The performance counters (chapter 19). Counter numbers: 16 c + n, 1024 + 32 d + n, 1152 + n. -/
structure Cnt where
  ctl : Sparse (BitVec 32)         -- default 0
  val : Sparse (BitVec 48)         -- default 0
  trig : BitVec 2
  freeze : Bool
  frzTime : Nat
  snapBusy : Bool
  snapStart : Nat
  snapSeq : BitVec 32
  snap : Sparse Word               -- the snapshot buffer by word; default 0
  clearDue : Bool
  live : Sparse Bool               -- counters whose lasting event was in progress at the last tick; default false
  wrote : List Nat                 -- counters whose value was written in this mesh cycle (R577)
  cleared : Bool                   -- a clear took place in this mesh cycle (R582)
  wlog : BitVec 5
  winAt : Nat                      -- when the window in progress began
  winSkip : Bool                   -- no window is in progress before the next multiple of 2^WLOG (R586)
  wins : Sparse Win                -- default ⟨0, 0, 0⟩
deriving DecidableEq, Repr

/-! ### The module -/

/-- Why the block stops with a fault. No command of this block does (log 2). -/
inductive Fault
deriving DecidableEq, Repr

/-- Why the block refuses a command. -/
inductive Refusal
  /-- Raised by exec for a row that has no meaning yet. Safe: the run stops. -/
  | notModelled (mnemonic : String)
deriving DecidableEq, Repr

/-- The state of the block: every piece of state that the manual gives the module, the queue of waiting commands, and
two counters of the model's own (`free` and `draws`, log 3 and 5). -/
structure State where
  pending : List Instr
  now : Nat                        -- the local time counter (R587)
  cores : Sparse Core              -- default Core.init
  mem : List Host.Cell             -- spaces 0x0 to 0x3 at space * 2^48 + offset; unlisted bytes read 0 (log 8)
  lost : Sparse Bool               -- lost 64-byte blocks by key / 64; default false
  work : Sparse (Option Byte)      -- working versions; default none
  workLost : Sparse Bool           -- blocks lost in the working version only; default false
  foreign : Sparse Bool            -- working blocks last written by a remote transaction (R504); default false
  dram : Sparse Stack              -- default Stack.init
  mapFuse : List (Nat × Nat)       -- stack and channel (R382)
  coreFuse : List Nat              -- the core fence bank (R496)
  flasks : Sparse Flask            -- default Flask.init
  mould : Option Mould
  staged : List Byte
  mouldStatus : MouldStatus
  mouldCount : Word
  digest : List Byte               -- the mould digest that the cocoon retains (R412)
  farClass : Option (List Region)  -- the far-tier class map that the cocoon retains (R412)
  cp : Cp
  bg : Option Bg
  sec : Sec
  fab : Fab
  pwr : Pwr
  tap : Tap
  err : Err
  cnt : Cnt
  free : Nat
  draws : Nat
deriving DecidableEq, Repr

/-- The state at power-on reset, before the input rises: every register at its Reset column, memory with nothing listed,
the fuses of a module as manufactured (log 1, log 7). -/
def State.reset : State :=
  { pending := [], now := 0, cores := [], mem := [], lost := [], work := [], workLost := [], foreign := [],
    dram := [], mapFuse := [], coreFuse := [], flasks := [], mould := none, staged := [],
    mouldStatus := ⟨0, 0, 0, 0, 0⟩, mouldCount := 0, digest := [], farClass := none, cp := Cp.init, bg := none,
    sec :=
      { serial := Config.serial, idKeyBlown := false, idKeyOk := true, ownerKey := [], ownerHash := [], lcOwned := 0,
        lcDecom := 0, lifecycle := 0, debug := 0, dbgSeen := false, nonce := [], ksids := [], ksovf := false, sp := [], spAt := 0,
        bne := [], bneShort := [], sha := [] },
    fab :=
      { ports := [], addr := 0, addrv := false, oldAddr := none, lsaSeq := 0, dup := false, nreach := 0, db := [], ages := [],
        routes := [], dist := [], emptied := [], waiting := [], sent := [] },
    pwr :=
      { state := .off, boot := .off, target := none, later := [], wakeCause := 0, resume := none, wakeAt := 0, smbAddr := 0,
        vin := 0, iin := 0, pin := 0,
        pbase := [], admitted := 0, iAdm := 0, pDem := 0, hold := 0, capLim := false, capAt := 0, duty := [], cursor := 0,
        gatings := [], slew := 0x20, pcap := 0x960, clken := BitVec.allOnes 100, rstEntry := 0, rstCause := 0,
        level := [], calm := [], trip := false, tripSrc := 0, hubT := 0, cmax := 0, smax := 0, coreT := [],
        wakesBlocked := false, vinOk := none, present := false, thermLow := false, resetLow := false, status := 0,
        smbus := [] },
    tap := ⟨0x01, 0⟩,
    err :=
      { sticky := 0, raised := 0, eccInfo := 0, eccAddr := 0, eccTime := 0, fenceInfo := 0, fenceTime := 0,
        linkInfo := 0, linkTime := 0, permInfo := 0, permTime := 0, cores := [], meshRetries := 0, meshFailed := 0,
        bridgeFails := [], meshLinks := [], meshDead := false, fencesDue := [], mouldDead := false },
    cnt :=
      { ctl := [], val := [], trig := 0, freeze := false, frzTime := 0, snapBusy := false, snapStart := 0, snapSeq := 0,
        snap := [], clearDue := false, live := [], wrote := [], cleared := false, wlog := 0x14, winAt := 0,
        winSkip := false, wins := [] },
    free := 0, draws := 0 }

end Sys2Proof.Machine
end

