-- ==== Sys2Proof/Machine/Ops.lean ====
section
/-! DEFINITION. The named operations over bytes, registers, cores, flasks and memory that every meaning is built of. -/

namespace Sys2Proof.Machine

/-! ### Bytes and fields -/

/-- The value of bytes, least significant first (R5). -/
def leNat : List Byte → Nat
  | [] => 0
  | b :: r => b.toNat + 256 * leNat r

/-- The `n` low bytes of a value, least significant first (R5). -/
def leBytes : Nat → Nat → List Byte
  | 0, _ => []
  | n + 1, v => BitVec.ofNat 8 v :: leBytes n (v / 256)

/-- The value of bytes, most significant first (R6). -/
def beNat (l : List Byte) : Nat := l.foldl (fun a b => a * 256 + b.toNat) 0

/-- The `n` low bytes of a value, most significant first (R6). -/
def beBytes (n v : Nat) : List Byte := (leBytes n v).reverse

/-- Field [lo + len − 1 : lo] of a word (R4). -/
def fld {n : Nat} (w : BitVec n) (lo len : Nat) : Nat := w.toNat / 2 ^ lo % 2 ^ len

/-- Bit `i` of a word. -/
def bitAt {n : Nat} (w : BitVec n) (i : Nat) : Bool := w.getLsbD i

/-- Bytes [off, off + n) of a list, zero beyond its end. -/
def bytesAt (l : List Byte) (off n : Nat) : List Byte :=
  let x := (l.drop off).take n
  x ++ List.replicate (n - x.length) 0

/-- The little-endian field of `n` bytes at `off`. -/
def leAt (l : List Byte) (off n : Nat) : Nat := leNat (bytesAt l off n)

/-- A natural number's upper quotient. -/
def ceilDiv (a b : Nat) : Nat := (a + b - 1) / b

/-- Bytes [base, base + n) of a sparse store. -/
def readBytes (m : Sparse Byte) (base n : Nat) : List Byte :=
  (List.range n).map (fun i => Sparse.get 0 m (base + i))

/-- Write bytes from `base` up. -/
def writeBytes (m : Sparse Byte) (base : Nat) : List Byte → Sparse Byte
  | [] => m
  | b :: r => writeBytes (Sparse.set 0 m base b) (base + 1) r

/-- The little-endian value of `n` bytes of a sparse store. -/
def readLE (m : Sparse Byte) (base n : Nat) : Nat := leNat (readBytes m base n)

/-- Truncation of an integer to `n` bits, two's complement. -/
def toBits (n : Nat) (v : Int) : Nat := (v % (2 ^ n : Int)).toNat

/-- The signed value of `n` bits. -/
def signed (n v : Nat) : Int := if 2 * v < 2 ^ n then (v : Int) else (v : Int) - 2 ^ n

/-- Addition that saturates at a largest value. -/
def satAdd (top a b : Nat) : Nat := min top (a + b)

/-! ### Cores and threads -/

/-- Physical core `c`. -/
def State.core (s : State) (c : Nat) : Core := Sparse.get Core.init s.cores c

/-- Replace physical core `c`. -/
def State.setCore (s : State) (c : Nat) (k : Core) : State :=
  { s with cores := Sparse.set Core.init s.cores c k }

/-- Change physical core `c`. -/
def State.modCore (s : State) (c : Nat) (f : Core → Core) : State := s.setCore c (f (s.core c))

/-- Change the part of a core that belongs to its logical core. -/
def Core.modArch (k : Core) (f : Arch → Arch) : Core := { k with arch := f k.arch }

/-- Change the part of a core that a commit record holds. -/
def Core.modRec (k : Core) (f : Rec → Rec) : Core := { k with arch := { k.arch with rcd := f k.arch.rcd } }

/-- Thread `t` of a core. -/
def Core.thread (k : Core) (t : Nat) : Thread := Sparse.get Thread.idle k.arch.rcd.threads t

/-- Replace thread `t` of a core. -/
def Core.setThread (k : Core) (t : Nat) (x : Thread) : Core :=
  k.modRec (fun r => { r with threads := Sparse.set Thread.idle r.threads t x })

/-- Thread `t` of physical core `c`. -/
def State.thread (s : State) (c t : Nat) : Thread := (s.core c).thread t

/-- Replace thread `t` of physical core `c`. -/
def State.setThread (s : State) (c t : Nat) (x : Thread) : State := s.modCore c (fun k => k.setThread t x)

/-- Change thread `t` of physical core `c`. -/
def State.modThread (s : State) (c t : Nat) (f : Thread → Thread) : State := s.setThread c t (f (s.thread c t))

/-- Scalar register `i` of a thread. -/
def Thread.reg (x : Thread) (i : Nat) : Word := Sparse.get 0 x.s i

/-- Write scalar register `i` of a thread. -/
def Thread.setReg (x : Thread) (i : Nat) (v : Word) : Thread := { x with s := Sparse.set 0 x.s i v }

/-- Predicate `i` of a thread; p0 reads 1 (R245). -/
def Thread.pred (x : Thread) (i : Nat) : Bool := i == 0 || bitAt x.p i

/-- Write predicate `i` of a thread; a write of p0 is ignored (R245, R296). -/
def Thread.setPred (x : Thread) (i : Nat) (v : Bool) : Thread :=
  if i = 0 then x else
    { x with p := if v then x.p ||| (1#8 <<< i) else x.p &&& ~~~(1#8 <<< i) }

/-- Flask `f`. -/
def State.flask (s : State) (f : Nat) : Flask := Sparse.get Flask.init s.flasks f

/-- Replace flask `f`. -/
def State.setFlask (s : State) (f : Nat) (x : Flask) : State :=
  { s with flasks := Sparse.set Flask.init s.flasks f x }

/-- Change flask `f`. -/
def State.modFlask (s : State) (f : Nat) (g : Flask → Flask) : State := s.setFlask f (g (s.flask f))

/-- Flask `f` of the committed mould. -/
def State.flaskDef (s : State) (f : Nat) : Option FlaskDef :=
  s.mould.bind (fun m => Sparse.get none m.flasks f)

/-- Chain `n` of the committed mould. -/
def State.chain (s : State) (n : Nat) : Option Chain :=
  s.mould.bind (fun m => Sparse.get none m.chains n)

/-- The flask and logical core that physical core `c` serves now. -/
def State.serving (s : State) (c : Nat) : Option (Nat × Nat) := (s.core c).serves

/-- The flask that physical core `c` serves, with its definition. -/
def State.flaskOf (s : State) (c : Nat) : Option FlaskDef :=
  (s.serving c).bind (fun fl => s.flaskDef fl.1)

/-- A pour runs on flask `f` (R29): its stage is not idle. -/
def State.pourOn (s : State) (f : Nat) : Bool := decide ((s.flask f).stage ≠ .idle)

/-- The flasks on which a pour runs. -/
def State.pours (s : State) : List Nat := (List.range 16).filter s.pourOn

/-- Core `c` is fenced. -/
def State.fenced (s : State) (c : Nat) : Bool := (Sparse.get ⟨false, 0, 0, false⟩ s.err.cores c).fenced

/-- The arithmetic cycle that the local time counter shows (R7): two mesh cycles each. -/
def State.cycle (s : State) : Nat := s.now / 2

/-- Draw the next free byte (log 3). -/
def State.freeBytes (s : State) (n : Nat) : State × List Byte :=
  ({ s with free := s.free + n }, (List.range n).map (fun i => Config.freeByte (s.free + i)))

/-- Draw the next random number (log 5). -/
def State.draw (s : State) : State × Nat := ({ s with draws := s.draws + 1 }, Config.random s.draws)

/-- A new DBG_NONCE (R537). -/
def State.newNonce (s : State) : State :=
  let (s1, v) := s.draw
  { s1 with sec := { s1.sec with nonce := leBytes 32 v } }

/-! ### Counters (R575, R577) -/

/-- Add to general counter `n`; it wraps at 2^48 and sets OVF. An event in the mesh cycle of a write of its value, or of a
clear, is lost (R577, R582). -/
def State.bump (s : State) (n by' : Nat) : State :=
  let lost := s.cnt.cleared || s.cnt.wrote.contains n
  let v := (Sparse.get 0 s.cnt.val n).toNat + by'
  let c := Sparse.get 0 s.cnt.ctl n
  { s with cnt := { s.cnt with
      val := if lost then s.cnt.val else Sparse.set 0 s.cnt.val n (BitVec.ofNat 48 v)
      ctl := if lost = false ∧ 2 ^ 48 ≤ v then Sparse.set 0 s.cnt.ctl n (c ||| 0x80000000#32) else s.cnt.ctl } }

/-- General counters [lo, lo + cnt) that count event `ev` of `unit` in mode `mode` add `by'` (R574 to R576); `unit` is 256
for an event without units, whose UNIT field is not looked at. -/
def State.countIn (s : State) (lo cnt ev unit mode by' : Nat) : State :=
  if s.cnt.freeze then s else
    (List.range cnt).foldl (fun s i =>
      let c := Sparse.get 0 s.cnt.ctl (lo + i)
      if fld c 0 8 = ev ∧ (unit = 256 ∨ fld c 8 8 = unit) ∧ fld c 16 2 = mode then s.bump (lo + i) by' else s) s

/-- The core events of Table 19-1 (R576). -/
def coreEventListed (ev : Nat) : Bool :=
  decide (ev ≤ 0x07) || (decide (0x10 ≤ ev) && decide (ev ≤ 0x15)) || (decide (0x20 ≤ ev) && decide (ev ≤ 0x28))

/-- The core events of Table 19-1 that last one arithmetic cycle. -/
def corePulse (ev : Nat) : Bool := [0x01, 0x02, 0x11, 0x20, 0x21, 0x22, 0x27, 0x28].contains ev

/-- One occurrence of a core event begins: an EDGE counter adds 1, and a LEVEL counter the two mesh cycles of an event of
one arithmetic cycle (R575). A core event has no unit: the UNIT field is not looked at. -/
def State.coreEvent (s : State) (c ev : Nat) : State :=
  if s.cnt.freeze ∨ coreEventListed ev = false then s else
    (List.range 16).foldl (fun s i =>
      let w := Sparse.get 0 s.cnt.ctl (16 * c + i)
      if fld w 0 8 = ev ∧ fld w 16 2 = 1 then s.bump (16 * c + i) 1
      else if fld w 0 8 = ev ∧ fld w 16 2 = 2 ∧ corePulse ev = true then s.bump (16 * c + i) 2
      else s) s

/-- One occurrence of a hub event begins; a wait for credit lasts, every other counts one mesh cycle in LEVEL mode. -/
def State.hubEvent (s : State) (ev unit : Nat) : State :=
  let s1 := s.countIn 1152 64 ev unit 1 1
  if ev = 0x04 then s1 else s1.countIn 1152 64 ev unit 2 1

/-- One occurrence of a die event of one mesh cycle. -/
def State.dieEvent (s : State) (d ev unit : Nat) : State :=
  (s.countIn (1024 + 32 * d) 32 ev unit 1 1).countIn (1024 + 32 * d) 32 ev unit 2 1

/-- Bytes cross port `p` of the window counters (R584). -/
def State.crossed (s : State) (p n : Nat) : State :=
  let w := Sparse.get ⟨0, 0, 0⟩ s.cnt.wins p
  { s with cnt := { s.cnt with wins := Sparse.set ⟨0, 0, 0⟩ s.cnt.wins p { w with cur := w.cur + n } } }

/-! ### Control-port messages -/

/-- A message of the module (R463). -/
def rspFrame (ctag : BitVec 16) (opcode status : BitVec 8) (replay : Bool) (payload : List Byte) : CpFrame :=
  ⟨0x11, replay, 0, 0, 0, ctag, opcode, status, payload⟩

/-- An event frame (Table 15-7). -/
def evtFrame (code : BitVec 8) (payload : List Byte) : CpFrame := ⟨0x12, false, 0, 0, 0, 0, code, 0, payload⟩

/-- Put a frame on the lane (R452, R453): it carries the present ACKSEQ and CREDIT. -/
def State.laneOut (s : State) (f : CpFrame) : State :=
  let g := { f with ackseq := s.cp.rxSeq, credit := s.cp.freed }
  ({ s with cp := { s.cp with lane := s.cp.lane ++ [g] } }.crossed 128 (38 + f.payload.length)).hubEvent 0x12 256

/-- Send the waiting responses and events that credit admits, in order (R456, R457). -/
def State.pumpList : List CpFrame → State → State
  | [], s => { s with cp := { s.cp with ready := [] } }
  | f :: r, s =>
    if s.cp.st = .up ∧ s.cp.txCount < s.cp.peerBufs + s.cp.peerCredit then
      let g := { f with seq := s.cp.txSeq, ackseq := s.cp.rxSeq, credit := s.cp.freed }
      let s1 := { s with cp := { s.cp with held := s.cp.held ++ [g], txSeq := s.cp.txSeq + 1, txCount := s.cp.txCount + 1, ackAt := if s.cp.held = [] then s.now else s.cp.ackAt } }
      State.pumpList r (s1.laneOut g)
    else { s with cp := { s.cp with ready := f :: r } }

/-- Send what credit admits of the waiting messages. -/
def State.pump (s : State) : State := State.pumpList s.cp.ready s

/-- Queue a response or event behind those that wait, and send what credit admits (R463). -/
def State.emit (s : State) (f : CpFrame) : State :=
  State.pump { s with cp := { s.cp with ready := s.cp.ready ++ [f] } }

/-- The places of the event queue that waiting events take beside the one kept for a POUR_END of each flask (R485). -/
def State.eventsShared (s : State) : Nat :=
  let evs := s.cp.ready.filter (fun g => g.type == 0x12#8)
  let ends (f : Nat) : Nat := (evs.filter (fun g => g.opcode == 0x01#8 && g.payload.head? == some (BitVec.ofNat 8 f))).length
  evs.length - ((List.range 16).filter (fun f => decide (0 < ends f))).length

/-- Send an event under the limits of the event queue (R485): a COMMIT_DONE replaces the waiting one of its flask; past
512 events less the places kept for POUR_END, other events are not queued. -/
def State.event (s : State) (code : BitVec 8) (payload : List Byte) : State :=
  let f := evtFrame code payload
  if code = 0x02#8 ∧ s.cp.ready.any (fun g => g.type == 0x12#8 && g.opcode == 0x02#8 && g.payload.head? == payload.head?) then
    { s with cp := { s.cp with ready := s.cp.ready.map (fun g =>
        if g.type = 0x12#8 ∧ g.opcode = 0x02#8 ∧ g.payload.head? = payload.head? then f else g) } }
  else if code = 0x01#8 ∨ s.eventsShared < 512 - 16 then s.emit f
  else s

/-- The response of a command: recorded against its CTAG (R461) and sent (R463). -/
def State.respond (s : State) (ctag : BitVec 16) (opcode status : BitVec 8) (payload : List Byte) : State :=
  let keep := if payload.length ≤ 64 then some payload else none
  let rec' := s.cp.record.map (fun r =>
    if r.ctag = ctag ∧ r.status = none then { r with status := some status, payload := keep } else r)
  State.emit { s with cp := { s.cp with record := rec' } } (rspFrame ctag opcode status false payload)


/-- A bit as a number. -/
def bitNat (b : Bool) (i : Nat) : Nat := if b then 2 ^ i else 0

/-! ### Paths of the die mesh (R180 to R182, R403, R491) -/

/-- One move of a path (R403) from core `c`: the core it leads to, and whether it crosses dies. -/
def moveFrom (c m : Nat) : Option (Nat × Bool) :=
  let x := c % 4
  let y := c / 4 % 4
  match m with
  | 0 => if x < 3 then some (c + 1, false) else none
  | 1 => if 0 < x then some (c - 1, false) else none
  | 2 => if y < 3 then some (c + 4, false) else none
  | 3 => if 0 < y then some (c - 4, false) else none
  | 4 => some (c % 16, true)
  | 5 => some (16 + c % 16, true)
  | 6 => some (32 + c % 16, true)
  | 7 => some (48 + c % 16, true)
  | _ => none

/-- The link of a die mesh between two neighbouring cores of one die. -/
def linkBetween (a b : Nat) : Nat :=
  let c := min a b
  let x := c % 4
  let y := c / 4 % 4
  c / 16 * 24 + (if a / 4 = b / 4 then 3 * y + x else 12 + 4 * y + x)

/-- The links inside dies that moves from core `c` cross. -/
def linksOf (c : Nat) : List Nat → List Nat
  | [] => []
  | m :: r =>
    match moveFrom c m with
    | some (d, false) => linkBetween c d :: linksOf d r
    | some (d, true) => linksOf d r
    | none => []

/-- Steps between two positions of a die. -/
def meshDistance (a b : Nat) : Nat :=
  (a % 4 - b % 4) + (b % 4 - a % 4) + (a / 4 % 4 - b / 4 % 4) + (b / 4 % 4 - a / 4 % 4)

/-- Moves of the given number inside one die that cross no failed link, the least in the order of their codes. -/
def wayIn (failed : List Nat) (goal : Nat) : Nat → Nat → Option (List Nat)
  | 0, c => if c = goal then some [] else none
  | n + 1, c =>
    if n + 1 < meshDistance c goal then none
    else [0, 1, 2, 3].findSome? (fun m =>
      match moveFrom c m with
      | some (d, false) => if failed.contains (linkBetween c d) then none else (wayIn failed goal n d).map (m :: ·)
      | _ => none)

/-- The mesh's default path (R181): along the row, then along the column, then through the die bridges; around failed links
it is the shortest way, and of those the least in the order of the moves (log 69). -/
def defaultPath (failed : List Nat) (a b : Nat) : List Nat :=
  let turn := a / 16 * 16 + b % 16
  (((List.range 16).findSome? (fun n => wayIn failed turn n a)).getD []) ++ (if a / 16 = b / 16 then [] else [4 + b / 16])

/-- Place of the ordered pair of logical cores (a, b) in a route set (R403). -/
def pairAt (n a b : Nat) : Nat := a * (n - 1) + (if a < b then b - 1 else b)

/-- Replace by default paths those paths of a route set that `p` picks by their logical cores and moves. -/
def State.repath (s : State) (x : Flask) (p : Nat → Nat → List Nat → Bool) : Flask :=
  let n := x.map.length
  { x with paths := (List.range x.paths.length).map (fun i =>
      let a := i / (n - 1)
      let b := if a ≤ i % (n - 1) then i % (n - 1) + 1 else i % (n - 1)
      let old := x.paths.getD i []
      if p a b old then defaultPath s.err.meshLinks (x.map.getD a 0) (x.map.getD b 0) else old) }

/-- The path of a write from logical core a of flask `f` to logical core b: that of the route set in force, or the default
(R180, R181). -/
def State.pathOf (s : State) (f a b : Nat) : List Nat :=
  let x := s.flask f
  if x.paths = [] then defaultPath s.err.meshLinks (x.map.getD a 0) (x.map.getD b 0)
  else x.paths.getD (pairAt x.map.length a b) []

/-- The paths of logical core `l` of flask `f` are recomputed when it is remapped (R182). -/
def State.reroute (s : State) (f l : Nat) : State := s.modFlask f (fun x => s.repath x (fun a b _ => a == l || b == l))

/-- A link inside a die fails: default paths around it replace every path that crosses it (R491). -/
def State.dropLink (s : State) (link : Nat) : State :=
  let s1 := { s with err := { s.err with meshLinks := s.err.meshLinks ++ [link] } }
  (List.range 16).foldl (fun s f => s.modFlask f (fun x => s.repath x (fun a _ p => (linksOf (x.map.getD a 0) p).contains link))) s1

/-! ### Memory: keys, views and lost blocks -/

/-- The key of a byte: its space and offset. -/
def memKey (space off : Nat) : Nat := space * 2 ^ 48 + off

/-- The canonical form of the memory: addresses strictly rising, no listed zero. -/
def Memory.wf (m : List Host.Cell) : Bool := Sparse.wf (0 : Byte) m

/-- The region of the committed mould that covers a tier byte. -/
def State.regionAt (s : State) (key : Nat) : Option Region :=
  s.mould.bind (fun m => m.regions.find? (fun r =>
    decide (memKey r.space r.off ≤ key) && decide (key < memKey r.space r.off + r.size)))

/-- The flask whose version-buffered region holds a byte (R274). -/
def State.vbOwner (s : State) (key : Nat) : Option Nat :=
  (s.regionAt key).bind (fun r => if r.vb then some r.owner else none)

/-- Who accesses memory: the pour of a flask, or anyone else (R274); a remote write goes to the working version of the
owner. -/
inductive Viewer
  | pour (f : Nat)
  | other
  | remote
deriving DecidableEq, Repr

/-- The viewer sees the working version of the byte's region. -/
def State.seesWork (s : State) (v : Viewer) (key : Nat) : Bool :=
  match s.vbOwner key, v with
  | some o, .pour f => o == f
  | some _, .remote => true
  | _, _ => false

/-- One byte as a viewer sees it (R274, R372). -/
def State.readByte (s : State) (v : Viewer) (key : Nat) : Byte :=
  if s.seesWork v key then
    match Sparse.get none s.work key with
    | some b => b
    | none => Sparse.get 0 s.mem key
  else Sparse.get 0 s.mem key

/-- Write one byte as a viewer (R274); a working block remembers who wrote it last (R504). -/
def State.writeByte (s : State) (v : Viewer) (key : Nat) (b : Byte) : State :=
  if s.seesWork v key then
    { s with work := Sparse.set none s.work key (some b),
             foreign := Sparse.set false s.foreign (key / 64) (decide (v = .remote)) }
  else { s with mem := Sparse.set 0 s.mem key b }

/-- Write bytes from `key` up. -/
def State.writeRun (s : State) (v : Viewer) (key : Nat) : List Byte → State
  | [] => s
  | b :: r => State.writeRun (s.writeByte v key b) v (key + 1) r

/-- The cells of the bytes [lo, lo + n) in canonical form. -/
def freshCells (lo n : Nat) (g : Nat → Byte) : List Host.Cell :=
  (List.range n).filterMap (fun i => if g i = 0 then none else some (lo + i, g i))

/-- Bytes [lo, lo + n) of memory become unspecified ones (log 3), and readable. -/
def State.putOpen (s : State) (lo n : Nat) : State :=
  { s with
    free := s.free + n
    mem := s.mem.filter (fun e => decide (e.1 < lo)) ++
      freshCells lo n (fun i => Config.freeByte (s.free + i)) ++ s.mem.filter (fun e => decide (lo + n ≤ e.1))
    lost := s.lost.filter (fun e => !(decide (lo ≤ 64 * e.1) && decide (64 * e.1 + 64 ≤ lo + n))) }

/-- The tier stack that holds a byte: its number, and channels per stack (Tables 1-3, 12-3). -/
def stackOf (key : Nat) : Option (Nat × Nat) :=
  let sp := key / 2 ^ 48
  let n := key % 2 ^ 48 / 2 ^ 37
  if sp = 0 then some (n, 256) else if sp = 1 then some (16 + n, 64) else if sp = 2 then some (28 + n, 32) else none

/-- The channel of a tier byte (R370). -/
def channelOf (key channels : Nat) : Nat := key % 2 ^ 37 / 512 % channels

/-- The DRAM stack `n`. -/
def State.stack (s : State) (n : Nat) : Stack := Sparse.get Stack.init s.dram n

/-- The stack is in self-refresh: its tier is, or its controller's clock domain is disabled (R390, R395). -/
def State.stackAsleep (s : State) (n : Nat) : Bool := (s.stack n).st == 3 || !s.pwr.clken.getLsbD (64 + n)

/-- Change the DRAM stack `n`. -/
def State.modStack (s : State) (n : Nat) (f : Stack → Stack) : State :=
  { s with dram := Sparse.set Stack.init s.dram n (f (s.stack n)) }

/-- The channel that holds the line of a tier byte of stack `n` (R370, R377): each map-out, in its order, has moved the
lines of its channel to channels that were not mapped out; to which, the spec does not state (log 64). -/
def State.channelAt (s : State) (n key channels : Nat) : Nat :=
  ((s.stack n).mapped.foldl (fun (b : Nat × List Nat) ch =>
    let left := b.2.erase ch
    (if b.1 = ch then left.getD (Config.movedTo n (key % 2 ^ 37 / 512) ch % left.length) ch else b.1, left))
    (channelOf key channels, List.range channels)).1

/-- The byte lies in a line of a dead channel (R381). -/
def State.deadLine (s : State) (key : Nat) : Bool :=
  match stackOf key with
  | some (n, c) => (s.stack n).dead.contains (s.channelAt n key c)
  | none => false

/-- The working version holds data of the block (R372). -/
def State.inWork (s : State) (blk : Nat) : Bool := (List.range 64).any (fun i => (Sparse.get none s.work (64 * blk + i)).isSome)

/-- A block is lost as a viewer sees it (R368, R373). -/
def State.blockLost (s : State) (v : Viewer) (blk : Nat) : Bool :=
  if s.seesWork v (64 * blk) then
    Sparse.get false s.workLost blk ||
      (Sparse.get false s.lost blk && !((List.range 64).all (fun i => (Sparse.get none s.work (64 * blk + i)).isSome)))
  else Sparse.get false s.lost blk

/-- The 64-byte blocks that a span touches. -/
def blocksOf (key len : Nat) : List Nat :=
  if len = 0 then [] else (List.range ((key + len - 1) / 64 - key / 64 + 1)).map (fun i => key / 64 + i)

/-- Entry `l` of a flask's partition map: kind and class of a bank group (Table 13-9). -/
def FlaskDef.part (d : FlaskDef) (l g : Nat) : Nat × Bool :=
  let n := (d.parts.getD l []).getD g 3
  (n % 4, n / 4 % 2 == 1)

/-- The role of a physical core in the committed mould: the flask and logical core whose partition entry governs its
groups, or the flask it is a spare of (R604). -/
def State.coreRole (s : State) (c : Nat) : Option (Nat × Option Nat) :=
  match s.serving c with
  | some (f, l) => some (f, some l)
  | none => (List.range 16).findSome? (fun f =>
    (s.flaskDef f).bind (fun d =>
      match (s.flask f).map.findIdx? (· == c) with
      | some l => some (f, some l)
      | none => if d.spareList.contains c then some (f, none) else none))

/-- Kind (0 CODE, 1 WORK, 2 RETAINED, 3 UNUSED) and class of bank group `g` of physical core `c` (R361, R604). -/
def State.group (s : State) (c g : Nat) : Nat × Bool :=
  match s.mould with
  | none => (1, false)
  | some _ =>
    match s.coreRole c with
    | some (f, some l) => ((s.flaskDef f).map (fun d => d.part l g)).getD (3, false)
    | some (f, none) => if g < ((s.flaskDef f).map (·.codeg)).getD 0 then (0, false) else (3, false)
    | none => (3, false)

/-- The memory at `key` uses the weight class (R365). -/
def State.weightAt (s : State) (key : Nat) : Bool :=
  if key / 2 ^ 48 = 3 then (s.group (key % 2 ^ 48 / 2 ^ 25) (key % 2 ^ 25 / 2 ^ 21)).2
  else ((s.regionAt key).map (·.weight)).getD false

/-- The ECC unit at `key`: 64 bytes for a weight-class tier region, else 8 (R603, Table 12-2). -/
def State.eccUnit (s : State) (key : Nat) : Nat :=
  if key / 2 ^ 48 < 3 ∧ s.weightAt key then 64 else 8

end Sys2Proof.Machine
end

