-- ==== Sys2Proof/Machine/Flags.lean ====
section
/-! DEFINITION. Fault codes, sticky bits, captures and triggers; reads and writes of memory through its check bits; the
noise-bound algebra. -/

namespace Sys2Proof.Machine

/-! ### Fault codes (Table 9-6) -/

abbrev fDescAlign : BitVec 8 := 0x01
abbrev fDescFormat : BitVec 8 := 0x02
abbrev fDescAlias : BitVec 8 := 0x03
abbrev fWindow : BitVec 8 := 0x04
abbrev fTileShape : BitVec 8 := 0x05
abbrev fTileInvalid : BitVec 8 := 0x06
abbrev fHandle : BitVec 8 := 0x07
abbrev fKeySet : BitVec 8 := 0x08
abbrev fGalois : BitVec 8 := 0x09
abbrev fLevel : BitVec 8 := 0x0A
abbrev fNoise : BitVec 8 := 0x0B
abbrev fDomain : BitVec 8 := 0x0C
abbrev fModulus : BitVec 8 := 0x0D
abbrev fPermCheck : BitVec 8 := 0x0E
abbrev fEcc : BitVec 8 := 0x0F
abbrev fLinkLost : BitVec 8 := 0x10
abbrev fTimeout : BitVec 8 := 0x11
abbrev fTokenUnderflow : BitVec 8 := 0x12
abbrev fFenced : BitVec 8 := 0x13
abbrev fPrivilege : BitVec 8 := 0x14
abbrev fPoison : BitVec 8 := 0x15

/-! ### Sticky bits (Table 16-5) -/

abbrev sEccCorr : Nat := 0
abbrev sEccUncorr : Nat := 1
abbrev sLinkRetry : Nat := 2
abbrev sLinkDown : Nat := 3
abbrev sCoreFenced : Nat := 4
abbrev sChannelMappedOut : Nat := 5
abbrev sSpareExhausted : Nat := 6
abbrev sThermalThrottle : Nat := 7
abbrev sRampLimited : Nat := 8
abbrev sPermCheck : Nat := 9
abbrev sNoiseBound : Nat := 10
abbrev sSchedHazard : Nat := 11
abbrev sInputUv : Nat := 12
abbrev sInputOv : Nat := 13
abbrev sBneFault : Nat := 14

/-- Set FREEZE and remember when (R579, R580). -/
def State.setFreeze (s : State) (v : Bool) : State :=
  { s with cnt := { s.cnt with freeze := v, frzTime := if v ∧ ¬ s.cnt.freeze then s.now else s.cnt.frzTime } }

/-- Start a snapshot; ignored while one runs (R580). -/
def State.startSnap (s : State) : State :=
  if s.cnt.snapBusy then s else { s with cnt := { s.cnt with snapBusy := true, snapStart := s.now } }

/-- A trigger: 1 for a pour's end, 2 for a sticky bit (R583); none while FREEZE is set. -/
def State.trigger (s : State) (kind : Nat) : State :=
  if s.cnt.freeze ∨ s.cnt.trig.getLsbD (kind - 1) = false then s else (s.setFreeze true).startSnap

/-- Set a sticky bit; a bit that goes from 0 to 1 is a trigger (R583). -/
def State.setSticky (s : State) (b : Nat) : State :=
  if bitAt s.err.sticky b then s
  else State.trigger { s with err := { s.err with
    sticky := s.err.sticky ||| (1#64 <<< b), raised := s.err.raised ||| (1#64 <<< b) } } 2

/-- The local time counter as a capture holds it. -/
def State.stamp (s : State) : Word := BitVec.ofNat 64 (s.now % 2 ^ 48)

/-- The ECC capture (R514): source, memory, reading core and block address. -/
def State.captureEcc (s : State) (source core key : Nat) : State :=
  if bitAt s.err.eccInfo 63 then s else
    let mem := key / 2 ^ 48
    { s with err := { s.err with
        eccInfo := BitVec.ofNat 64 (2 ^ 63 + source * 2 ^ 12 + mem * 2 ^ 8 + (if source = 0 then core * 4 else 0))
        eccAddr := BitVec.ofNat 64 (0xFFF * 2 ^ 52 + key / 64 * 64)
        eccTime := s.stamp } }

/-- The fence capture (R514). -/
def State.captureFence (s : State) (c : Nat) (cause : BitVec 8) : State :=
  if bitAt s.err.fenceInfo 63 then s else
    let w := match s.serving c with
      | some (f, l) => 2 ^ 28 + f * 2 ^ 24 + l * 2 ^ 18
      | none => 0
    { s with err := { s.err with
        fenceInfo := BitVec.ofNat 64 (2 ^ 63 + w + c * 2 ^ 12 + cause.toNat), fenceTime := s.stamp } }

/-- The link capture (R514): kind 0 fabric port, 1 control link, 2 mesh link, 3 crossbar parity. -/
def State.captureLink (s : State) (kind port : Nat) : State :=
  if bitAt s.err.linkInfo 63 then s else
    { s with err := { s.err with linkInfo := BitVec.ofNat 64 (2 ^ 63 + kind * 2 ^ 8 + port % 256), linkTime := s.stamp } }

/-- The permutation capture (R514). -/
def State.capturePerm (s : State) (prime chain c : Nat) (ntt : Bool) : State :=
  if bitAt s.err.permInfo 63 then s else
    { s with err := { s.err with
        permInfo := BitVec.ofNat 64 (2 ^ 63 + prime * 2 ^ 18 + chain * 2 ^ 15 + ntt.toNat * 2 ^ 14 + c), permTime := s.stamp } }

/-- One RW1C write of the sticky word (R471): a cleared bit that is tied to a capture clears its VALID (R514). -/
def State.clearSticky (s : State) (mask : Word) : State :=
  let gone (b : Nat) : Bool := bitAt mask b
  let drop (b : Nat) (w : Word) : Word := if gone b then w &&& ~~~(1#64 <<< 63) else w
  { s with err := { s.err with
      sticky := s.err.sticky &&& ~~~mask
      eccInfo := drop sEccUncorr s.err.eccInfo
      fenceInfo := drop sCoreFenced s.err.fenceInfo
      linkInfo := drop sLinkDown s.err.linkInfo
      permInfo := drop sPermCheck s.err.permInfo } }

/-! ### Channels (R376 to R382) -/

/-- Margin channels of a stack (R375). -/
def State.margin (s : State) (n : Nat) : Nat :=
  match s.mould with
  | none => 0
  | some m => if n < 16 then m.mnear else if n < 28 then m.mmid else m.mfar

/-- A channel qualifies for map-out (R376): it starts to move, waits for the move that runs, or is declared dead. -/
def State.qualify (s : State) (n ch : Nat) : State :=
  let k := s.stack n
  if k.mapped.contains ch ∨ k.dead.contains ch ∨ k.moving = some ch ∨ k.waiting.contains ch then s
  else if k.moving.isSome ∧ k.used + k.waiting.length + 1 < s.margin n then
    s.modStack n (fun k => { k with waiting := k.waiting ++ [ch] })
  else if k.moving.isNone ∧ k.used < s.margin n then s.modStack n (fun k => { k with moving := some ch })
  else
    let s1 := s.modStack n (fun k => { k with dead := k.dead ++ [ch] })
    if s.margin n = 0 ∧ k.dead = [] then s1.setSticky sSpareExhausted else s1

/-- A corrected error at `key` (R366): sticky bit, counts, and the channel's count towards map-out. -/
def State.eccCorrected (s : State) (key : Nat) : State :=
  let s0 := s.setSticky sEccCorr
  let s1 := match stackOf key with
    | some (n, _) => if n < 16 then s0.dieEvent (n / 4) 0x13 256 else if n < 28 then s0.dieEvent ((n - 16) / 3) 0x13 256 else s0
    | none => s0.dieEvent (key % 2 ^ 48 / 2 ^ 29) 0x13 256
  match stackOf key with
  | some (n, c) =>
    let ch := s.channelAt n key c
    let s2 := s1.modStack n (fun k => { k with ce := satAdd (2 ^ 32 - 1) k.ce 1, corrected := Sparse.modify 0 k.corrected ch (· + 1) })
    if 1024 ≤ Sparse.get 0 (s2.stack n).corrected ch then s2.qualify n ch else s2
  | none => s1.modCore (key % 2 ^ 48 / 2 ^ 25) (fun k => { k with spadCe := satAdd (2 ^ 32 - 1) k.spadCe 1 })

/-- An uncorrectable error at `key` (R367): sticky bit, capture, counts, the block lost, and map-out of its channel. A block
of the working version is lost in that version alone (R373). -/
def State.eccUncorrected (s : State) (v : Viewer) (key source core : Nat) : State :=
  let s1 := (s.setSticky sEccUncorr).captureEcc source core key
  let blk := key / 64
  let s2 := if s.seesWork v key ∧ s.inWork blk = true then { s1 with workLost := Sparse.set false s1.workLost blk true }
    else { s1 with lost := Sparse.set false s1.lost blk true }
  match stackOf key with
  | some (n, c) => (s2.modStack n (fun k => { k with ue := satAdd 0xFFFF k.ue 1 })).qualify n (s.channelAt n key c)
  | none => s2.modCore (key % 2 ^ 48 / 2 ^ 25) (fun k => { k with spadUe := satAdd 0xFFFF k.spadUe 1 })

/-- What the check bits show in the ECC units that an access reads (R366, R367): each error has its effect. -/
def State.ecc (s : State) (v : Viewer) (found : List (Nat × EccFind)) (source core : Nat) : State :=
  found.foldl (fun s e => match e.2 with
    | .clean => s
    | .corrected => s.eccCorrected e.1
    | .uncorrectable => s.eccUncorrected v e.1 source core) s

/-- No error of a list is uncorrectable. -/
def eccFine (found : List (Nat × EccFind)) : Bool := found.all (fun e => decide (e.2 ≠ .uncorrectable))

/-- The errors of `found` in the ECC units that bytes [lo, hi) touch. -/
def State.eccIn (s : State) (found : List (Nat × EccFind)) (lo hi : Nat) : List (Nat × EccFind) :=
  found.filter (fun e => let u := s.eccUnit e.1
    decide (e.1 / u * u < hi) && decide (lo < e.1 / u * u + u))

/-- Read spans, as key and length, through their check bits (R366 to R368, R381). The flag is false at an uncorrectable or
lost block. -/
def State.readThrough (s : State) (v : Viewer) (found : List (Nat × EccFind)) (source core : Nat) (spans : List (Nat × Nat)) :
    State × Bool :=
  if spans.any (fun x => (blocksOf x.1 x.2).any (fun b => s.blockLost v b || s.deadLine (64 * b))) then (s, false)
  else
    let mine := found.filter (fun e => spans.any (fun x => (s.eccIn [e] x.1 (x.1 + x.2)).isEmpty == false))
    (s.ecc v mine source core, eccFine mine)

/-- The bytes of spans as a viewer sees them. -/
def State.spanBytes (s : State) (v : Viewer) (spans : List (Nat × Nat)) : List Byte :=
  spans.flatMap (fun x => (List.range x.2).map (fun i => s.readByte v (x.1 + i)))

/-- Read spans through their check bits. None is an uncorrectable or lost block. -/
def State.readSpans (s : State) (v : Viewer) (found : List (Nat × EccFind)) (source core : Nat) (spans : List (Nat × Nat)) :
    State × Option (List Byte) :=
  let r := s.readThrough v found source core spans
  (r.1, if r.2 then some (s.spanBytes v spans) else none)

/-- Add the run [lo, hi) to runs that ascend and do not touch. -/
def addRun (lo hi : Nat) : List (Nat × Nat) → List (Nat × Nat)
  | [] => if lo < hi then [(lo, hi)] else []
  | x :: r =>
    if hi < x.1 then (if lo < hi then [(lo, hi)] else []) ++ x :: r
    else if x.2 < lo then x :: addRun lo hi r
    else addRun (min lo x.1) (max hi x.2) r

/-- The bytes [lo, hi) lie in one of the runs. -/
def inRuns (runs : List (Nat × Nat)) (lo hi : Nat) : Bool := runs.any (fun r => decide (r.1 ≤ lo) && decide (hi ≤ r.2))

/-- The blocks that runs touch. -/
def runBlocks (runs : List (Nat × Nat)) : List Nat := (runs.flatMap (fun r => blocksOf r.1 (r.2 - r.1))).eraseDups

/-- Runs of memory are written: a KEXP that reads its key there delivers unspecified words (R200). -/
def State.keyWritten (s : State) (runs : List (Nat × Nat)) : State :=
  let hit (a : SeAct) : Bool := a.key.any (fun x => runs.any (fun r => decide (x.1 < r.2) && decide (r.1 < x.1 + x.2)))
  (List.range 64).foldl (fun s c =>
    if (s.core c).se.active.any hit then
      s.modCore c (fun k => { k with se := { k.se with
        active := k.se.active.map (fun a => if hit a then { a with dirty := true } else a) } })
    else s) s

/-- One write of several spans through their check bits (R368, R381, R603): an ECC unit that the whole write covers only in
part is read first. The flag is false when the write fails, and then it writes nothing. A block that it covers whole is
lost no more. -/
def State.writeSpans (s : State) (v : Viewer) (found : List (Nat × EccFind)) (source core : Nat)
    (l : List (Nat × List Byte)) : State × Bool :=
  let runs := l.foldl (fun r x => addRun x.1 (x.1 + x.2.length) r) []
  let whole (b : Nat) : Bool := inRuns runs (64 * b) (64 * b + 64)
  if (runBlocks runs).any (fun b => s.deadLine (64 * b) || (s.blockLost v b && !whole b)) then (s, false)
  else
    let mine := found.filter (fun e => let u := s.eccUnit e.1
      runs.any (fun r => !(s.eccIn [e] r.1 r.2).isEmpty) && !inRuns runs (e.1 / u * u) (e.1 / u * u + u))
    let s1 := s.ecc v mine source core
    if !eccFine mine then (s1, false)
    else
      let s2 := (l.foldl (fun s x => s.writeRun v x.1 x.2) s1).keyWritten runs
      (((runBlocks runs).filter whole).foldl (fun s b =>
        if s.seesWork v (64 * b) then { s with workLost := Sparse.set false s.workLost b false }
        else { s with lost := Sparse.set false s.lost b false }) s2, true)

/-! ### Noise-bound algebra (R144, R145), on 8.8 values as naturals -/

/-- DELTA of Table 5-5. -/
def delta (d : Nat) : Nat := [256, 150, 83, 44, 23, 12, 6, 3, 2].getD d 1

/-- Saturation at 0xFFFF. -/
def sat16 (v : Nat) : Nat := min v 0xFFFF

/-- The least v with v / 256 at least log2 x: the least v with x^256 ≤ 2^v (R144). -/
def log2up (x : Nat) : Nat := Nat.clog 2 (x ^ 256)

/-- A bound on log2 (2^a + 2^b) (R144). -/
def addb (a b : Nat) : Nat :=
  let hi := max a b
  sat16 (hi + delta ((hi - min a b) / 256))

/-- NOISE of an integer-weight combination, from the largest CMAG of its columns (R145). -/
def noiseCombination (n m magd : Nat) : Nat :=
  if m = 0 then 0
  else if m = 0xFFFFFFFF then (if magd = 0xFFFF then 0xFFFF else sat16 (n + magd))
  else sat16 (n + log2up m)

/-- NOISE of a plaintext product (R145). -/
def noisePtMul (n logn ptmag : Nat) : Nat := sat16 (n + logn * 256 + ptmag)

/-- NOISE of a ciphertext product (R145). -/
def noiseCtMul (na sa nb sb vbound logn : Nat) : Nat :=
  let ma := sa + vbound
  let mb := sb + vbound
  sat16 (logn * 256 + addb (addb (ma + nb) (mb + na)) (na + nb))

/-- NOISE of a rescale by a divisor of log2 D (R145). -/
def noiseRescale (n d rnd : Nat) : Nat := addb (n - d) rnd

/-! ### The fault of a pour (R270, R271) -/

/-- Release the places that discarded instructions had promised (R259, R270). -/
def releasePlaces (r : Rec) (q : List QEnt) : Rec :=
  { r with tokq := q.foldl (fun m e =>
      if bitAt e.op.ins.bits 43 then
        Sparse.modify ⟨0, 0⟩ m (fld e.op.ins.bits 37 6) (fun x => { x with reserved := x.reserved - 1 }) else m) r.tokq }

/-- Discard the queued instructions of a core that have not started (R270, step 3). -/
def Core.dropQueues (k : Core) : Core :=
  let r := releasePlaces k.arch.rcd (k.lme.queue ++ k.te.queue ++ k.ve.queue ++ k.se.queue)
  { k with arch := { k.arch with rcd := r }, lme := { k.lme with queue := [] }, te := { k.te with queue := [] },
           ve := { k.ve with queue := [] },
           se := { k.se with queue := [], walk := k.se.walk.filter (fun w => w.xfers != []) } }

/-- The physical cores that serve a flask's logical cores. -/
def State.hosts (s : State) (f : Nat) : List Nat := (s.flask f).map

/-- Stop a flask (R270, steps 1 to 3): its cores issue nothing more, and what has not started is discarded. -/
def State.stopFlask (s : State) (f : Nat) (why : StopWhy) : State :=
  (s.hosts f).foldl (fun s c => s.modCore c Core.dropQueues) (s.modFlask f (fun x => { x with stage := .stopping why }))

/-- The place of a fault among those of its mesh cycle (R271): logical core, then unit, then thread. -/
def FaultRec.order (x : FaultRec) : Nat :=
  x.lcore * 256 + ((if x.unit = 4 then 0 else if x.unit = 0 then 4 else x.unit.toNat) * 16 + x.thread.toNat)

/-- A fault raised by an instruction of a pour (R270, R271): the core records its first, the flask stops, and the pour
records the first of the earliest mesh cycle. Units: 0 sequencer, 1 LME, 2 TE, 3 VE, 4 stream engine. -/
def State.pourFault (s : State) (c unit : Nat) (thread : Nat) (pc : BitVec 32) (word : Word) (code : BitVec 8) : State :=
  let s1 := s.modCore c (fun k =>
    if k.faultCode = 0 then
      { k with faultCode := code, faultUnit := BitVec.ofNat 4 unit, faultThread := BitVec.ofNat 4 thread, faultPc := pc, faultWord := word }
    else k)
  match s.serving c with
  | none => s1
  | some (f, l) =>
    let mine : FaultRec := ⟨code, l, BitVec.ofNat 8 unit, BitVec.ofNat 8 thread, pc, word, some s.now⟩
    match (s1.flask f).stage with
    | .running => (s1.modFlask f (fun x => { x with fault := some mine })).stopFlask f .fault
    | .stopping .fault =>
      if (s1.flask f).fault.any (fun x => x.raised == some s.now && decide (mine.order < x.order)) then
        s1.modFlask f (fun x => { x with fault := some mine })
      else s1
    | _ => s1

/-- A fault that ends a pour and that no instruction raised (R280). -/
def State.bareFault (s : State) (f lcore : Nat) (code : BitVec 8) : State :=
  (s.modFlask f (fun x => { x with fault := if x.fault.isNone then some ⟨code, lcore, 0, 0, 0, 0, none⟩ else x.fault })).stopFlask f .fault

end Sys2Proof.Machine
end

