-- ==== Sys2Proof/Machine/Operands.lean ====
section
/-! DEFINITION. Operand forms: element formats, descriptor slots with their checks, element addresses, and the access
check of a pour. -/

namespace Sys2Proof.Machine

/-! ### Formats (Table 2-1) -/

/-- Width in bits of a format code; 0 for a code outside Table 2-1 (R33, R34). -/
def fmtWidth (f : Nat) : Nat :=
  match f with
  | 0x01 => 1 | 0x02 => 2 | 0x03 => 2 | 0x04 => 3 | 0x05 => 4 | 0x06 => 5 | 0x07 => 6 | 0x08 => 7 | 0x09 => 8
  | 0x0A => 32 | 0x10 => 4 | 0x11 => 6 | 0x12 => 6 | 0x13 => 8 | 0x14 => 8 | 0x15 => 16 | 0x16 => 16 | 0x17 => 32
  | 0x20 => 32 | 0x30 => 128 | 0x31 => 640 | 0x40 => 32 | _ => 0

/-- The format is stored in planes (Table 2-1, R58). -/
def fmtPlane (f : Nat) : Bool := decide (0 < fmtWidth f) && decide (fmtWidth f < 8)

/-- The format may be an LMM operand (Table 2-1). -/
def fmtLmm (f : Nat) : Bool :=
  (decide (0x01 ≤ f) && decide (f ≤ 0x09)) || (decide (0x10 ≤ f) && decide (f ≤ 0x17)) || f == 0x20

/-- The format is a floating format (Table 2-2). -/
def fmtFloat (f : Nat) : Bool := decide (0x10 ≤ f) && decide (f ≤ 0x17)

/-- The format is of wide class (Table 2-1). -/
def fmtWide (f : Nat) : Bool := decide (0x15 ≤ f) && decide (f ≤ 0x17)

/-- Element size in bytes of a byte format. -/
def fmtBytes (f : Nat) : Nat := fmtWidth f / 8

/-- Access width of BASE in bytes (Table 3-4). -/
def fmtBaseAlign (f : Nat) : Nat := if fmtPlane f then 64 else if f = 0x20 then 256 else fmtBytes f

/-- Access width of STRIDEi in bytes (Table 3-4). -/
def fmtStrideAlign (f i : Nat) : Nat :=
  if fmtPlane f then (if i = 5 then 64 else 8)
  else if f = 0x20 then (if i = 0 then 4 else 256)
  else fmtBytes f

/-! ### Descriptors -/

/-- A descriptor as an engine copies it from its slot (Table 3-1, R65): 128 bytes. -/
structure Desc where
  raw : List Byte
deriving DecidableEq, Repr

/-- The descriptor in slot `h` of a core (R62). -/
def Core.desc (k : Core) (h : Nat) : Desc := ⟨readBytes k.arch.rcd.slots (128 * h) 128⟩

/-- Byte `i` of a slot. -/
def Desc.byte (d : Desc) (i : Nat) : Nat := (d.raw.getD i 0).toNat

/-- KIND. -/
def Desc.kind (d : Desc) : Nat := d.byte 63

/-- FLAGS. -/
def Desc.flags (d : Desc) : Nat := leAt d.raw 61 2

/-- POISON (Table 3-3). -/
def Desc.poison (d : Desc) : Bool := d.flags % 2 == 1

/-- PLANES. -/
def Desc.planes (d : Desc) : Nat := d.byte 60 / 16

/-- RANK. -/
def Desc.rank (d : Desc) : Nat := d.byte 60 % 8

/-- FORMAT. -/
def Desc.fmt (d : Desc) : Nat := d.byte 59

/-- STRIDEi, signed (R67). -/
def Desc.stride (d : Desc) (i : Nat) : Int := signed 36 (leAt d.raw 32 27 / 2 ^ (36 * i) % 2 ^ 36)

/-- EXTENTi. -/
def Desc.extentRaw (d : Desc) (i : Nat) : Nat := leAt d.raw (8 + 4 * i) 4

/-- The extent of dimension i; 1 at or above RANK (R68). -/
def Desc.extent (d : Desc) (i : Nat) : Nat := if i < d.rank then d.extentRaw i else 1

/-- BASE. -/
def Desc.base (d : Desc) : Nat := leAt d.raw 0 8

/-- The extents below RANK. -/
def Desc.extents (d : Desc) : List Nat := (List.range d.rank).map d.extent

/-- The number of elements. -/
def Desc.count (d : Desc) : Nat := d.extents.foldl (· * ·) 1

/-- Some extent below RANK is zero (Table 3-5). -/
def Desc.empty (d : Desc) : Bool := d.extents.contains 0

/-- Every bit of bytes [lo, hi) of the slot is zero. -/
def Desc.zeroes (d : Desc) (lo hi : Nat) : Bool := (bytesAt d.raw lo (hi - lo)).all (· == 0)

/-- The tensor word satisfies R34 and R67 to R69. -/
def Desc.wordOk (d : Desc) : Bool :=
  decide (fmtWidth d.fmt ≠ 0) && decide (d.flags / 4 = 0) && decide (d.byte 60 / 8 % 2 = 0) &&
  decide (1 ≤ d.rank) && decide (d.rank ≤ 6) &&
  (!fmtPlane d.fmt || (decide (d.rank ≤ 5) && decide (d.stride 0 = 0))) &&
  (List.range 6).all (fun i => decide (i < d.rank) ||
    (decide (d.extentRaw i = 0) && (decide (d.stride i = 0) || (fmtPlane d.fmt && i == 5)))) &&
  decide (d.planes = if fmtPlane d.fmt then fmtWidth d.fmt else 0)

/-! ### Ciphertext metadata (Table 3-7) -/

/-- KSID. -/
def Desc.ksid (d : Desc) : Nat := leAt d.raw 64 8
/-- CHAIN. -/
def Desc.chain (d : Desc) : Nat := d.byte 72 % 8
/-- EXTRA. -/
def Desc.extra (d : Desc) : Nat := d.byte 72 / 16
/-- LEVEL. -/
def Desc.level (d : Desc) : Nat := d.byte 73 % 128
/-- SCALE. -/
def Desc.scale (d : Desc) : Nat := leAt d.raw 74 2
/-- NOISE. -/
def Desc.noise (d : Desc) : Nat := leAt d.raw 76 2
/-- LOGN. -/
def Desc.logn (d : Desc) : Nat := d.byte 78 % 32
/-- NPOLY. -/
def Desc.npoly (d : Desc) : Nat := d.byte 79 % 4
/-- DOMAIN: true is the NTT domain. -/
def Desc.domain (d : Desc) : Bool := d.byte 79 / 4 % 2 == 1
/-- UNRELIABLE. -/
def Desc.unreliable (d : Desc) : Bool := d.byte 79 / 8 % 2 == 1

/-- Residue rows that a ciphertext holds. -/
def Desc.rows (d : Desc) : Nat := d.level + d.extra

/-- A Ciphertext descriptor satisfies R82, R83 and R131. -/
def Desc.ctOk (s : State) (d : Desc) : Bool :=
  decide (d.fmt = 0x20) && decide (3 ≤ d.rank) && d.zeroes 80 128 && decide (d.byte 79 / 16 = 0) &&
  decide (d.byte 78 / 32 = 0) && decide (d.byte 73 / 128 = 0) && decide (d.byte 72 / 8 % 2 = 0) &&
  decide (2 ≤ d.npoly) && decide (d.extent 0 = 2 ^ d.logn) && decide (d.extent 1 = d.rows) &&
  decide (d.extent 2 = d.npoly) &&
  match s.chain d.chain with
  | some c => decide (d.logn = c.logn) && decide (d.rows ≤ c.l + c.k) && decide (d.level ≤ c.l) &&
      (d.extra == 0 || d.extra == c.k)
  | none => false

/-! ### Key and index extensions (Tables 3-8, 3-9) -/

/-- KTYPE. -/
def Desc.ktype (d : Desc) : Nat := d.byte 79
/-- LOGN of a Key. -/
def Desc.keyLogn (d : Desc) : Nat := d.byte 78 % 32
/-- DNUM. -/
def Desc.dnum (d : Desc) : Nat := d.byte 77 % 16
/-- CHAIN of a Key. -/
def Desc.keyChain (d : Desc) : Nat := d.byte 76 % 8
/-- GALOIS. -/
def Desc.galois (d : Desc) : Nat := leAt d.raw 72 4

/-- A Key descriptor satisfies R85. -/
def Desc.keyOk (d : Desc) : Bool :=
  decide (d.fmt = 0x20) && d.zeroes 80 128 && d.zeroes 64 72 && decide (d.byte 78 / 32 = 0) &&
  decide (d.byte 77 / 16 = 0) && decide (d.byte 76 / 8 = 0) && decide (1 ≤ d.dnum) && decide (d.dnum ≤ 8) &&
  ((decide (d.ktype = 1) && decide (d.galois = 0)) ||
   (decide (d.ktype = 2) && decide (d.galois % 2 = 1) && decide (d.galois < 2 ^ (d.keyLogn + 1))))

/-- IMODE. -/
def Desc.imode (d : Desc) : Nat := d.byte 64
/-- DIM. -/
def Desc.dim (d : Desc) : Nat := d.byte 65 % 8

/-- An Index descriptor satisfies R86. -/
def Desc.indexOk (d : Desc) : Bool :=
  decide (d.fmt = 0x40) && d.zeroes 66 128 && decide (d.byte 65 / 8 = 0) && decide (d.dim < 6) &&
  (d.imode == 1 || d.imode == 2)

/-! ### The checks of Table 3-6 -/

/-- A descriptor that an instruction names: the kind the operand takes it as (1 Tensor, which a Ciphertext may stand
for; 2 Ciphertext; 3 Key; 4 Index; 5 a correction tensor, of which a Ciphertext counts with its metadata, R146), whether it
is a source, whether it is written. -/
structure Named where
  d : Desc
  role : Nat
  src : Bool
  dst : Bool
deriving DecidableEq, Repr

/-- Check 1 (R63). -/
def Named.kindOk (n : Named) : Bool := n.d.kind == n.role || ((n.role == 1 || n.role == 5) && n.d.kind == 2) || (n.role == 5 && n.d.kind == 1)

/-- Check 2 (R34, R67 to R69, R82 to R86). A Ciphertext that stands for a Tensor must still have the FORMAT that Table 3-2
requires of its KIND. -/
def Named.formOk (s : State) (n : Named) : Bool :=
  n.d.wordOk && (match n.role with
    | 2 => n.d.ctOk s
    | 3 => n.d.keyOk
    | 4 => n.d.indexOk
    | 5 => n.d.kind != 2 || n.d.ctOk s
    | _ => n.d.kind != 2 || n.d.fmt == 0x20)

/-- Check 3 (R72, R73). BASE is tested as the 64-bit field of Table 3-1. -/
def Named.alignOk (n : Named) : Bool :=
  let d := n.d
  decide (d.base % fmtBaseAlign d.fmt = 0) &&
  (List.range 6).all (fun i =>
    (!(decide (i < d.rank) || (fmtPlane d.fmt && i == 5))) ||
      decide (d.stride i % (fmtStrideAlign d.fmt i : Int) = 0)) &&
  (d.fmt != 0x20 || (decide (d.stride 0 = 4) && decide (d.extent 0 % 64 = 0)))

/-- Check 4 (R76). -/
def Named.aliasOk (n : Named) : Bool :=
  let d := n.d
  !n.dst || ((List.range 6).all (fun i =>
      decide (d.rank ≤ i) || decide (d.extent i ≤ 1) || decide (d.stride i ≠ 0) || (fmtPlane d.fmt && i == 0)) &&
    (!fmtPlane d.fmt || decide (d.planes ≤ 1) || decide (d.stride 5 ≠ 0)))

/-- Check 5. -/
def Named.poisonOk (n : Named) : Bool := !n.src || !n.d.poison

/-- Some descriptor of the instruction has a zero extent (Table 3-5). -/
def anyEmpty (l : List Named) : Bool := l.any (fun n => n.d.empty)

/-- The checks of Table 3-6 in their order (R78): the fault of the first that fails. -/
def descChecks (s : State) (l : List Named) : Option (BitVec 8) :=
  if !l.all Named.kindOk then some fHandle
  else if !l.all (Named.formOk s) then some fDescFormat
  else if !l.all Named.alignOk then some fDescAlign
  else if !l.all Named.aliasOk then some fDescAlias
  else if !anyEmpty l && !l.all Named.poisonOk then some fPoison
  else none

/-! ### Element addresses -/

/-- The coordinates of the element with a linear index (R75). -/
def coordsOf : List Nat → Nat → List Nat
  | [], _ => []
  | x :: r, e => (if x = 0 then 0 else e % x) :: coordsOf r (if x = 0 then 0 else e / x)

/-- The linear index of coordinates (R75). -/
def linOf : List Nat → List Nat → Nat
  | x :: xs, i :: is => i + x * linOf xs is
  | _, _ => 0

/-- Σ ij × STRIDEj from dimension `lo` up. -/
def Desc.strideSum (d : Desc) : Nat → List Nat → Int
  | _, [] => 0
  | j, i :: r => (i : Int) * d.stride j + Desc.strideSum d (j + 1) r

/-- The offset of a byte-format element (R70, R74); a Key's elements lie behind its header (R191). -/
def Desc.elemOff (d : Desc) (cs : List Nat) : Int :=
  (d.base % 2 ^ 48 : Nat) + (if d.kind = 3 then 256 else 0) + d.strideSum 0 cs

/-- The offset of the row of one plane that holds coordinates 1 and up (R71). -/
def Desc.rowOff (d : Desc) (plane : Nat) (cs : List Nat) : Int :=
  (d.base % 2 ^ 48 : Nat) + (plane : Int) * d.stride 5 + d.strideSum 1 cs

/-- MODULE of a descriptor's addresses (R74). -/
def Desc.module (d : Desc) : Nat := d.base / 2 ^ 52

/-- SPACE of a descriptor's addresses (R74). -/
def Desc.space (d : Desc) : Nat := d.base / 2 ^ 48 % 16

/-! ### Slots -/

/-- Write bytes of slot `h` from byte `off`. -/
def Core.setSlot (k : Core) (h off : Nat) (l : List Byte) : Core :=
  k.modRec (fun r => { r with slots := writeBytes r.slots (128 * h + off) l })

/-- Set POISON in slot `h` (R79). -/
def Core.setPoison (k : Core) (h : Nat) : Core :=
  k.setSlot h 61 [BitVec.ofNat 8 ((k.desc h).byte 61) ||| 1]

/-- Write back the metadata of a ciphertext destination (R84, R135): KSID, SCALE, NOISE, DOMAIN and UNRELIABLE. -/
def Core.setMeta (k : Core) (h : Nat) (m : MdOut) : Core :=
  let k1 := k.setSlot h 64 (leBytes 8 m.ksid.toNat)
  let k2 := k1.setSlot h 74 (leBytes 2 m.scale ++ leBytes 2 m.noise)
  let b := (k2.desc h).byte 79 % 4 + (if m.domain then 4 else 0) + (if m.unreliable then 8 else 0)
  k2.setSlot h 79 [BitVec.ofNat 8 (b + (k2.desc h).byte 79 / 16 * 16)]

/-! ### Global addresses and the access check -/

/-- Size of a space (Table 1-6); 0 for a reserved code. -/
def spaceSize (sp : Nat) : Nat :=
  match sp with
  | 0 => 2 ^ 41
  | 1 => 0x18000000000
  | 2 => 2 ^ 39
  | 3 => 2 ^ 31
  | 4 => 2 ^ 29
  | 8 => 0x5000000
  | _ => 0

/-- MODULE names this module (R24, R25). -/
def State.isLocal (s : State) (m : Nat) : Bool := m == 0xFFF || (s.fab.addrv && m == s.fab.addr.toNat)

/-- A span lies inside one window of a list of windows, each a space and offset key with a size. -/
def inWindow (ws : List (Nat × Nat)) (key span : Nat) : Bool :=
  ws.any (fun w => decide (w.1 ≤ key) && decide (key + span ≤ w.1 + w.2))

/-- The access check of a pour instruction of physical core `c` (R24, R74): the fault of the first step that fails. -/
def State.checkAccess (s : State) (c : Nat) (m sp : Nat) (off : Int) (span : Nat) : Option (BitVec 8) :=
  match s.flaskOf c with
  | none => some fWindow
  | some d =>
    if !s.isLocal m then some fWindow
    else if spaceSize sp = 0 then some fWindow
    else if sp = 4 ∨ sp = 8 then some fPrivilege
    else if off < 0 ∨ (spaceSize sp : Int) < off + span then some fWindow
    else if sp = 3 ∧ d.ncores ≤ off.toNat / 2 ^ 25 then some fWindow
    else if !inWindow d.windows (memKey sp off.toNat) span then some fWindow
    else none

/-- The key of a byte of the logical scratchpad of a flask (R19): that of the physical core that serves it, or that of
its parked image (R503). -/
def State.spadKey (s : State) (f l o : Nat) : Nat :=
  if (s.flask f).shares.any (fun x => x.parked == l) then memKey 9 ((64 * f + l) * 2 ^ 25 + o)
  else memKey 3 ((s.flask f).map.getD l 0 * 2 ^ 25 + o)

/-- The physical pieces of a span of logical addresses in the view of flask `f` (R19, R24): key and length. A span of
the scratchpad space is cut where it passes from one logical scratchpad to the next. -/
def State.pieces (s : State) (f sp off len : Nat) : List (Nat × Nat) :=
  if sp ≠ 3 then [(memKey sp off, len)]
  else
    let a := off / 2 ^ 25
    let n := if len = 0 then 0 else (off + len - 1) / 2 ^ 25 - a + 1
    (List.range n).map (fun i =>
      let lo := max off ((a + i) * 2 ^ 25)
      let hi := min (off + len) ((a + i + 1) * 2 ^ 25)
      (s.spadKey f (a + i) (lo % 2 ^ 25), hi - lo))

/-- The data of a write of `pieces`, piece by piece. -/
def spread : List (Nat × Nat) → List Byte → List (Nat × List Byte)
  | [], _ => []
  | (key, len) :: r, data => (key, data.take len) :: spread r (data.drop len)

/-! ### Tile codes (Table 10-3) -/

/-- The code names an A tile. -/
def isA (t : Nat) : Bool := decide (4 ≤ t) && decide (t ≤ 7)
/-- The code names an A pair. -/
def isPair (t : Nat) : Bool := t == 8 || t == 9
/-- The code names a C tile. -/
def isC (t : Nat) : Bool := t == 0xA || t == 0xB
/-- The code names a B tile. -/
def isB (t : Nat) : Bool := t == 0xC || t == 0xD
/-- The code names a transform buffer. -/
def isTb (t : Nat) : Bool := t == 0xE || t == 0xF
/-- The code names a vector buffer. -/
def isV (t : Nat) : Bool := decide (t < 4)

/-- The A tiles that a code names, the even tile first (R94). -/
def aTiles (t : Nat) : List Nat := if t = 8 then [4, 5] else if t = 9 then [6, 7] else if isA t then [t] else []

/-- Capacity in bytes of a tile or buffer code. -/
def tileBytes (t : Nat) : Nat :=
  if isA t then 0x10000 else if isPair t then 0x20000 else if isB t then 0x20000 else if isC t then 0x100000
  else if isTb t then 0x80000 else if isV t then 0x40000 else 0

/-- Tile `t` of a core. -/
def Core.tile (k : Core) (t : Nat) : Tile := Sparse.get Tile.init k.arch.tiles t

/-- Replace tile `t`. -/
def Core.setTile (k : Core) (t : Nat) (x : Tile) : Core :=
  k.modArch (fun a => { a with tiles := Sparse.set Tile.init a.tiles t x })

/-- Change tile `t`. -/
def Core.modTile (k : Core) (t : Nat) (f : Tile → Tile) : Core := k.setTile t (f (k.tile t))

/-- Buffer `t` of a core. -/
def Core.buf (k : Core) (t : Nat) : Buf := Sparse.get Buf.init k.arch.bufs t

/-- Replace buffer `t`. -/
def Core.setBuf (k : Core) (t : Nat) (x : Buf) : Core :=
  k.modArch (fun a => { a with bufs := Sparse.set Buf.init a.bufs t x })

/-- Set the VALID bits of the 16 KiB segments that bytes [lo, hi) of buffer `t` touch (R158, R207). -/
def Core.setSegs (k : Core) (t lo hi : Nat) (v : Bool) : Core :=
  if hi ≤ lo then k else
    let b := k.buf t
    let n := (hi - 1) / 0x4000 - lo / 0x4000 + 1
    k.setBuf t { b with valid := (List.range n).foldl (fun m i => Sparse.set true m (lo / 0x4000 + i) v) b.valid }

/-- Every segment that bytes [lo, hi) of buffer `t` touch is valid. -/
def Core.segsOk (k : Core) (t lo hi : Nat) : Bool :=
  let n := if hi ≤ lo then 0 else (hi - 1) / 0x4000 - lo / 0x4000 + 1
  (List.range n).all (fun i => Sparse.get true (k.buf t).valid (lo / 0x4000 + i))

end Sys2Proof.Machine
end

