-- ==== Sys2Proof/Machine/Formats.lean ====
section
/-! DEFINITION. The number formats: decoding an element, rounding a value into a format, and the in-band status of the
accumulator formats. -/

namespace Sys2Proof.Machine

/-- A decoded element: finite with value (−1)^neg × m × 2^e, an infinity, or NaN. -/
inductive Num
  | fin (neg : Bool) (m : Nat) (e : Int)
  | inf (neg : Bool)
  | nan
deriving DecidableEq, Repr

/-- Mantissa bits, exponent bits and bias of a floating format (Table 2-2). -/
def floatParams (f : Nat) : Nat × Nat × Nat :=
  match f with
  | 0x10 => (1, 2, 1) | 0x11 => (3, 2, 1) | 0x12 => (2, 3, 3) | 0x13 => (3, 4, 7) | 0x14 => (2, 5, 15)
  | 0x15 => (7, 8, 127) | 0x16 => (10, 5, 15) | _ => (23, 8, 127)

/-- The format has infinities (Table 2-2). -/
def hasInf (f : Nat) : Bool := decide (0x14 ≤ f) && decide (f ≤ 0x17)

/-- The value of an element code (R35 to R37): integers with exponent 0, floating values as significand and exponent. -/
def decodeNum (f v : Nat) : Num :=
  if fmtFloat f then
    let (t, eb, b) := floatParams f
    let m := v % 2 ^ t
    let e := v / 2 ^ t % 2 ^ eb
    let neg := v / 2 ^ (t + eb) % 2 == 1
    if hasInf f ∧ e = 2 ^ eb - 1 then (if m = 0 then .inf neg else .nan)
    else if f = 0x13 ∧ v % 128 = 127 then .nan
    else if e = 0 then .fin neg m (1 - (b : Int) - t)
    else .fin neg (2 ^ t + m) ((e : Int) - b - t)
  else
    let x : Int :=
      if f = 0x01 then (v % 2 : Nat)
      else if f = 0x02 then (if v % 4 = 1 then 1 else if v % 4 = 3 then -1 else 0)
      else if f = 0x20 ∨ f = 0x40 then (v % 2 ^ 32 : Nat)
      else signed (fmtWidth f) (v % 2 ^ fmtWidth f)
    .fin (decide (x < 0)) x.natAbs 0

/-- The internal form (s, E, D) of R39: a floating format of 8 bits and wider folds its exponent's low two bits into
the significand. -/
def foldExp (f : Nat) (m : Nat) (e : Int) : Nat × Int :=
  if fmtFloat f ∧ 8 ≤ fmtWidth f then (m * 2 ^ (e % 4).toNat, e - e % 4) else (m, e)

/-- Round m × 2^k to an integer, nearest with ties to even (R46). -/
def roundInt (m : Nat) (k : Int) : Nat :=
  if 0 ≤ k then m * 2 ^ k.toNat
  else
    let d := (-k).toNat
    let q := m / 2 ^ d
    let r := m % 2 ^ d
    if 2 ^ d < 2 * r ∨ (2 * r = 2 ^ d ∧ q % 2 = 1) then q + 1 else q

/-- The canonical NaN of a format that has one (R38). -/
def canonNan (f : Nat) : Nat :=
  match f with
  | 0x13 => 0x7F | 0x14 => 0x7E | 0x15 => 0x7FC0 | 0x16 => 0x7E00 | 0x17 => 0x7FC00000 | _ => 0

/-- The code of the largest finite magnitude of a floating format (Table 2-2). -/
def maxCode (f : Nat) : Nat :=
  let (t, eb, _) := floatParams f
  if hasInf f then (2 ^ eb - 1) * 2 ^ t - 1 else if f = 0x13 then 0x7E else 2 ^ (t + eb) - 1

/-- The range ends of an integer format (R35, R36). -/
def intRange (f : Nat) : Int × Int :=
  if f = 0x01 then (0, 1) else if f = 0x02 then (-1, 1)
  else (-(2 : Int) ^ (fmtWidth f - 1), 2 ^ (fmtWidth f - 1) - 1)

/-- Magnitude m × 2^e rounded into a floating format: its code without the sign, which may pass the largest finite
code (R46). -/
def roundFloat (f m : Nat) (e : Int) : Nat :=
  let (t, _, b) := floatParams f
  if m = 0 then 0 else
    let x := e + Nat.log2 m
    let q : Int := max x (1 - (b : Int)) - t
    let r := roundInt m (e - q)
    if r < 2 ^ t then r
    else (q + t + b).toNat * 2 ^ t + (r - 2 ^ t)

/-- Write a value into a format (R46 to R48): its code, and whether the write counts as a saturation (R49). -/
def encodeNum (f : Nat) (x : Num) : Nat × Bool :=
  if fmtFloat f then
    let (t, eb, _) := floatParams f
    let sign (neg : Bool) : Nat := if neg then 2 ^ (t + eb) else 0
    match x with
    | .nan => if canonNan f ≠ 0 then (canonNan f, false) else (0, true)
    | .inf neg => if hasInf f then (sign neg + maxCode f + 1, false) else (sign neg + maxCode f, true)
    | .fin neg m e =>
      let c := roundFloat f m e
      if c ≤ maxCode f then (sign neg + c, false)
      else if hasInf f then (sign neg + maxCode f + 1, true)
      else (sign neg + maxCode f, true)
  else
    let (lo, hi) := intRange f
    let code (v : Int) : Nat := toBits (fmtWidth f) v
    match x with
    | .nan => (0, true)
    | .inf neg => (code (if neg then lo else hi), true)
    | .fin neg m e =>
      let r := roundInt m e
      let v : Int := if neg then -(r : Int) else r
      if v < lo then (code lo, true) else if hi < v then (code hi, true) else (code v, false)

/-! ### Accumulator formats (R42, R43) -/

/-- The bits of an accumulator class: 128 or 640. -/
def accBits (wide : Bool) : Nat := if wide then 640 else 128

/-- The in-band pattern of an accumulator of `n` bits: its finite part and its status (bit 0 NaN, 1 +Inf, 2 −Inf). -/
def accPattern (n : Nat) (v : Nat) (st : BitVec 3) : Nat :=
  if bitAt st 0 ∨ (bitAt st 1 ∧ bitAt st 2) then 2 ^ (n - 1)
  else if bitAt st 2 then 2 ^ (n - 1) + 1
  else if bitAt st 1 then 2 ^ (n - 1) + 2
  else v % 2 ^ n

/-- Reading an accumulator pattern back: its finite part and its status (R43). R43 restores the status bits alone; that the
finite part beside a restored status is 0 is this model's DESIGN CHOICE (log 57). -/
def accUnpack (n v : Nat) : Nat × BitVec 3 :=
  if v = 2 ^ (n - 1) then (0, 1) else if v = 2 ^ (n - 1) + 1 then (0, 4) else if v = 2 ^ (n - 1) + 2 then (0, 2)
  else (v, 0)

/-- The value of an accumulator in clear mode (R42): A × 2^−32 or A × 2^−298. -/
def accNum (wide : Bool) (v : Nat) (st : BitVec 3) : Num :=
  if bitAt st 0 ∨ (bitAt st 1 ∧ bitAt st 2) then .nan
  else if bitAt st 1 then .inf false
  else if bitAt st 2 then .inf true
  else
    let a := signed (accBits wide) v
    .fin (decide (a < 0)) a.natAbs (if wide then -298 else -32)

/-! ### Comparison of values (R45) -/

/-- A finite value scaled by 2^k, as an integer: exact where the value is a multiple of 2^−k. Every product of two decoded
elements is one in its class (R42), also where the fold of R39 leaves an exponent below −k. -/
def scaleTo (neg : Bool) (m : Nat) (e k : Int) : Int :=
  let v : Int := (if 0 ≤ e + k then m * 2 ^ (e + k).toNat else m / 2 ^ (-(e + k)).toNat : Nat)
  if neg then -v else v

/-- Order of R45: −0 below +0, infinities at the ends. NaN is not compared. -/
def numLt (a b : Num) : Bool :=
  match a, b with
  | .inf na, .inf nb => na && !nb
  | .inf na, _ => na
  | _, .inf nb => !nb
  | .fin na ma ea, .fin nb mb eb =>
    let k := -(min ea eb)
    let x := scaleTo na ma ea k
    let y := scaleTo nb mb eb k
    decide (x < y) || (decide (x = 0) && decide (y = 0) && na && !nb)
  | _, _ => false

/-- Maximum by R45. -/
def numMax (a b : Num) : Num :=
  match a, b with
  | .nan, _ => b
  | _, .nan => a
  | _, _ => if numLt a b then b else a

/-- Minimum by R45. -/
def numMin (a b : Num) : Num :=
  match a, b with
  | .nan, _ => b
  | _, .nan => a
  | _, _ => if numLt b a then b else a

/-- Exact product of two values, special values by Table 2-4. -/
def numMul (a b : Num) : Num :=
  match a, b with
  | .fin na ma ea, .fin nb mb eb => .fin (na != nb) (ma * mb) (ea + eb)
  | .nan, _ => .nan
  | _, .nan => .nan
  | .inf na, .inf nb => .inf (na != nb)
  | .inf na, .fin nb mb _ => if mb = 0 then .nan else .inf (na != nb)
  | .fin na ma _, .inf nb => if ma = 0 then .nan else .inf (na != nb)

/-- Exact sum of two values: opposite infinities give NaN, and an exact zero sum is +0 whatever the signs of its terms
(00_scope.md, on IEEE 754; Table 2-4). -/
def numAdd (a b : Num) : Num :=
  match a, b with
  | .fin na ma ea, .fin nb mb eb =>
    let k := -(min ea eb)
    let v := scaleTo na ma ea k + scaleTo nb mb eb k
    if v = 0 then .fin false 0 0 else .fin (decide (v < 0)) v.natAbs (-k)
  | .nan, _ => .nan
  | _, .nan => .nan
  | .inf na, .inf nb => if na = nb then .inf na else .nan
  | .inf na, _ => .inf na
  | _, .inf nb => .inf nb

/-- Negation. -/
def numNeg (a : Num) : Num :=
  match a with
  | .fin n m e => .fin (!n) m e
  | .inf n => .inf (!n)
  | .nan => .nan

/-! ### Residue words (R51, R56) -/

/-- Modular power by repeated squaring, over the bits of the exponent given as fuel. -/
def powMod (b e q : Nat) : Nat → Nat
  | 0 => 1 % q
  | n + 1 =>
    let h := powMod (b * b % q) (e / 2) q n
    if e % 2 = 1 then b * h % q else h

/-- The inverse modulo a prime, by its power q − 2. -/
def invMod (a q : Nat) : Nat := powMod (a % q) (q - 2) q (Nat.log2 q + 1)

/-- q′ = −q^−1 mod 2^32 of an odd q (R210): the odd residues mod 2^32 have order at most 2^30. -/
def negInv (q : Nat) : Nat := (2 ^ 32 - powMod (q % 2 ^ 32) (2 ^ 30 - 1) (2 ^ 32) 31) % 2 ^ 32

/-- REDC of R211 with a given q′. -/
def redcBy (q qneg t : Nat) : Nat :=
  let u := (t + t % 2 ^ 32 * qneg % 2 ^ 32 * q) / 2 ^ 32
  if q ≤ u then u - q else u

/-- REDC(T) = T × 2^−32 mod q, for T below q × 2^32 (R211). -/
def redc (t q : Nat) : Nat := redcBy q (negInv q) t

/-- The Montgomery product of two words. -/
def montMul (a b q : Nat) : Nat := redc (a * b) q

/-- The constants that the command processor computes for a prime at the commit (R397): q′ and the fold constants F_q[1],
F_q[3] and F_q[4]. -/
def primeConsts (q : Nat) : Nat × Nat × Nat × Nat := (negInv q, 2 ^ 32 % q, 2 ^ 96 % q, 2 ^ 128 % q)

/-- The wide reduction of R212, by the word fold over the constants of the prime table. -/
def Prime.redcWide (p : Prime) (t : Nat) : Nat :=
  let word (j : Nat) : Nat := t / 2 ^ (32 * j) % 2 ^ 32
  [(1, p.f1), (2, p.msq), (3, p.f3), (4, p.f4)].foldl
    (fun y x => (y + redcBy p.q p.qneg (word x.1 * x.2)) % p.q) (redcBy p.q p.qneg (word 0))

/-- MRED of a 128-bit two's complement sum for a prime (R56, R57, R212). -/
def Prime.mred (p : Prime) (v : Nat) : Nat :=
  redcBy p.q p.qneg (p.redcWide (signed 128 v + p.off).toNat * p.msq)

end Sys2Proof.Machine
end

