-- ==== Sys2Proof/Machine/Crypto.lean ====
section
/-! DEFINITION. The published algorithms that the manual names: CRC-32C (R321), SHA-512 and SHAKE256 (FIPS 180-4, FIPS
202), and the curve P-521 with ECDSA and ECDH (R530, R428). -/

namespace Sys2Proof.Machine

/-! ### CRC-32C (R321) -/

/-- One bit of the reflected CRC: polynomial 0x1EDC6F41, reversed 0x82F63B78. -/
def crcBit (r : BitVec 32) : BitVec 32 := if r.getLsbD 0 then (r >>> 1) ^^^ 0x82F63B78#32 else r >>> 1

/-- One byte of the CRC. -/
def crcByte (r : BitVec 32) (b : Byte) : BitVec 32 :=
  (List.range 8).foldl (fun r _ => crcBit r) (r ^^^ b.setWidth 32)

/-- CRC-32C of a message: initial value and final exclusive-or 0xFFFFFFFF. -/
def crc32c (l : List Byte) : BitVec 32 := l.foldl crcByte 0xFFFFFFFF#32 ^^^ 0xFFFFFFFF#32

/-! ### SHA-512 (FIPS 180-4) -/

/-- The integer `k`-th root of v, found bit by bit from bit n − 1. -/
def rootBits (k v : Nat) : Nat → Nat → Nat
  | 0, r => r
  | n + 1, r => let t := r + 2 ^ n; rootBits k v n (if t ^ k ≤ v then t else r)

/-- The first primes below 410: eighty of them. -/
def smallPrimes : List Nat :=
  (List.range 410).filter (fun n => decide (2 ≤ n) && (List.range n).all (fun d => decide (d < 2) || decide (n % d ≠ 0)))

/-- The round constants: the fractions of the cube roots of the primes. -/
def shaK (i : Nat) : Word := BitVec.ofNat 64 (rootBits 3 (smallPrimes.getD i 2 * 2 ^ 192) 68 0)

/-- The initial hash value: the fractions of the square roots of the first eight primes. -/
def shaInit : List Word := (List.range 8).map (fun i => BitVec.ofNat 64 (rootBits 2 (smallPrimes.getD i 2 * 2 ^ 128) 68 0))

/-- Message schedule: the list grows from 16 words to 80. -/
def shaSchedule (w : List Word) : List Word :=
  (List.range 64).foldl (fun (w : List Word) i =>
    let a := w.getD (i + 14) 0
    let b := w.getD (i + 1) 0
    let s1 := a.rotateRight 19 ^^^ a.rotateRight 61 ^^^ (a >>> 6)
    let s0 := b.rotateRight 1 ^^^ b.rotateRight 8 ^^^ (b >>> 7)
    w ++ [s1 + w.getD (i + 9) 0 + s0 + w.getD i 0]) w

/-- One round on the eight working words. -/
def shaRound (v : List Word) (kw : Word) : List Word :=
  match v with
  | [a, b, c, d, e, f, g, h] =>
    let t1 := h + (e.rotateRight 14 ^^^ e.rotateRight 18 ^^^ e.rotateRight 41) + ((e &&& f) ^^^ (~~~e &&& g)) + kw
    let t2 := (a.rotateRight 28 ^^^ a.rotateRight 34 ^^^ a.rotateRight 39) + ((a &&& b) ^^^ (a &&& c) ^^^ (b &&& c))
    [t1 + t2, a, b, c, d + t1, e, f, g]
  | _ => v

/-- Compress one block of 128 bytes. -/
def shaBlock (h : List Word) (block : List Byte) : List Word :=
  let w := shaSchedule ((List.range 16).map (fun i => BitVec.ofNat 64 (beNat (bytesAt block (8 * i) 8))))
  let v := (List.range 80).foldl (fun v i => shaRound v (shaK i + w.getD i 0)) h
  (List.range 8).map (fun i => h.getD i 0 + v.getD i 0)

/-- SHA-512 of a message: 64 bytes. -/
def sha512 (l : List Byte) : List Byte :=
  let z := (239 - l.length % 128) % 128
  let p := l ++ [0x80] ++ List.replicate z 0 ++ beBytes 16 (8 * l.length)
  let h := (List.range (p.length / 128)).foldl (fun h i => shaBlock h (bytesAt p (128 * i) 128)) shaInit
  h.flatMap (fun w => beBytes 8 w.toNat)

/-! ### SHAKE256 (FIPS 202) -/

/-- The register behind the round constants after `t` shifts: eight bits, of which the one that falls out is fed back as
0x71. -/
def keccakReg : Nat → Nat
  | 0 => 1
  | t + 1 =>
    let r := 2 * keccakReg t
    if 256 ≤ r then (r - 256) ^^^ 0x71 else r

/-- The round constants of Keccak-f[1600]: round i takes seven bits of the register, for the bits 2^j − 1 of lane 0. -/
def keccakIota : List Word := (List.range 24).map (fun i =>
  BitVec.ofNat 64 (((List.range 7).filter (fun j => decide (keccakReg (7 * i + j) % 2 = 1))).foldl (fun v j => v + 2 ^ (2 ^ j - 1)) 0))

/-- The way of the 24 lanes that move: from lane (x, y) to lane (y, 2 x + 3 y), step t rotated by (t + 1)(t + 2) / 2. -/
def keccakWay : List (Nat × Nat × Nat) :=
  ((List.range 24).foldl (fun (w : (Nat × Nat) × List (Nat × Nat × Nat)) t =>
    let next := (w.1.2, (2 * w.1.1 + 3 * w.1.2) % 5)
    (next, w.2 ++ [(w.1.1 + 5 * w.1.2, next.1 + 5 * next.2, (t + 1) * (t + 2) / 2 % 64)])) ((1, 0), [])).2

/-- The parity of each of the five columns. -/
def keccakParity (a : List Word) : List Word := (List.range 5).map (fun x =>
  ((List.range 5).map (fun y => a.getD (x + 5 * y) 0)).foldl (· ^^^ ·) 0)

/-- One round: columns are mixed, lanes move, rows are mixed, and the constant enters lane 0. -/
def keccakRound (a : List Word) (rc : Word) : List Word :=
  let p := keccakParity a
  let mixed := a.mapIdx (fun i v => v ^^^ p.getD ((i + 4) % 5) 0 ^^^ (p.getD ((i + 1) % 5) 0).rotateLeft 1)
  let moved := keccakWay.foldl (fun m w => m.set w.2.1 ((mixed.getD w.1 0).rotateLeft w.2.2)) mixed
  let row (i n : Nat) : Word := moved.getD (i / 5 * 5 + (i + n) % 5) 0
  (moved.mapIdx (fun i v => v ^^^ (row i 2 &&& ~~~row i 1))).modifyHead (· ^^^ rc)

/-- Keccak-f[1600]. -/
def keccakF (a : List Word) : List Word := keccakIota.foldl keccakRound a

/-- Absorb a block of 136 bytes. -/
def absorb (a : List Word) (block : List Byte) : List Word :=
  keccakF ((List.range 25).map (fun i =>
    a.getD i 0 ^^^ (if i < 17 then BitVec.ofNat 64 (leAt block (8 * i) 8) else 0)))

/-- Squeeze `n` blocks of 136 bytes. -/
def squeeze (a : List Word) : Nat → List Byte
  | 0 => []
  | n + 1 => (List.range 17).flatMap (fun i => leBytes 8 (a.getD i 0).toNat) ++ squeeze (keccakF a) n

/-- The first 136 n bytes of SHAKE256 of a message shorter than 135 bytes. -/
def shake256 (l : List Byte) (n : Nat) : List Byte :=
  let p := l ++ [0x1F] ++ List.replicate (134 - l.length) 0 ++ [0x80]
  squeeze (absorb (List.replicate 25 0) (bytesAt p 0 136)) n

/-! ### AES-256-GCM (NIST SP 800-38D, R430) -/

/-- Product in the field of AES: bytes as polynomials modulo x^8 + x^4 + x^3 + x + 1. -/
def aesMul (a b : Nat) : Nat :=
  ((List.range 8).foldl (fun (z : Nat × Nat) i =>
    (if b.testBit i then z.1 ^^^ z.2 else z.1, if z.2 < 128 then 2 * z.2 else (2 * z.2) ^^^ 0x11B)) (0, a)).1

/-- The power a^254, which is the inverse of a nonzero byte. -/
def aesInverse (a : Nat) : Nat := (List.range 7).foldl (fun z i => if i = 0 then aesMul z z else let y := aesMul z a; aesMul y y) a

/-- The substitution of a byte: its inverse, the sum of five of its rotations, and 0x63. -/
def aesSub (a : Nat) : Nat :=
  let v := aesInverse a
  (List.range 5).foldl (fun z i => z ^^^ ((v * 2 ^ i) % 256 + v * 2 ^ i / 256)) 0x63

/-- The substitution table. -/
def aesTable : List Nat := (List.range 256).map aesSub

/-- The substitution of each byte of a list. -/
def aesSubs (l : List Nat) : List Nat := l.map (fun v => aesTable.getD v 0)

/-- The sum of two lists of bytes. -/
def xorBytes (a b : List Nat) : List Nat := a.zipWith (· ^^^ ·) b

/-- The 60 words of the key schedule, four bytes each. -/
def aesSchedule (key : List Nat) : List (List Nat) :=
  (List.range 52).foldl (fun (w : List (List Nat)) j =>
    let i := j + 8
    let last := w.getD (i - 1) []
    let t := if i % 8 = 0 then xorBytes (aesSubs (last.drop 1 ++ last.take 1)) [2 ^ (i / 8 - 1), 0, 0, 0]
      else if i % 8 = 4 then aesSubs last else last
    w ++ [xorBytes (w.getD (i - 8) []) t]) ((List.range 8).map (fun i => (key.drop (4 * i)).take 4))

/-- The 16 bytes of round key r. -/
def aesRoundKey (w : List (List Nat)) (r : Nat) : List Nat := ((w.drop (4 * r)).take 4).flatten

/-- Row i of the state turns left by i places. -/
def aesShift (a : List Nat) : List Nat := (List.range 16).map (fun i => a.getD ((i + 4 * (i % 4)) % 16) 0)

/-- Each column times the polynomial 3 x^3 + x^2 + x + 2. -/
def aesMix (a : List Nat) : List Nat := (List.range 16).map (fun i =>
  let at' (n : Nat) : Nat := a.getD (i / 4 * 4 + (i + n) % 4) 0
  aesMul (at' 0) 2 ^^^ aesMul (at' 1) 3 ^^^ at' 2 ^^^ at' 3)

/-- AES-256 of a block of 16 bytes under a key schedule. -/
def aesBlock (w : List (List Nat)) (block : List Nat) : List Nat :=
  let a := (List.range 13).foldl (fun a r => xorBytes (aesMix (aesShift (aesSubs a))) (aesRoundKey w (r + 1)))
    (xorBytes block (aesRoundKey w 0))
  xorBytes (aesShift (aesSubs a)) (aesRoundKey w 14)

/-- Big-endian value of bytes. -/
def beVal (l : List Nat) : Nat := l.foldl (fun v b => 256 * v + b) 0

/-- Product in the field of GHASH, the first bit of a block its highest. -/
def ghashMul (x y : Nat) : Nat :=
  ((List.range 128).foldl (fun (z : Nat × Nat) i =>
    (if x.testBit (127 - i) then z.1 ^^^ z.2 else z.1, z.2 / 2 ^^^ (if z.2 % 2 = 1 then 0xE1 * 2 ^ 120 else 0))) (0, y)).1

/-- A list of bytes cut into blocks of 16, the last filled with zeros, each as a big-endian value. -/
def gcmBlocks (l : List Nat) : List Nat :=
  (List.range (ceilDiv l.length 16)).map (fun i => beVal ((List.range 16).map (fun j => l.getD (16 * i + j) 0)))

/-- Block n of the key stream of an initialisation vector of 96 bits. -/
def gcmStream (w : List (List Nat)) (iv : List Nat) (n : Nat) : List Nat :=
  aesBlock w (iv ++ (beBytes 4 (n + 1)).map (·.toNat))

/-- Encrypt or decrypt data under a key of 32 bytes. -/
def gcmCrypt (key iv data : List Byte) : List Byte :=
  let w := aesSchedule (key.map (·.toNat))
  let s := (List.range (ceilDiv data.length 16)).flatMap (fun i => gcmStream w (iv.map (·.toNat)) (i + 1))
  (xorBytes (data.map (·.toNat)) s).map (BitVec.ofNat 8)

/-- The tag of 96 bits over additional data and a ciphertext. -/
def gcmTag (key iv aad cipher : List Byte) : List Byte :=
  let w := aesSchedule (key.map (·.toNat))
  let h := beVal (aesBlock w (List.replicate 16 0))
  let blocks := gcmBlocks (aad.map (·.toNat)) ++ gcmBlocks (cipher.map (·.toNat)) ++
    [8 * aad.length * 2 ^ 64 + 8 * cipher.length]
  let g := blocks.foldl (fun y b => ghashMul (y ^^^ b) h) 0
  (xorBytes ((beBytes 16 g).map (·.toNat)) (gcmStream w (iv.map (·.toNat)) 0)).take 12 |>.map (BitVec.ofNat 8)

/-! ### P-521 -/

/-- The field prime 2^521 − 1. -/
def ecP : Nat := 2 ^ 521 - 1
/-- The coefficient b of y² = x³ − 3 x + b. -/
def ecB : Nat :=
  0x0051953EB9618E1C9A1F929A21A0B68540EEA2DA725B99B315F3B8B489918EF109E156193951EC7E937B1652C0BD3BB1BF073573DF883D2C34F1EF451FD46B503F00
/-- The order of the base point. -/
def ecN : Nat :=
  0x01FFFFFFFFFFFFFFFFFFFFFFFFFFFFFFFFFFFFFFFFFFFFFFFFFFFFFFFFFFFFFFFFFA51868783BF2F966B7FCC0148F709A5D03BB5C9B8899C47AEBB6FB71E91386409
/-- The base point. -/
def ecG : Nat × Nat :=
  (0x00C6858E06B70404E9CD9E3ECB662395B4429C648139053FB521F828AF606B4D3DBAA14B5E77EFE75928FE1DC127A2FFA8DE3348B3C1856A429BF97E7E31C2E5BD66,
   0x011839296A789A3BC0045C8A5FB42C7D1BD998F54449579B446817AFBD17273E662C97EE72995EF42640C550B9013FAD0761353C7086A272C24088BE94769FD16650)

/-- A point of the curve; none is the point at infinity. -/
abbrev Pt := Option (Nat × Nat)

/-- Both coordinates lie below the field prime and satisfy the curve equation. -/
def onCurve (x y : Nat) : Bool :=
  decide (x < ecP) && decide (y < ecP) && decide (y * y % ecP = (x * x * x + (ecP - 3) * x + ecB) % ecP)

/-- Sum of two points. -/
def ecAdd (a b : Pt) : Pt :=
  match a, b with
  | none, q => q
  | p, none => p
  | some (x1, y1), some (x2, y2) =>
    if x1 = x2 ∧ (y1 + y2) % ecP = 0 then none
    else
      let m := if x1 = x2 then (3 * x1 * x1 + (ecP - 3)) * invMod (2 * y1) ecP % ecP
        else (y2 + (ecP - y1)) * invMod (x2 + (ecP - x1)) ecP % ecP
      let x3 := (m * m + (ecP - x1) + (ecP - x2)) % ecP
      some (x3, (m * (x1 + (ecP - x3)) + (ecP - y1)) % ecP)

/-- Scalar multiple, over the `n` low bits of the scalar. -/
def ecMul (k : Nat) (p : Pt) : Nat → Pt
  | 0 => none
  | n + 1 => ecAdd (if k % 2 = 1 then p else none) (ecMul (k / 2) (ecAdd p p) n)

/-- The 521-bit multiple. -/
def ecScale (k : Nat) (p : Pt) : Pt := ecMul k p 521

/-- The public key of a private key. -/
def ecPublic (d : Nat) : Nat × Nat := (ecScale d (some ecG)).getD (0, 0)

/-- How a verification ends (R530, R531): accepted, rejected, or stopped by a failed check of the engine. -/
inductive Verdict
  | accept | reject | broken
deriving DecidableEq, Repr

/-- ECDSA verification of a digest by key (x, y) (R530, Table 17-4). -/
def ecdsaVerify (x y r v digest : Nat) : Verdict :=
  if r = 0 ∨ ecN ≤ r ∨ v = 0 ∨ ecN ≤ v then .reject
  else if ecP ≤ x ∨ ecP ≤ y ∨ (x = 0 ∧ y = 0) then .reject
  else if !onCurve x y then .reject
  else
    let w := invMod v ecN
    match ecAdd (ecScale (digest * w % ecN) (some ecG)) (ecScale (r * w % ecN) (some (x, y))) with
    | none => .broken
    | some (x1, y1) => if !onCurve x1 y1 then .broken else if x1 % ecN = r then .accept else .reject

/-- ECDSA signature of a digest by private key d with signing nonce k: r and s. -/
def ecdsaSign (d k digest : Nat) : Nat × Nat :=
  let r := ((ecScale k (some ecG)).getD (0, 0)).1 % ecN
  (r, invMod k ecN * ((digest + r * d) % ecN) % ecN)

/-- The x-coordinate of the ECDH primitive (R428). -/
def ecdh (d : Nat) (q : Nat × Nat) : Nat := ((ecScale d (some q)).getD (0, 0)).1

end Sys2Proof.Machine
end

