-- ==== Sys2Proof/Machine/Issue.lean ====
section
/-! DEFINITION. The issue of instructions: fetch, guard, the checks at issue, interlocks, stalls, queues and tokens. -/

namespace Sys2Proof.Machine

/-! ### Fields of an instruction word (Tables 10-1, 10-2, 10-7) -/

/-- Field [lo + len − 1 : lo] of the base word. -/
def Op.f (o : Op) (lo len : Nat) : Nat := fld o.ins.bits lo len

/-- Field [lo + len − 1 : lo] of the extension word; an absent word reads as zeros (R287). -/
def Op.x (o : Op) (lo len : Nat) : Nat := if bitAt o.ins.bits 51 then fld o.ins.ext lo len else 0

/-- XT. -/
def Op.xt (o : Op) : Bool := bitAt o.ins.bits 51
/-- The base word (R284). -/
def Op.word (o : Op) : Word := o.opc ++ o.ins.bits
/-- The bytes an instruction occupies (R285). -/
def Op.size (o : Op) : Nat := if o.xt then 16 else 8
/-- The issuing core. -/
def Op.core (o : Op) : Nat := o.ins.core.val
/-- The issuing thread. -/
def Op.thread (o : Op) : Nat := o.ins.thread.val
/-- The opcode. -/
def Op.code (o : Op) : Nat := o.opc.toNat
/-- WEN. -/
def Op.wen (o : Op) : Bool := bitAt o.ins.bits 50
/-- WQ. -/
def Op.wq (o : Op) : Nat := o.f 44 6
/-- SEN. -/
def Op.sen (o : Op) : Bool := bitAt o.ins.bits 43
/-- SQ. -/
def Op.sq (o : Op) : Nat := o.f 37 6
/-- DELAY. -/
def Op.delay (o : Op) : Nat := o.f 29 8

/-- The unit that executes an opcode (Tables 9-3, 10-4): 0 sequencer, 1 LME, 2 TE, 3 VE, 4 stream engine. -/
def unitOf (opc : Nat) : Nat :=
  if 0x70 ≤ opc ∧ opc ≤ 0x7F then 4 else if 0x60 ≤ opc ∧ opc ≤ 0x64 then 3 else if 0x50 ≤ opc ∧ opc ≤ 0x52 then 2
  else if 0x40 ≤ opc ∧ opc ≤ 0x4A then 1 else 0

/-- The opcode is in Table 10-4 (R292). -/
def opcodeListed (opc : Nat) : Bool :=
  (decide (0x01 ≤ opc) && decide (opc ≤ 0x0D)) || (decide (0x10 ≤ opc) && decide (opc ≤ 0x1A)) ||
  (decide (0x20 ≤ opc) && decide (opc ≤ 0x2C)) || opc == 0x30 || opc == 0x31 ||
  (decide (0x34 ≤ opc) && decide (opc ≤ 0x37)) || (decide (0x40 ≤ opc) && decide (opc ≤ 0x44)) ||
  (decide (0x48 ≤ opc) && decide (opc ≤ 0x4A)) || (decide (0x50 ≤ opc) && decide (opc ≤ 0x52)) ||
  (decide (0x60 ≤ opc) && decide (opc ≤ 0x64)) || (decide (0x70 ≤ opc) && decide (opc ≤ 0x7F))

/-- The extension word rule of Table 10-4. -/
inductive ExtRule
  | forbidden | required | optional
deriving DecidableEq, Repr

/-- The extension word rule of an instruction, in a flask of declared-shape mode or not. -/
def extRule (o : Op) (declared : Bool) : ExtRule :=
  let c := o.code
  if 0x40 ≤ c ∧ c ≤ 0x44 then (if declared then .forbidden else .required)
  else if c = 0x48 ∨ c = 0x4A ∨ c = 0x52 ∨ c = 0x63 ∨ c = 0x64 ∨ c = 0x7F then .required
  else if c = 0x50 ∨ c = 0x51 then (if o.f 1 1 = 1 then .required else .optional)
  else if c = 0x60 ∨ c = 0x61 ∨ (0x70 ≤ c ∧ c ≤ 0x7E) then .optional
  else .forbidden

/-- The RSV fields of the base word, (low bit, length), that the layouts of chapter 10 give an instruction. -/
def rsvBase (o : Op) (declared : Bool) : List (Nat × Nat) :=
  let c := o.code
  let q := (if o.wen then [] else [(44, 6)]) ++ (if o.sen then [] else [(37, 6)])
  if c = 0x01 then [(0, 51)]
  else if c = 0x02 then [(0, 50)]
  else if c = 0x03 then [(0, 47)]
  else if c = 0x04 then [(0, 42)]
  else if c = 0x05 then [(0, 34)]
  else if c = 0x06 ∨ c = 0x07 then [(0, 39)]
  else if c = 0x08 then [(32, 19)]
  else if c = 0x09 then [(0, 46)]
  else if c = 0x0A then [(32, 14)]
  else if c = 0x0B then [(32, 10)]
  else if c = 0x0C ∨ c = 0x0D then [(0, 32)]
  else if 0x10 ≤ c ∧ c ≤ 0x1A then [(0, 36)]
  else if 0x20 ≤ c ∧ c ≤ 0x2A then [(32, 9)]
  else if c = 0x2B ∨ c = 0x2C then [(32, 14)]
  else if c = 0x30 then [(0, 35)]
  else if c = 0x31 then [(32, 8)]
  else if 0x34 ≤ c ∧ c ≤ 0x36 then [(0, 42)]
  else if c = 0x37 then [(0, 45)]
  else if 0x40 ≤ c ∧ c ≤ 0x44 then
    q ++ [(0, 4)] ++ (if o.f 21 1 = 0 then [(11, 10)] else []) ++ (if declared then [] else [(4, 7)])
  else if c = 0x48 then q ++ [(0, 17)]
  else if c = 0x49 then q ++ [(0, 23)] ++ (let t := o.f 25 4; if isA t ∨ isPair t ∨ isB t then [(23, 2)] else [])
  else if c = 0x4A then q ++ [(0, 21)]
  else if c = 0x50 ∨ c = 0x51 then q ++ [(18, 5), (0, 1)]
  else if c = 0x52 then q
  else if c = 0x60 then q ++ [(0, 4)]
  else if c = 0x61 then q
  else if c = 0x62 then q ++ [(0, 9)] ++ (if o.f 27 2 = 1 ∨ o.f 27 2 = 2 then [(9, 13)] else [])
  else if c = 0x63 then q ++ [(0, 3)]
  else if c = 0x64 then q ++ [(0, 4)]
  else if c = 0x70 ∨ c = 0x7A ∨ c = 0x7B then q ++ [(0, 17)]
  else if c = 0x71 ∨ c = 0x74 then q ++ [(0, 25)]
  else if c = 0x72 ∨ c = 0x75 then q ++ [(0, 22)]
  else if c = 0x73 then q ++ [(0, 27)]
  else if c = 0x76 ∨ c = 0x77 then
    q ++ (let t := o.f 33 4; if isV t ∨ isTb t then [(18, 3)] else [(20, 1)])
  else if c = 0x78 ∨ c = 0x79 ∨ c = 0x7C then q ++ [(0, 7)]
  else if c = 0x7D ∨ c = 0x7E then q ++ [(0, 22)]
  else if c = 0x7F then q ++ [(0, 14)]
  else []

/-- The RSV fields of the extension word. -/
def rsvExt (o : Op) : List (Nat × Nat) :=
  let c := o.code
  if 0x40 ≤ c ∧ c ≤ 0x44 then [(58, 6), (0, 1)] ++ (if o.f 21 1 = 1 then [(48, 10)] else [])
  else if c = 0x48 then [(21, 43)]
  else if c = 0x4A then [(34, 30)]
  else if c = 0x50 ∨ c = 0x51 then [(0, 44)] ++ (if o.f 1 1 = 0 then [(44, 20)] else [])
  else if c = 0x52 then [(18, 26)] ++ (if o.f 1 1 = 0 then [(44, 20)] else [])
  else if c = 0x60 then [(32, 2)]
  else if c = 0x61 then [(24, 40)]
  else if c = 0x63 then
    (if o.f 27 1 = 1 then [(36, 7), (10, 6)] else []) ++ (if o.f 26 1 = 0 then [(16, 20)] else [])
  else if c = 0x64 then [(0, 34)] ++ (if o.f 28 1 = 1 then [(34, 10)] else [])
  else if 0x70 ≤ c ∧ c ≤ 0x7E then [(0, 3), (24, 40)]
  else if c = 0x7F then [(0, 3)]
  else []

/-- The checks of R286. -/
def decodeOk (o : Op) (declared : Bool) : Bool :=
  opcodeListed o.code &&
  (match extRule o declared with
    | .forbidden => !o.xt
    | .required => o.xt
    | .optional => true) &&
  (rsvBase o declared).all (fun r => o.f r.1 r.2 == 0) && (rsvExt o).all (fun r => o.x r.1 r.2 == 0)

/-- The field values that give F_DESC_FORMAT at issue (R295, R305, R332). -/
def formatAtIssue (o : Op) : Bool :=
  ((o.code == 0x30 || o.code == 0x31) && decide (6 ≤ o.f 45 3)) ||
  (decide (0x70 ≤ o.code) && decide (o.code ≤ 0x7F) && o.code != 0x7A && o.code != 0x7C && o.x 7 1 == 1) ||
  (o.code == 0x62 && o.f 27 2 == 3)

/-- The field values that give F_HANDLE at issue (R246, R288, R300, R330, R335). -/
def handleAtIssue (o : Op) : Bool :=
  (o.code == 0x0B && o.f 47 4 == o.thread) ||
  (o.code == 0x05 && o.f 34 8 == 0) ||
  ((o.code == 0x06 || o.code == 0x07) && (o.f 39 6 == 0 || decide (32 < o.f 39 6))) ||
  (o.code == 0x60 && decide (28 < o.f 14 5)) ||
  (o.code == 0x64 && decide (30 < o.f 23 5))

/-- The fault that an instruction raises at issue (R605). -/
def issueFault (o : Op) (declared : Bool) : Option (BitVec 8) :=
  if !decodeOk o declared then some fDescFormat
  else if formatAtIssue o then some fDescFormat
  else if handleAtIssue o then some fHandle
  else none

/-! ### Operands that an instruction names -/

/-- The scalar registers an instruction reads, in the order in which their values travel (R252, R289). -/
def readRegs (o : Op) : List Nat :=
  let c := o.code
  if 0x10 ≤ c ∧ c ≤ 0x1A then [o.f 41 5, o.f 36 5]
  else if 0x20 ≤ c ∧ c ≤ 0x2A then [o.f 41 5]
  else if c = 0x2C then [o.f 46 5]
  else if c = 0x30 then [o.f 40 5, o.f 35 5]
  else if c = 0x31 then [o.f 40 5]
  else if c = 0x09 then [o.f 46 5]
  else if c = 0x0B then [o.f 42 5]
  else if c = 0x0C then [o.f 32 5]
  else if c = 0x60 then [o.f 19 5, o.f 14 5, o.f 14 5 + 1, o.f 14 5 + 2, o.f 14 5 + 3]
  else if c = 0x61 then [o.f 21 5, o.f 16 5]
  else if c = 0x62 then (if o.f 27 2 = 0 then [o.f 17 5, o.f 22 5] else if o.f 27 2 = 2 then [o.f 22 5] else [])
  else if c = 0x63 then [o.f 18 5]
  else if c = 0x64 then [o.f 18 5, o.f 23 5, o.f 23 5 + 1]
  else if c = 0x71 then [o.f 27 5]
  else if c = 0x74 then [o.f 32 5, o.f 27 5]
  else if c = 0x72 ∨ c = 0x75 then [o.f 22 5]
  else if c = 0x73 then [o.f 27 5]
  else if c = 0x7D then [o.f 22 5]
  else []

/-- The scalar registers an instruction writes. -/
def writeRegs (o : Op) : List Nat :=
  let c := o.code
  if (0x10 ≤ c ∧ c ≤ 0x1A) ∨ (0x20 ≤ c ∧ c ≤ 0x2C) ∨ c = 0x0A ∨ c = 0x0D then [o.f 46 5]
  else if c = 0x71 then [o.f 32 5]
  else if c = 0x7E then [o.f 22 5]
  else []

/-- The slots an instruction names as destinations (R66, R310, R311, R330). -/
def dstSlots (o : Op) : List Nat :=
  let c := o.code
  if 0x50 ≤ c ∧ c ≤ 0x52 then (if o.f 1 1 = 1 then [o.x 44 10] else [])
  else if c = 0x60 then (if o.xt then [o.x 34 10] else [])
  else if c = 0x63 then (if o.f 26 1 = 1 then [o.x 16 10] else [])
  else if c = 0x64 then [o.x 44 10]
  else if c = 0x70 ∨ c = 0x72 ∨ c = 0x78 ∨ c = 0x79 ∨ c = 0x7A ∨ c = 0x7B ∨ c = 0x7C ∨ c = 0x7D then [o.f 27 10]
  else if c = 0x77 then [o.f 23 10]
  else if c = 0x7F then (if o.f 35 1 = 1 then [o.x 34 10] else []) ++ (if o.f 36 1 = 1 then [o.x 24 10] else [])
  else []

/-- Every slot an instruction names (R311). -/
def namedSlots (o : Op) : List Nat :=
  let c := o.code
  if c = 0x0C then [o.f 41 10]
  else if c = 0x0D then [o.f 36 10]
  else if 0x40 ≤ c ∧ c ≤ 0x44 then (if o.f 21 1 = 1 then [o.f 11 10] else [])
  else if 0x50 ≤ c ∧ c ≤ 0x52 then (if o.f 1 1 = 1 then [o.x 54 10, o.x 44 10] else [])
  else if c = 0x60 then (if o.xt then [o.x 54 10, o.x 44 10, o.x 34 10] else [])
  else if c = 0x63 then (if o.f 26 1 = 1 then [o.x 26 10, o.x 16 10] else []) ++ (if o.f 27 1 = 1 then [o.x 0 10] else [])
  else if c = 0x64 then [o.x 54 10, o.x 44 10] ++ (if o.f 28 1 = 0 then [o.x 34 10] else [])
  else if c = 0x70 ∨ c = 0x7A ∨ c = 0x7B ∨ c = 0x7C then [o.f 27 10, o.f 17 10]
  else if c = 0x72 ∨ c = 0x75 then [o.f 27 10]
  else if c = 0x76 ∨ c = 0x77 then [o.f 23 10]
  else if c = 0x78 ∨ c = 0x79 then [o.f 27 10, o.f 17 10, o.f 7 10]
  else if c = 0x7D then [o.f 27 10]
  else if c = 0x7E then [o.f 27 10]
  else if c = 0x7F then [o.x 54 10, o.x 44 10] ++ dstSlots o
  else []

/-- The instruction is a thread's own access to a slot (R66, R310): HSET, HGET, LD.H or ST.H. -/
def slotAccess (o : Op) : Bool := o.code == 0x0C || o.code == 0x0D || o.code == 0x72 || o.code == 0x75

/-! ### Outstanding instructions -/

/-- The engines of a core by unit. -/
def Core.engine (k : Core) (u : Nat) : Engine := if u = 1 then k.lme else if u = 2 then k.te else k.ve

/-- Replace an engine of a core. -/
def Core.setEngine (k : Core) (u : Nat) (e : Engine) : Core :=
  if u = 1 then { k with lme := e } else if u = 2 then { k with te := e } else { k with ve := e }

/-- The issued, incomplete instructions of a unit. -/
def Core.outstandingIn (k : Core) (u : Nat) : List QEnt :=
  if u = 4 then k.se.queue ++ k.se.active.map (·.ent)
  else (k.engine u).queue ++ (k.engine u).flights.map (·.ent)

/-- The issued, incomplete instructions of a core. -/
def Core.outstanding (k : Core) : List QEnt :=
  k.outstandingIn 1 ++ k.outstandingIn 2 ++ k.outstandingIn 3 ++ k.outstandingIn 4

/-- An issued, incomplete instruction of the core blocks the issue of `o` at a slot (R66, R310, R311). -/
def Core.slotBlocked (k : Core) (o : Op) : Bool :=
  k.outstanding.any (fun e =>
    (slotAccess o && (namedSlots o).any (fun h => (dstSlots e.op).contains h)) ||
    (e.op.code == 0x72 && (namedSlots o).any (fun h => (dstSlots e.op).contains h)))

/-- The interlock of R250: the thread has a write outstanding to a register that `o` reads or writes. -/
def Thread.interlocked (x : Thread) (o : Op) : Bool :=
  (readRegs o ++ writeRegs o).any (fun r => x.busy.contains r)

/-! ### Token queues (R257 to R263) -/

/-- Token queue `q` of a core. -/
def Core.tokq (k : Core) (q : Nat) : TokQ := Sparse.get ⟨0, 0⟩ k.arch.rcd.tokq q

/-- Change token queue `q`. -/
def Core.modTokq (k : Core) (q : Nat) (f : TokQ → TokQ) : Core :=
  k.modRec (fun r => { r with tokq := Sparse.modify ⟨0, 0⟩ r.tokq q f })

/-- Semaphore pair `p`. -/
def Core.sem (k : Core) (p : Nat) : Sem := Sparse.get ⟨0, 0⟩ k.arch.rcd.sems p

/-- Change semaphore pair `p`. -/
def Core.modSem (k : Core) (p : Nat) (f : Sem → Sem) : Core :=
  k.modRec (fun r => { r with sems := Sparse.modify ⟨0, 0⟩ r.sems p f })

/-- Add to one half of a semaphore pair, saturating (R266). -/
def Core.post (k : Core) (p : Nat) (empty : Bool) (n : Nat) : Core :=
  k.modSem p (fun x => if empty then { x with empty := satAdd 0xFFFF x.empty n } else { x with full := satAdd 0xFFFF x.full n })

/-- The head of an engine queue waits on token queue `q`. -/
def headWaits (l : List QEnt) (q : Nat) : Bool :=
  match l with
  | e :: _ => e.op.wen && e.op.wq == q
  | [] => false

/-- The consumers that wait on token queue `q`: when each began, and its rank in a cycle (R263). -/
def Core.waiters (k : Core) (q : Nat) : List (Nat × Nat) :=
  (if headWaits k.se.queue q then [(k.se.ticket, 0)] else []) ++
  (if headWaits k.lme.queue q then [(k.lme.ticket, 1)] else []) ++
  (if headWaits k.te.queue q then [(k.te.ticket, 2)] else []) ++
  (if headWaits k.ve.queue q then [(k.ve.ticket, 3)] else []) ++
  (List.range 16).filterMap (fun t =>
    match (k.thread t).held with
    | some h => (match h.why with
      | .tokenWait p _ => if p = q then some (h.ticket, 4 + t) else none
      | _ => none)
    | none => none)

/-- Consumer (ticket, rank) is the first that queue `q` serves (R263). -/
def Core.servedFirst (k : Core) (q ticket rank : Nat) : Bool :=
  (k.waiters q).all (fun w => decide (ticket < w.1) || (decide (ticket = w.1) && decide (rank ≤ w.2)))

/-- Take `n` tokens of queue `q`. -/
def Core.takeTokens (k : Core) (q n : Nat) : Core := k.modTokq q (fun x => { x with count := x.count - n })

/-- The head of unit `u` may take the token it waits for, or waits for none (R256, R261, R263). -/
def Core.tokenReady (k : Core) (u : Nat) (e : QEnt) : Bool :=
  !e.op.wen ||
    (decide (1 ≤ (k.tokq e.op.wq).count) &&
      k.servedFirst e.op.wq (if u = 4 then k.se.ticket else (k.engine u).ticket) (if u = 4 then 0 else u))

/-- Produce an instruction's token: its reserved place becomes a token (R259). -/
def Core.produce (k : Core) (o : Op) : Core :=
  if o.sen then k.modTokq o.sq (fun x => { count := x.count + 1, reserved := x.reserved - 1 }) else k

/-- Release an aborted instruction's place (R259). -/
def Core.release (k : Core) (o : Op) : Core :=
  if o.sen then k.modTokq o.sq (fun x => { x with reserved := x.reserved - 1 }) else k

/-! ### Fetch (R244, R248, R284, R297) -/

/-- Bytes of the code partition of the flask that core `c` serves. -/
def State.codeBytes (s : State) (c : Nat) : Nat := ((s.flaskOf c).map (·.codeg)).getD 0 * 2 ^ 21

/-- The PC names an instruction word of the code partition (R248, R297). -/
def State.pcOk (s : State) (c : Nat) (pc : BitVec 32) : Bool :=
  decide (pc.toNat % 8 = 0) && decide (pc.toNat + 8 ≤ s.codeBytes c)

/-- The 64-bit word at an offset of the code partition. -/
def State.codeWord (s : State) (c pc : Nat) : Nat :=
  leNat ((List.range 8).map (fun i => s.readByte .other (memKey 3 (c * 2 ^ 25 + pc + i))))

/-- The word at the thread's PC is the instruction's base word, and its extension word follows. -/
def State.fetched (s : State) (o : Op) : Bool :=
  let pc := (s.thread o.core o.thread).pc.toNat
  decide (s.codeWord o.core pc = o.word.toNat) &&
  (!o.xt || !s.pcOk o.core (BitVec.ofNat 32 (pc + 8)) || decide (s.codeWord o.core (pc + 8) = o.ins.ext.toNat))

/-- The fetch of an instruction through the check bits of the CODE partition (R366 to R368); the flag is false at a block
that is lost or uncorrectable. -/
def State.fetchThrough (s : State) (o : Op) : State × Bool :=
  let pc := (s.thread o.core o.thread).pc.toNat
  let len := if o.xt ∧ s.pcOk o.core (BitVec.ofNat 32 (pc + 8)) then 16 else 8
  s.readThrough .other o.ins.found 0 o.core [(memKey 3 (o.core * 2 ^ 25 + pc), len)]

/-- The sequencer of core `c` may issue (R270, R495, R502, R541). -/
def State.coreIssues (s : State) (c : Nat) : Bool :=
  match s.serving c with
  | some (f, _) =>
    decide ((s.flask f).stage = .running) && !(s.core c).gated && !s.fenced c && !(s.core c).haltreq &&
    !(s.flask f).shares.any (fun x => x.host == c && x.swapping)
  | none => false

/-- The guard of R285. -/
def State.guardOn (s : State) (o : Op) : Bool :=
  (s.thread o.core o.thread).pred (o.f 53 3) != bitAt o.ins.bits 52

/-- The flask of core `c` runs in declared-shape mode (R110). -/
def State.declared (s : State) (c : Nat) : Bool := ((s.flaskOf c).map (·.declared)).getD false

/-- The instruction at the PC of thread `t` of core `c`. -/
def State.opAt (s : State) (c t : Nat) : Op :=
  let pc := (s.thread c t).pc.toNat
  let w := BitVec.ofNat 64 (s.codeWord c pc)
  ⟨w.extractLsb' 56 8, ⟨Fin.ofNat 64 c, Fin.ofNat 16 t, w.setWidth 56, BitVec.ofNat 64 (s.codeWord c (pc + 8)), []⟩⟩

/-- Thread `t` of core `c` runs, and no interlock holds the instruction at its PC (R249 to R251). -/
def State.canIssue (s : State) (c t : Nat) : Bool :=
  let x := s.thread c t
  decide (x.run = .run) && s.pcOk c x.pc &&
  (!s.guardOn (s.opAt c t) || (issueFault (s.opAt c t) (s.declared c)).isSome || !x.interlocked (s.opAt c t))

/-- Thread `t` is the first, from the one after the thread that issued last, that can issue (R249). -/
def State.roundRobin (s : State) (c t : Nat) : Bool :=
  let last := (s.core c).lastIssued
  (List.range ((t + 31 - last) % 16)).all (fun i => !s.canIssue c ((last + 1 + i) % 16))

/-- The thread can issue, the round-robin selects it (R249), and `o` is the instruction at its PC. -/
def State.mayIssue (s : State) (o : Op) : Bool :=
  s.coreIssues o.core && decide ((s.thread o.core o.thread).run = .run) &&
  s.pcOk o.core (s.thread o.core o.thread).pc && s.fetched o && s.roundRobin o.core o.thread

/-- The cycle in which the next instruction of core `c` issues: one instruction in each cycle (R249). -/
def State.issueCycle (s : State) (c : Nat) : Nat := max s.cycle (s.core c).issueAt

/-- The cycle in which the last instruction of core `c` issued, or the present one. -/
def State.slotCycle (s : State) (c : Nat) : Nat := max s.cycle ((s.core c).issueAt - 1)

/-- Note that a thread of core `c` issued or an instruction completed (R272). -/
def State.progress (s : State) (c : Nat) : State :=
  match s.serving c with
  | some (f, _) => s.modFlask f (fun x => { x with lastProgress := s.now })
  | none => s

/-- Set a thread's PC; the fetch there faults when the PC lies outside the code partition (R248, R297). -/
def State.goto (s : State) (c t : Nat) (pc : BitVec 32) : State :=
  let s1 := s.modThread c t (fun x => { x with pc := pc })
  if s.pcOk c pc then s1 else s1.pourFault c 0 t pc 0 fWindow

/-- Continue after an instruction: the thread runs, at the next instruction (R285). -/
def State.advance (s : State) (o : Op) : State :=
  (s.modThread o.core o.thread (fun x => { x with run := .run, held := none })).goto o.core o.thread
    ((s.thread o.core o.thread).pc + BitVec.ofNat 32 o.size)

/-- Hold an instruction: the thread enters STALL (R252, R258, R301). -/
def State.hold (s : State) (o : Op) (why : Hold) (ev : Nat) : State :=
  (s.modThread o.core o.thread (fun x => { x with run := .stall, held := some ⟨why, s.slotCycle o.core, o⟩ })).coreEvent o.core ev

/-- The sequencer of a core spends an issue cycle on a thread (R249, R251). -/
def State.useCycle (s : State) (o : Op) : State :=
  s.modCore o.core (fun k => { k with lastIssued := o.thread, issueAt := s.issueCycle o.core + 1 })

/-- Count an issued instruction (Table 19-1), spend the issue cycle (R249), and note the progress (R272). -/
def State.issued (s : State) (o : Op) : State := ((s.useCycle o).coreEvent o.core 0x01).progress o.core

/-- Why the issue of `o` stalls: a slot, a place in its signal queue, a full engine queue; with the counter event. -/
def State.stallOf (s : State) (o : Op) : Option (Hold × Nat) :=
  let k := s.core o.core
  let u := unitOf o.code
  if k.slotBlocked o then some (.slot, 0xFF)
  else if u = 0 then none
  else if o.sen ∧ 32 < (k.tokq o.sq).count + (k.tokq o.sq).reserved + 1 then some (.tokenPlace, 0x04)
  else if 32 ≤ (if u = 4 then k.se.queue else (k.engine u).queue).length then some (.queueFull, 0x03)
  else none

/-- The issue of a fetched instruction: guard, the checks of R605, the interlock and the stalls, then its act. -/
def State.issueFetched (s : State) (o : Op) (act : State → State) : State :=
  let x := s.thread o.core o.thread
  if !s.guardOn o then ((s.useCycle o).coreEvent o.core 0x02).advance o
  else if o.xt ∧ !s.pcOk o.core (x.pc + 8) then s.pourFault o.core 0 o.thread x.pc o.word fWindow
  else match issueFault o (s.declared o.core) with
    | some code => s.pourFault o.core 0 o.thread x.pc o.word code
    | none =>
      if x.interlocked o then s
      else match s.stallOf o with
        | some (w, ev) => s.hold o w ev
        | none => act (s.issued o)

/-- The issue of an instruction. A fetch that meets a lost or uncorrectable block faults (R367, R368). -/
def State.issue (s : State) (o : Op) (act : State → State) : State :=
  if !s.mayIssue o then s
  else match s.fetchThrough o with
    | (s1, true) => s1.issueFetched o act
    | (s1, false) => s1.pourFault o.core 0 o.thread (s.thread o.core o.thread).pc o.word fEcc

/-- Put an engine instruction into its queue (R252, R258, R289). -/
def State.enqueue (s : State) (o : Op) : State :=
  let x := s.thread o.core o.thread
  let e : QEnt := ⟨o, x.pc, (readRegs o).map x.reg, s.slotCycle o.core⟩
  let u := unitOf o.code
  let s1 := s.modThread o.core o.thread (fun x => { x with busy := x.busy ++ writeRegs o })
  let s2 := s1.modCore o.core (fun k =>
    let k1 := if o.sen then k.modTokq o.sq (fun q => { q with reserved := q.reserved + 1 }) else k
    if u = 4 then
      { k1 with se := { k1.se with queue := k1.se.queue ++ [e], ticket := if k1.se.queue = [] then s.slotCycle o.core else k1.se.ticket } }
    else
      let g := k1.engine u
      k1.setEngine u { g with queue := g.queue ++ [e], ticket := if g.queue = [] then s.slotCycle o.core else g.ticket })
  s2.advance o

/-- The head of unit `u` leaves its queue, with the token it waited for; the next becomes the head now (R261). -/
def State.popHead (s : State) (c u : Nat) (e : QEnt) : State :=
  s.modCore c (fun k =>
    let k1 := if e.op.wen then k.takeTokens e.op.wq 1 else k
    if u = 4 then { k1 with se := { k1.se with queue := k1.se.queue.tail, ticket := s.cycle } }
    else
      let g := k1.engine u
      k1.setEngine u { g with queue := g.queue.tail, ticket := s.cycle })

/-- The LD.S or CKSUM of an entry no longer holds its register (R250). -/
def State.unbusy (s : State) (e : QEnt) : State :=
  s.modThread e.op.core e.op.thread (fun x => { x with busy := (writeRegs e.op).foldl (fun b r => b.erase r) x.busy })

/-- The issued, incomplete instructions of thread `t` in unit `u`. -/
def Core.threadOut (k : Core) (t u : Nat) : Bool := (k.outstandingIn u).any (fun e => e.op.thread == t)

end Sys2Proof.Machine
end

