-- ==== Sys2Proof/Machine/Router.lean ====
section
/-! DEFINITION. The sending side of the fabric router: ports, channels, credits, replay buffers, next hops and the
loopback (chapter 14). -/

namespace Sys2Proof.Machine

/-- Fabric port `p`. -/
def State.port (s : State) (p : Nat) : Port := Sparse.get Port.init s.fab.ports p

/-- Change fabric port `p`. -/
def State.modPort (s : State) (p : Nat) (f : Port → Port) : State :=
  { s with fab := { s.fab with ports := Sparse.set Port.init s.fab.ports p (f (s.port p)) } }

/-- Ports that are UP. -/
def State.upPorts (s : State) : List Nat := (List.range 32).filter (fun p => (s.port p).st == 4)

/-- The module's address as frames carry it; 0xFFF without one. -/
def State.ownAddr (s : State) : BitVec 12 := if s.fab.addrv then s.fab.addr else 0xFFF

/-- A header with nothing set. -/
def FabHdr.zero : FabHdr :=
  { response := false, hop := 0, enc := false, dst := 0, src := 0, hseq := 0, hack := 0, orig := 0, tag := 0, status := 0,
    spen := false, shalf := false, rten := false, rtq := 0, spair := 0, pcore := 0, step := false, chain := 0, sel := 0,
    addr := 0 }

/-- The receive channel of a frame (R423): 16 for management. -/
def FabFrame.chan (f : FabFrame) : Nat :=
  if f.type.toNat < 0x10 then 16 else (if f.hdr.response then 8 else 0) + f.hdr.hop.toNat

/-- Bytes of a frame on a link: delimiter, header, payload and CRC (R419). -/
def FabFrame.size (f : FabFrame) : Nat := 50 + f.payload.length

/-- The sender has a buffer left in a channel at the far end (R424): 8 less those used and not yet freed. -/
def Port.hasCredit (p : Port) (ch : Nat) : Bool :=
  decide ((p.creditUsed.getD ch 0 + 256 - p.creditGot.getD ch 0) % 256 < 8)

/-- Add one to entry `ch` of seventeen counts, mod 256. -/
def bumpCount (l : List Nat) (ch : Nat) : List Nat :=
  (List.range 17).map (fun i => if i = ch then (l.getD i 0 + 1) % 256 else l.getD i 0)

/-- The header of a frame as it travels (Table 14-2). -/
def FabFrame.header (f : FabFrame) : List Byte :=
  let h := f.hdr
  leBytes 1 f.type.toNat ++ leBytes 1 (bitNat h.response 7 + h.hop.toNat * 16 + bitNat h.enc 3) ++ leBytes 2 f.payload.length ++
  leBytes 2 h.dst.toNat ++ leBytes 2 h.src.toNat ++ leBytes 4 h.hseq.toNat ++ leBytes 4 h.hack.toNat ++
  leBytes 2 (h.orig.toNat * 2 ^ 10 + h.tag.toNat * 4) ++ leBytes 1 h.status.toNat ++
  leBytes 1 (bitNat h.spen 7 + bitNat h.shalf 6 + bitNat h.rten 5 + h.rtq.toNat) ++ leBytes 1 h.spair.toNat ++
  leBytes 1 h.pcore.toNat ++ leBytes 1 (bitNat h.step 3 + h.chain.toNat) ++ leBytes 1 h.sel.toNat ++ leBytes 8 h.addr.toNat ++
  leBytes 12 h.gtag.toNat

/-- The additional authenticated data of a frame: header bytes 0 to 11 and 16 to 31 (R430). -/
def FabFrame.aad (f : FabFrame) : List Byte := bytesAt f.header 0 12 ++ bytesAt f.header 16 16

/-- The initialisation vector of the n-th sequenced frame since UP (R430). -/
def fabIv (n : Nat) : List Byte := [0, 0, 0, 0] ++ leBytes 8 n

/-- A frame as an encrypting port transmits it: payload encrypted, GTAG computed (R422, R430). -/
def FabFrame.seal (f : FabFrame) (key : List Byte) (n : Nat) : FabFrame :=
  let c := gcmCrypt key (fabIv n) f.payload
  { f with payload := c, hdr := { f.hdr with gtag := BitVec.ofNat 96 (leNat (gcmTag key (fabIv n) f.aad c)) } }

/-- A frame as port `p` transmits it, the n-th since UP. -/
def State.wireForm (s : State) (p : Nat) (f : FabFrame) (n : Nat) : FabFrame :=
  if f.hdr.enc then f.seal (s.port p).keyTx n else f

/-- The receive buffer that a frame held is free (R424). -/
def State.freeBuffer (s : State) (b : Option (Nat × Nat)) : State :=
  match b with
  | some (p, ch) => s.modPort p (fun k => { k with freedHere := bumpCount k.freedHere ch })
  | none => s

/-- Put a frame on port `p`'s link. -/
def State.onWire (s : State) (p : Nat) (f : FabFrame) : State :=
  ({ s with fab := { s.fab with sent := s.fab.sent ++ [(p, f)] } }.crossed (96 + p) f.size).hubEvent 0x01 p

/-- Transmit a sequenced frame on port `p` (R421, R422, R430): it takes the next HSEQ, and the replay buffer keeps it. -/
def State.transmit (s : State) (p : Nat) (f : FabFrame) : State :=
  let k := s.port p
  let g : FabFrame := { f with hdr := { f.hdr with
    hseq := BitVec.ofNat 32 (k.txCount + 1), hack := k.rxSeq, enc := k.enc }, inBuf := none }
  ((s.modPort p (fun k => { k with
    txCount := k.txCount + 1, replay := k.replay ++ [g], creditUsed := bumpCount k.creditUsed f.chan })).onWire p
      (s.wireForm p g (k.txCount + 1))).freeBuffer f.inBuf

/-- A sequenced frame may leave port `p` now (R422, R424). -/
def State.mayTransmit (s : State) (p : Nat) (f : FabFrame) : Bool :=
  (s.port p).st == 4 && decide ((s.port p).replay.length < 256) && (s.port p).hasCredit f.chan

/-- Send the queued frames of port `p` that may leave, in order within each channel. -/
def State.drainList (p : Nat) : List FabFrame → List FabFrame → State → State
  | [], kept, s => s.modPort p (fun k => { k with queue := kept })
  | f :: r, kept, s =>
    if s.mayTransmit p f && !kept.any (fun g => g.chan == f.chan) then State.drainList p r kept (s.transmit p f)
    else State.drainList p r (kept ++ [f]) s

/-- Send what port `p` may send of its queue. -/
def State.drain (s : State) (p : Nat) : State := State.drainList p (s.port p).queue [] s

/-- Send a sequenced frame on port `p`, or queue it for credit. -/
def State.portSend (s : State) (p : Nat) (f : FabFrame) : State :=
  if s.mayTransmit p f && !(s.port p).queue.any (fun g => g.chan == f.chan) then s.transmit p f
  else (s.modPort p (fun k => { k with queue := k.queue ++ [f] })).hubEvent 0x04 p

/-- Bytes that choose a next hop (R438): DST, ADDR[47:11], ORIG, SRC. -/
def FabFrame.hashBytes (f : FabFrame) : List Byte :=
  leBytes 2 f.hdr.dst.toNat ++ leBytes 5 (fld f.hdr.addr 11 37) ++ leBytes 1 f.hdr.orig.toNat ++ leBytes 2 f.hdr.src.toNat

/-- Next-hop ports of a destination. -/
def State.hops (s : State) (dst : Nat) : List Nat := Sparse.get [] s.fab.routes dst

/-- A peer can be reached now or after the recomputation that is due. -/
def State.routable (s : State) (dst : Nat) : Bool := s.hops dst != [] || s.fab.emptied.contains dst

/-- The target of a transfer can be reached: the module itself, or a peer. -/
def State.reachable (s : State) (dst : Nat) : Bool := s.isLocal dst || s.routable dst

/-- A frame from a link with this DST is for the module. -/
def State.isMine (s : State) (dst : Nat) : Bool := s.fab.addrv && dst == s.fab.addr.toNat

/-- Send a frame to a peer (R438, R439): by its next hop, or held until routes are recomputed. -/
def State.sendOut (s : State) (f : FabFrame) : State :=
  match s.hops f.hdr.dst.toNat with
  | [] => { s with fab := { s.fab with waiting := s.fab.waiting ++ [f] } }
  | l => s.portSend (l.getD ((crc32c f.hashBytes).toNat % l.length) 0) f

/-- Send a frame by the router's loopback (R26). -/
def State.sendLoop (s : State) (f : FabFrame) : State := { s with fab := { s.fab with sent := s.fab.sent ++ [(32, f)] } }

/-- Send a request of the module's own stream engines (R25, R26). -/
def State.fabSend (s : State) (f : FabFrame) : State := if s.isLocal f.hdr.dst.toNat then s.sendLoop f else s.sendOut f

/-- Answer a request that came by port `p` with a response frame (R438, R443); one from the loopback (32) goes back by it,
and a token that a replay gives again (33) was answered before. -/
def State.reply (s : State) (p : Nat) (h : FabHdr) (type status : BitVec 8) (payload : List Byte) : State :=
  let f : FabFrame := ⟨type, { FabHdr.zero with
    response := true, dst := h.src, src := s.ownAddr, orig := h.orig, tag := h.tag, status := status, addr := h.addr }, payload, none⟩
  if p = 32 then s.sendLoop f else if p = 33 then s else s.sendOut f

/-- Send a LOST for a frame to its originating core (R440): SRC and ORIG of a request, DST and ORIG of a response. The frame
gives up the buffer it held. -/
def State.loseFrame (s : State) (f : FabFrame) : State :=
  let dst := if f.hdr.response then f.hdr.dst else f.hdr.src
  let g : FabFrame := ⟨0x23, { FabHdr.zero with
    response := true, dst := dst, src := s.ownAddr, orig := f.hdr.orig, tag := f.hdr.tag, status := fLinkLost, addr := f.hdr.addr },
    [], none⟩
  let s1 := s.freeBuffer f.inBuf
  if s1.isMine dst.toNat then s1.sendLoop g else s1.sendOut g

/-- The request came by port `p` from a core of flask `f` of this module, fenced or not. -/
def State.fromFlask (s : State) (p : Nat) (h : FabHdr) (f : Nat) : Bool :=
  let c := h.orig.toNat
  p == 32 && (((s.serving c).map (·.1)) == some f || (s.flask f).map.contains c || (s.flask f).orphans.any (fun o => o.2 == c))

end Sys2Proof.Machine
end

