-- ==== Sys2Proof/Machine/Scalar.lean ====
section
/-! DEFINITION. The instructions that the sequencer executes itself (R250): scalar, predicate, branch, slot, token,
semaphore, fence, commit and halt instructions, and the rows that end a thread's stall. -/

namespace Sys2Proof.Machine

/-! ### Shared operations -/

/-- A 32-bit immediate or offset, sign-extended (Table 10-5). -/
def Op.imm (o : Op) : Word := (BitVec.ofNat 32 (o.f 0 32)).signExtend 64

/-- Write a scalar register and continue. -/
def State.writeScalar (s : State) (o : Op) (d : Nat) (v : Word) : State :=
  (s.modThread o.core o.thread (fun x => x.setReg d v)).advance o

/-- Write a predicate and continue; p0 is not written (R245, R296). -/
def State.writePred (s : State) (o : Op) (d : Nat) (v : Bool) : State :=
  (s.modThread o.core o.thread (fun x => x.setPred d v)).advance o

/-- A register form: sD := f sA sB. -/
def State.aluReg (s : State) (opc : BitVec 8) (i : Ins) (f : Word → Word → Word) : State :=
  let o : Op := ⟨opc, i⟩
  s.issue o (fun s =>
    let x := s.thread o.core o.thread
    s.writeScalar o (o.f 46 5) (f (x.reg (o.f 41 5)) (x.reg (o.f 36 5))))

/-- An immediate form: sD := f sA (sext IMM). -/
def State.aluImm (s : State) (opc : BitVec 8) (i : Ins) (f : Word → Word → Word) : State :=
  let o : Op := ⟨opc, i⟩
  s.issue o (fun s =>
    let x := s.thread o.core o.thread
    s.writeScalar o (o.f 46 5) (f (x.reg (o.f 41 5)) o.imm))

/-- MIN and MAX compare as signed integers (R294). -/
def signedMin (a b : Word) : Word := if a.slt b then a else b
/-- The larger of two signed integers. -/
def signedMax (a b : Word) : Word := if a.slt b then b else a
/-- Logical shift left by the low six bits (R294). -/
def shiftL (a b : Word) : Word := a <<< (b.toNat % 64)
/-- Logical shift right by the low six bits (R294). -/
def shiftR (a b : Word) : Word := a >>> (b.toNat % 64)
/-- Arithmetic shift right by the low six bits (R294). -/
def shiftRA (a b : Word) : Word := a.sshiftRight (b.toNat % 64)

/-- The comparison of a condition code (R295). -/
def compare' (cc : Nat) (a b : Word) : Bool :=
  if cc = 0 then a == b else if cc = 1 then a != b else if cc = 2 then a.slt b else if cc = 3 then a.sle b
  else if cc = 4 then a.ult b else a.ule b

/-- A predicate form: pD := f pA pB. -/
def State.predOp (s : State) (opc : BitVec 8) (i : Ins) (f : Bool → Bool → Bool) : State :=
  let o : Op := ⟨opc, i⟩
  s.issue o (fun s =>
    let x := s.thread o.core o.thread
    s.writePred o (o.f 48 3) (f (x.pred (o.f 45 3)) (x.pred (o.f 42 3))))

/-- Thread `t` of logical core `l` of flask `f` as it starts (R245, Table 9-2). -/
def State.freshThread (s : State) (f l t : Nat) (pc : BitVec 32) (s5 : Word) : Thread :=
  let n := ((s.flaskDef f).map (·.ncores)).getD 0
  let r : List Word := [BitVec.ofNat 64 t, BitVec.ofNat 64 l, BitVec.ofNat 64 n, s.fab.addr.setWidth 64, (s.flask f).arg, s5]
  (List.range 6).foldl (fun (x : Thread) k => x.setReg k (r.getD k 0)) ⟨pc, [], 1, .run, none, []⟩

/-- Thread `t` of core `c` starts (R246). -/
def State.startThread (s : State) (c t : Nat) (pc : BitVec 32) (s5 : Word) : State :=
  let fl := (s.serving c).getD (0, 0)
  (s.setThread c t (s.freshThread fl.1 fl.2 t pc s5)).goto c t pc

/-- The eight bytes W of slot H (R298). -/
def Core.slotWord (k : Core) (h w : Nat) : Word := BitVec.ofNat 64 (readLE k.arch.rcd.slots (128 * h + 8 * w) 8)

/-- HSET once it may issue. -/
def State.hsetAct (o : Op) (s : State) : State :=
  let v := (s.thread o.core o.thread).reg (o.f 32 5)
  (s.modCore o.core (fun k => k.setSlot (o.f 41 10) (8 * o.f 37 4) (leBytes 8 v.toNat))).advance o

/-- HGET once it may issue. -/
def State.hgetAct (o : Op) (s : State) : State :=
  s.writeScalar o (o.f 46 5) ((s.core o.core).slotWord (o.f 36 10) (o.f 32 4))

/-- What an instruction that stalled does when its stall ends: HSET, HGET, or an engine instruction. -/
def State.heldAct (o : Op) (s : State) : State :=
  if o.code = 0x0C then s.hsetAct o else if o.code = 0x0D then s.hgetAct o else s.enqueue o

/-- Retry the instruction that thread `t` holds for a reason `ok`. -/
def State.retryHeld (s : State) (c t : Nat) (ok : Hold → Bool) : State :=
  match (s.thread c t).held with
  | none => s
  | some h =>
    if s.coreIssues c ∧ ok h.why then
      match s.stallOf h.op with
      | some (w, ev) => if w = h.why then s else s.hold h.op w ev
      | none => (s.issued h.op).heldAct h.op
    else s

/-- The thread holds an instruction for a reason `ok`, and its core may issue. -/
def State.heldFor (s : State) (c t : Nat) (ok : Hold → Bool) : Option Held :=
  match (s.thread c t).held with
  | some h => if s.coreIssues c && ok h.why then some h else none
  | none => none

/-! ### ADD to MAX, ADD.I to MAX.I, MOVI, MOVHI (R293, R294) -/

/-- ADD. -/
def execAdd (i : Ins) (s : State) : Host.Outcome State Fault Refusal := .next (s.aluReg 0x10 i (· + ·))
/-- SUB. -/
def execSub (i : Ins) (s : State) : Host.Outcome State Fault Refusal := .next (s.aluReg 0x11 i (· - ·))
/-- MUL. -/
def execMul (i : Ins) (s : State) : Host.Outcome State Fault Refusal := .next (s.aluReg 0x12 i (· * ·))
/-- AND. -/
def execAnd (i : Ins) (s : State) : Host.Outcome State Fault Refusal := .next (s.aluReg 0x13 i (· &&& ·))
/-- OR. -/
def execOr (i : Ins) (s : State) : Host.Outcome State Fault Refusal := .next (s.aluReg 0x14 i (· ||| ·))
/-- XOR. -/
def execXor (i : Ins) (s : State) : Host.Outcome State Fault Refusal := .next (s.aluReg 0x15 i (· ^^^ ·))
/-- SHL. -/
def execShl (i : Ins) (s : State) : Host.Outcome State Fault Refusal := .next (s.aluReg 0x16 i shiftL)
/-- SHR. -/
def execShr (i : Ins) (s : State) : Host.Outcome State Fault Refusal := .next (s.aluReg 0x17 i shiftR)
/-- SRA. -/
def execSra (i : Ins) (s : State) : Host.Outcome State Fault Refusal := .next (s.aluReg 0x18 i shiftRA)
/-- MIN. -/
def execMin (i : Ins) (s : State) : Host.Outcome State Fault Refusal := .next (s.aluReg 0x19 i signedMin)
/-- MAX. -/
def execMax (i : Ins) (s : State) : Host.Outcome State Fault Refusal := .next (s.aluReg 0x1A i signedMax)
/-- ADD.I. -/
def execAddI (i : Ins) (s : State) : Host.Outcome State Fault Refusal := .next (s.aluImm 0x20 i (· + ·))
/-- SUB.I. -/
def execSubI (i : Ins) (s : State) : Host.Outcome State Fault Refusal := .next (s.aluImm 0x21 i (· - ·))
/-- MUL.I. -/
def execMulI (i : Ins) (s : State) : Host.Outcome State Fault Refusal := .next (s.aluImm 0x22 i (· * ·))
/-- AND.I. -/
def execAndI (i : Ins) (s : State) : Host.Outcome State Fault Refusal := .next (s.aluImm 0x23 i (· &&& ·))
/-- OR.I. -/
def execOrI (i : Ins) (s : State) : Host.Outcome State Fault Refusal := .next (s.aluImm 0x24 i (· ||| ·))
/-- XOR.I. -/
def execXorI (i : Ins) (s : State) : Host.Outcome State Fault Refusal := .next (s.aluImm 0x25 i (· ^^^ ·))
/-- SHL.I. -/
def execShlI (i : Ins) (s : State) : Host.Outcome State Fault Refusal := .next (s.aluImm 0x26 i shiftL)
/-- SHR.I. -/
def execShrI (i : Ins) (s : State) : Host.Outcome State Fault Refusal := .next (s.aluImm 0x27 i shiftR)
/-- SRA.I. -/
def execSraI (i : Ins) (s : State) : Host.Outcome State Fault Refusal := .next (s.aluImm 0x28 i shiftRA)
/-- MIN.I. -/
def execMinI (i : Ins) (s : State) : Host.Outcome State Fault Refusal := .next (s.aluImm 0x29 i signedMin)
/-- MAX.I. -/
def execMaxI (i : Ins) (s : State) : Host.Outcome State Fault Refusal := .next (s.aluImm 0x2A i signedMax)

/-- MOVI: sD := sext(IMM). -/
def execMovi (i : Ins) (s : State) : Host.Outcome State Fault Refusal :=
  let o : Op := ⟨0x2B, i⟩
  .next (s.issue o (fun s => s.writeScalar o (o.f 46 5) o.imm))

/-- MOVHI: sD[63:32] := IMM; the low half is unchanged. -/
def execMovhi (i : Ins) (s : State) : Host.Outcome State Fault Refusal :=
  let o : Op := ⟨0x2C, i⟩
  .next (s.issue o (fun s =>
    s.writeScalar o (o.f 46 5)
      (BitVec.ofNat 32 (o.f 0 32) ++ ((s.thread o.core o.thread).reg (o.f 46 5)).setWidth 32)))

/-! ### CMP, CMP.I and the predicate instructions (R295, R296) -/

/-- CMP. -/
def execCmp (i : Ins) (s : State) : Host.Outcome State Fault Refusal :=
  let o : Op := ⟨0x30, i⟩
  .next (s.issue o (fun s =>
    let x := s.thread o.core o.thread
    s.writePred o (o.f 48 3) (compare' (o.f 45 3) (x.reg (o.f 40 5)) (x.reg (o.f 35 5)))))

/-- CMP.I. -/
def execCmpI (i : Ins) (s : State) : Host.Outcome State Fault Refusal :=
  let o : Op := ⟨0x31, i⟩
  .next (s.issue o (fun s =>
    let x := s.thread o.core o.thread
    s.writePred o (o.f 48 3) (compare' (o.f 45 3) (x.reg (o.f 40 5)) o.imm)))

/-- PAND. -/
def execPand (i : Ins) (s : State) : Host.Outcome State Fault Refusal := .next (s.predOp 0x34 i (· && ·))
/-- POR. -/
def execPor (i : Ins) (s : State) : Host.Outcome State Fault Refusal := .next (s.predOp 0x35 i (· || ·))
/-- PXOR. -/
def execPxor (i : Ins) (s : State) : Host.Outcome State Fault Refusal := .next (s.predOp 0x36 i (· != ·))

/-- PNOT: pD := NOT pA. -/
def execPnot (i : Ins) (s : State) : Host.Outcome State Fault Refusal :=
  let o : Op := ⟨0x37, i⟩
  .next (s.issue o (fun s => s.writePred o (o.f 48 3) (!(s.thread o.core o.thread).pred (o.f 45 3))))

/-! ### Branches (R293, R297, R246) -/

/-- The target PC + sext(OFF) of a branch (Table 10-5). -/
def State.branchTarget (s : State) (o : Op) : BitVec 32 :=
  (s.thread o.core o.thread).pc + BitVec.ofNat 32 (o.f 0 32)

/-- BR. -/
def execBr (i : Ins) (s : State) : Host.Outcome State Fault Refusal :=
  let o : Op := ⟨0x08, i⟩
  .next (s.issue o (fun s => s.goto o.core o.thread (s.branchTarget o)))

/-- BR.REG: PC := sA[31:0]. -/
def execBrReg (i : Ins) (s : State) : Host.Outcome State Fault Refusal :=
  let o : Op := ⟨0x09, i⟩
  .next (s.issue o (fun s => s.goto o.core o.thread (((s.thread o.core o.thread).reg (o.f 46 5)).setWidth 32)))

/-- BR.LINK: sD := PC + 8, then as BR. -/
def execBrLink (i : Ins) (s : State) : Host.Outcome State Fault Refusal :=
  let o : Op := ⟨0x0A, i⟩
  .next (s.issue o (fun s =>
    let target := s.branchTarget o
    let link : Word := ((s.thread o.core o.thread).pc.setWidth 64) + 8
    (s.modThread o.core o.thread (fun x => x.setReg (o.f 46 5) link)).goto o.core o.thread target))

/-- Thread `t` of a core may start: it is HALTED and everything it issued has completed or aborted (R246). -/
def Core.mayStart (k : Core) (t : Nat) : Bool :=
  decide ((k.thread t).run = .halted) && !([1, 2, 3, 4].any (fun u => k.threadOut t u))

/-- BR.FORK once thread T may start. -/
def State.forkAct (o : Op) (s : State) : State :=
  let x := s.thread o.core o.thread
  (s.advance o).startThread o.core (o.f 47 4) (s.branchTarget o) (x.reg (o.f 42 5))

/-- BR.FORK: thread T starts, or the forking thread stalls until it may (R246). -/
def execBrFork (i : Ins) (s : State) : Host.Outcome State Fault Refusal :=
  let o : Op := ⟨0x0B, i⟩
  .next (s.issue o (fun s =>
    if (s.core o.core).mayStart (o.f 47 4) then s.forkAct o else s.hold o (.fork i.thread) 0xFF))

/-- FORK_THREAD_START: a fork that stalled starts its thread. -/
def execForkThreadStart (c : Fin 64) (t : Fin 16) (s : State) : Host.Outcome State Fault Refusal :=
  .next (match s.heldFor c t (fun w => match w with | .fork _ => true | _ => false) with
    | some h => if (s.core c).mayStart (h.op.f 47 4) then (s.progress c).forkAct h.op else s
    | none => s)

/-! ### HSET, HGET (R298, R66) -/

/-- HSET: bytes 8W to 8W + 7 of slot H := sA. -/
def execHset (i : Ins) (s : State) : Host.Outcome State Fault Refusal :=
  .next (s.issue ⟨0x0C, i⟩ (fun s => s.hsetAct ⟨0x0C, i⟩))

/-- HGET: sD := bytes 8W to 8W + 7 of slot H. -/
def execHget (i : Ins) (s : State) : Host.Outcome State Fault Refusal :=
  .next (s.issue ⟨0x0D, i⟩ (fun s => s.hgetAct ⟨0x0D, i⟩))

/-! ### Ordering instructions (R299) -/

/-- HALT: the thread enters HALTED (R247). -/
def execHalt (i : Ins) (s : State) : Host.Outcome State Fault Refusal :=
  let o : Op := ⟨0x01, i⟩
  .next (s.issue o (fun s => s.modThread o.core o.thread (fun x => { x with run := .halted, pc := x.pc + 8 })))

/-- COMMIT: the thread stalls at the barrier (R275); its NOTIFY bit is remembered for the commit (R280). -/
def execCommit (i : Ins) (s : State) : Host.Outcome State Fault Refusal :=
  let o : Op := ⟨0x02, i⟩
  .next (s.issue o (fun s =>
    let s1 := s.hold o .commit 0x06
    match s.serving o.core with
    | some (f, _) => s1.modFlask f (fun x => { x with notify := x.notify || o.f 50 1 == 1 })
    | none => s1))

/-- Some instruction that the thread issued to an engine of the mask is incomplete (R268): mask bit 3 SE, 2 VE, 1 TE,
0 LME. -/
def Core.fenceBusy (k : Core) (t : Nat) (mask : BitVec 4) : Bool :=
  [(3, 4), (2, 3), (1, 2), (0, 1)].any (fun b => bitAt mask b.1 && k.threadOut t b.2)

/-- FENCE.E. -/
def execFenceE (i : Ins) (s : State) : Host.Outcome State Fault Refusal :=
  let o : Op := ⟨0x03, i⟩
  .next (s.issue o (fun s =>
    if (s.core o.core).fenceBusy o.thread (BitVec.ofNat 4 (o.f 47 4)) then s.hold o (.fence (BitVec.ofNat 4 (o.f 47 4))) 0xFF
    else s.advance o))

/-- FENCE_RELEASE: the last instruction that a fence waits for has ended. -/
def execFenceRelease (c : Fin 64) (t : Fin 16) (s : State) : Host.Outcome State Fault Refusal :=
  .next (match s.heldFor c t (fun w => match w with | .fence _ => true | _ => false) with
    | some h => if (s.core c).fenceBusy t (BitVec.ofNat 4 (h.op.f 47 4)) then s else (s.progress c).advance h.op
    | none => s)

/-- A half of a semaphore pair. -/
def Sem.half (x : Sem) (empty : Bool) : Nat := if empty then x.empty else x.full

/-- SEM.WAIT with a count of at least 1: the count decrements and the thread goes on (R266). -/
def State.semTake (o : Op) (s : State) : State :=
  let e := o.f 42 1 == 1
  (s.modCore o.core (fun k => k.modSem (o.f 43 8) (fun x =>
    if e then { x with empty := x.empty - 1 } else { x with full := x.full - 1 }))).advance o

/-- SEM.WAIT. -/
def execSemWait (i : Ins) (s : State) : Host.Outcome State Fault Refusal :=
  let o : Op := ⟨0x04, i⟩
  .next (s.issue o (fun s =>
    if 1 ≤ ((s.core o.core).sem (o.f 43 8)).half (o.f 42 1 == 1) then s.semTake o
    else s.hold o (.semWait (o.f 43 8) (o.f 42 1 == 1)) 0x05))

/-- SEM_WAIT_SATISFIED. -/
def execSemWaitSatisfied (c : Fin 64) (t : Fin 16) (s : State) : Host.Outcome State Fault Refusal :=
  .next (match s.heldFor c t (fun w => match w with | .semWait _ _ => true | _ => false) with
    | some h =>
      if 1 ≤ ((s.core c).sem (h.op.f 43 8)).half (h.op.f 42 1 == 1) then (s.progress c).semTake h.op else s
    | none => s)

/-- SEM.POST: adds N to the named half of the issuing core's pair, saturating. -/
def execSemPost (i : Ins) (s : State) : Host.Outcome State Fault Refusal :=
  let o : Op := ⟨0x05, i⟩
  .next (s.issue o (fun s => (s.modCore o.core (fun k => k.post (o.f 43 8) (o.f 42 1 == 1) (o.f 34 8))).advance o))

/-- TOKEN.WAIT that may take its tokens. -/
def State.tokenTake (o : Op) (s : State) : State :=
  (s.modCore o.core (fun k => k.takeTokens (o.f 45 6) (o.f 39 6))).advance o

/-- TOKEN.WAIT (R262, R263). -/
def execTokenWait (i : Ins) (s : State) : Host.Outcome State Fault Refusal :=
  let o : Op := ⟨0x06, i⟩
  .next (s.issue o (fun s =>
    let k := s.core o.core
    if o.f 39 6 ≤ (k.tokq (o.f 45 6)).count ∧ k.servedFirst (o.f 45 6) (s.slotCycle o.core) (4 + o.thread) then s.tokenTake o
    else s.hold o (.tokenWait (o.f 45 6) (o.f 39 6)) 0x04))

/-- TOKEN_WAIT_SATISFIED: the first waiter of a queue that holds enough tokens takes them. -/
def execTokenWaitSatisfied (c : Fin 64) (t : Fin 16) (s : State) : Host.Outcome State Fault Refusal :=
  .next (match s.heldFor c t (fun w => match w with | .tokenWait _ _ => true | _ => false) with
    | some h =>
      let k := s.core c
      if h.op.f 39 6 ≤ (k.tokq (h.op.f 45 6)).count ∧ k.servedFirst (h.op.f 45 6) h.ticket (4 + t) then (s.progress c).tokenTake h.op else s
    | none => s)

/-- TOKEN.SIGNAL that fits its queue. -/
def State.tokenPut (o : Op) (s : State) : State :=
  (s.modCore o.core (fun k => k.modTokq (o.f 45 6) (fun x => { x with count := x.count + o.f 39 6 }))).advance o

/-- Queue `q` has places for `n` more tokens (R262). -/
def Core.placesFor (k : Core) (q n : Nat) : Bool := decide ((k.tokq q).count + (k.tokq q).reserved + n ≤ 32)

/-- TOKEN.SIGNAL (R262). -/
def execTokenSignal (i : Ins) (s : State) : Host.Outcome State Fault Refusal :=
  let o : Op := ⟨0x07, i⟩
  .next (s.issue o (fun s =>
    if (s.core o.core).placesFor (o.f 45 6) (o.f 39 6) then s.tokenPut o
    else s.hold o (.signalPlace (o.f 45 6) (o.f 39 6)) 0x04))

/-! ### The ends of issue stalls -/

/-- QUEUE_FULL_ISSUE: a thread stalled on a full engine queue issues (R252). -/
def execQueueFullIssue (c : Fin 64) (t : Fin 16) (s : State) : Host.Outcome State Fault Refusal :=
  .next (s.retryHeld c t (fun w => w == .queueFull))

/-- SLOT_STALL_RESUME: a thread stalled at a slot issues (R66, R311). -/
def execSlotStallResume (c : Fin 64) (t : Fin 16) (s : State) : Host.Outcome State Fault Refusal :=
  .next (s.retryHeld c t (fun w => w == .slot))

/-- TOKEN_PLACE_ISSUE: a thread stalled for a place in its signal queue issues (R258, R262). -/
def execTokenPlaceIssue (c : Fin 64) (t : Fin 16) (s : State) : Host.Outcome State Fault Refusal :=
  .next (match s.heldFor c t (fun w => match w with | .signalPlace _ _ => true | _ => false) with
    | some h => if (s.core c).placesFor (h.op.f 45 6) (h.op.f 39 6) then (s.progress c).tokenPut h.op else s
    | none => s.retryHeld c t (fun w => w == .tokenPlace))

/-- UNDEFINED_OPCODE_ISSUE: an executed instruction whose opcode is not in Table 10-4 faults at issue (R286). -/
def execUndefinedOpcodeIssue (op : BitVec 8) (i : Ins) (s : State) : Host.Outcome State Fault Refusal :=
  if opcodeListed op.toNat then .next s else .next (s.issue ⟨op, i⟩ (fun s => s))

end Sys2Proof.Machine
end

