-- ==== Sys2Proof/Machine/Engines.lean ====
section
/-! DEFINITION. What the three fixed-latency engines share: start times and distances, completion, abort, and the
ciphertext checks of R152. -/

namespace Sys2Proof.Machine

/-! ### Ranges -/

/-- Two runs of one tile or buffer meet. -/
def Range.meets (a b : Range) : Bool := a.buf == b.buf && decide (a.lo < b.hi) && decide (b.lo < a.hi)

/-- The run that bytes [lo, hi) of a tile or buffer take. -/
def bytesRun (t lo hi : Nat) : Range := ⟨t, 2 * lo, 2 * hi⟩

/-- What two lists of runs have in common. -/
def commonRuns (a b : List Range) : List Range :=
  a.flatMap (fun x => b.filterMap (fun y => if x.meets y then some ⟨x.buf, max x.lo y.lo, min x.hi y.hi⟩ else none))

/-- Byte `i` of a store after a run has taken the halves it covers from `new`. -/
def Range.mix (r : Range) (i : Nat) (old new : Byte) : Byte :=
  let inLow := decide (r.lo ≤ 2 * i) && decide (2 * i < r.hi)
  let inHigh := decide (r.lo ≤ 2 * i + 1) && decide (2 * i + 1 < r.hi)
  BitVec.ofNat 8 ((if inLow then new else old).toNat % 16 + (if inHigh then new else old).toNat / 16 * 16)

/-- The bytes that a run touches: the first, and how many. -/
def Range.bytes (r : Range) : Nat × Nat := (r.lo / 2, ceilDiv r.hi 2 - r.lo / 2)

/-- A store whose halves under a run come from a list of bytes. -/
def Range.patch (r : Range) (m : Sparse Byte) (l : List Byte) : Sparse Byte :=
  (List.range r.bytes.2).foldl (fun m i =>
    Sparse.modify 0 m (r.bytes.1 + i) (fun old => r.mix (r.bytes.1 + i) old (l.getD i 0))) m

/-- Free values in place of a run of a buffer, of an A or C tile with its status bits, of a B tile's cells, or of the
histogram's bins (R123, R177, R237). -/
def State.freeRun (s : State) (c : Nat) (r : Range) : State :=
  let (b0, n) := r.bytes
  let (s1, bytes) := s.freeBytes n
  if r.buf = 16 then
    s1.modCore c (fun k => k.modArch (fun a => { a with hist := { a.hist with
      bins := (List.range (n / 4)).foldl (fun m i =>
        Sparse.set 0 m (b0 / 4 + i) (BitVec.ofNat 32 (leAt bytes (4 * i) 4))) a.hist.bins } }))
  else if isTb r.buf ∨ isV r.buf then
    s1.modCore c (fun k => let b := k.buf r.buf; k.setBuf r.buf { b with data := r.patch b.data bytes })
  else if isB r.buf then
    let (s2, more) := s1.freeBytes (r.hi - r.lo)
    s2.modCore c (fun k => k.modTile r.buf (fun t =>
      { t with cells := (List.range (r.hi - r.lo)).foldl (fun m i =>
          let v := (more.getD i 0).toNat
          let a : BAttr := ⟨v % 2 == 1, (v / 16 : Nat), 0⟩
          Sparse.set BCell.zero m (r.lo + i) ⟨BitVec.ofNat 4 (v / 8), a, a⟩) t.cells }))
  else
    let (s2, more) := s1.freeBytes n
    s2.modCore c (fun k => k.modTile r.buf (fun t =>
      { t with data := r.patch t.data bytes
               status := (List.range n).foldl (fun m i =>
                 if isC r.buf ∧ (b0 + i) % (if t.cls = .w then 80 else 16) = 0 then
                   Sparse.set 0 m (b0 + i) (BitVec.ofNat 3 (more.getD i 0).toNat) else m) t.status }))

/-- A saturation counter of core `c` counts `n` elements (R578, event 0x27): that of the vector engine or of the stream
engine. -/
def State.addSat (s : State) (c : Nat) (ve : Bool) (n : Nat) : State :=
  let s1 := s.modCore c (fun k =>
    if ve then { k with satVe := BitVec.ofNat 32 (satAdd 0xFFFFFFFF k.satVe.toNat n) }
    else { k with satSe := BitVec.ofNat 32 (satAdd 0xFFFFFFFF k.satSe.toNat n) })
  (List.range n).foldl (fun s _ => s.coreEvent c 0x27) s1

/-- Free values in every run of a list. -/
def State.freeRuns (s : State) (c : Nat) (l : List Range) : State := l.foldl (fun s r => s.freeRun c r) s

/-! ### Duties (R386, R552) -/

/-- The duty of an activity class of core `c`, in sixteenths: 0 SE, 1 TE, 2 VE, 3 LME. The lower of the governor's duty and
the fraction of the core's thermal group applies. -/
def State.dutyOf (s : State) (c cls : Nat) : Nat :=
  let g := Sparse.get 0 s.pwr.duty (4 * c + cls)
  let lvl := Sparse.get 0 s.pwr.level (c / 4)
  min g (if lvl = 0 ∨ cls = 0 then 16 else 16 - 4 * min lvl 3)

/-- The class of a fixed-latency unit. -/
def classOf (u : Nat) : Nat := if u = 1 then 3 else if u = 2 then 1 else 2

/-- The extra distance after an instruction of occupancy `occ` at duty `f` (R386, R552): (1/f − 1) × occ. -/
def dutyGap (f occ : Nat) : Nat := if f = 0 then 0 else ceilDiv ((16 - f) * occ) f

/-! ### Starts -/

/-- What the start checks of an instruction settle: its occupancy and result latency, the runs it reads and writes, the
slot and metadata it writes back, the magnitudes it leaves or adds, the tiles it covers, the fault it will abort with and
at which slice, and whether it breaches its noise limit under MARK. -/
structure Plan where
  occ : Nat
  lat : Nat
  reads : List Range
  writes : List Range
  slot : Option Nat
  md : Option MdOut
  mags : List (Nat × Nat × BitVec 32)
  magAdd : Bool
  cover : List Nat
  abort : Option (BitVec 8)
  abortAt : Nat
  breach : Bool
deriving DecidableEq, Repr

/-- A plan that changes nothing and takes one cycle. -/
def Plan.nop : Plan := ⟨1, 1, [], [], none, none, [], false, [], none, 0, false⟩

/-- An opcode of the LMM variants. -/
def isLmm (o : Op) : Bool := decide (0x40 ≤ o.code) && decide (o.code ≤ 0x44)

/-- An instruction that starts in cycle `start` breaks its distance from a started one (R122, R176, R236). Two LMMs may
write the same C elements at any distance. -/
def breaksDistance (fs : List Flight) (o : Op) (start : Nat) (reads writes : List Range) : Bool :=
  fs.any (fun f => decide (start < f.start + f.lat) && f.writes.any (fun w =>
    reads.any (fun r => r.meets w) ||
    (!(isLmm o && isLmm f.ent.op) && writes.any (fun r => r.meets w))))

/-- The cores of a flask still execute (R270, step 2): a pour is on it and the core is not cut off. -/
def State.coreAlive (s : State) (c : Nat) : Bool :=
  (s.serving c).isSome && !(s.core c).gated && !s.fenced c

/-- The walker's read for an LMM, if it has begun. -/
def Core.walkFor (k : Core) (e : QEnt) : Option Walk := k.se.walk.filter (fun w => w.ent == e)

/-- The index operand of an LMM: the copy with which its walk began (R65, R349), or its slot. -/
def Core.indexDesc (k : Core) (e : QEnt) : Desc :=
  match k.walkFor e with
  | some w => ⟨w.desc⟩
  | none => k.desc (e.op.f 11 10)

/-- The walker reads an index operand for an LMM: one that passes the checks of R113's step 1 and holds indices. Of another,
the LMM's start checks dispose without a read. -/
def State.walkDue (s : State) (c : Nat) (e : QEnt) : Bool :=
  let d := (s.core c).indexDesc e
  let n : Named := ⟨d, 4, true, false⟩
  isLmm e.op && e.op.f 21 1 == 1 && n.kindOk && n.formOk s && d.imode == 2 && d.dim == 1 && n.alignOk && !d.poison &&
    decide (0 < d.count)

/-- The walker has read all that it will read for an LMM with an index operand (R349): every index, or up to what ended its
read. -/
def State.walked (s : State) (c : Nat) (e : QEnt) : Bool :=
  !s.walkDue c e ||
  (match (s.core c).walkFor e with
    | some w => w.xfers == [] && (w.fault.isSome || decide ((Desc.mk w.desc).count ≤ w.got.length))
    | none => false)

/-- The head of unit `u` may start now: its token is there, its activity is admitted, its index operand has been read, and no
indexed LMM is before it (R120, R124, R174, R234, R256, R349, R552). -/
def State.headReady (s : State) (c u : Nat) (e : QEnt) : Bool :=
  s.coreAlive c && decide (0 < s.dutyOf c (classOf u)) && (s.core c).tokenReady u e && s.walked c e &&
  !((s.core c).engine u).flights.any (fun f => isLmm f.ent.op && f.ent.op.f 21 1 == 1)

/-- The start cycle of the head of unit `u`: the later of R120, R174 or R234's two times (R256), plus the gap of its duty
(R386, R552), and not before an indexed LMM completes (R124). -/
def State.startCycle (s : State) (c u : Nat) (e : QEnt) : Nat :=
  let g := (s.core c).engine u
  max (max (g.free + e.op.delay) (if e.op.wen then s.cycle else e.born) + dutyGap (s.dutyOf c (classOf u)) g.occ) g.ready

/-- The started instructions of an engine whose results are not there yet in cycle `start`. -/
def recentOf (fs : List Flight) (start : Nat) : List Flight := fs.filter (fun f => decide (start < f.start + f.lat))

/-- The runs of an instruction's results that a broken distance leaves undefined (R123, R177, R237): what an earlier
instruction may still write there, and what `hit` says comes of the words it reads too early. -/
def brokenRuns (fs : List Flight) (o : Op) (start : Nat) (reads writes : List Range) (hit : List Range → List Range) :
    List Range :=
  (recentOf fs start).flatMap (fun f =>
    (if isLmm o && isLmm f.ent.op then [] else commonRuns writes f.writes) ++ hit (commonRuns reads f.writes))

/-- The core event of an engine within an instruction's occupancy. -/
def busyEvent (u : Nat) : Nat := if u = 1 then 0x10 else if u = 2 then 0x12 else 0x13

/-- Start the head of unit `u`: a failed check aborts it without effect; otherwise its data effect takes place and it is
in flight until its completion or abort. The results that a broken distance affects are free values; `hit` gives the runs
of an instruction's results that depend on runs it reads. -/
def State.startHead (s : State) (c u : Nat) (check : State → QEnt → Except (BitVec 8) Plan)
    (act : State → QEnt → State) (hit : State → QEnt → List Range → List Range) : State :=
  match ((s.core c).engine u).queue with
  | [] => s
  | e :: _ =>
    if s.headReady c u e then
      let s0 := s.popHead c u e
      match check s0 e with
      | .error code =>
        ((s0.modCore c (fun k => k.release e.op)).progress c).pourFault c u e.op.thread e.pc e.op.word code
      | .ok p =>
        let start := s.startCycle c u e
        let s1 := act s0 e
        let bad := breaksDistance ((s0.core c).engine u).flights e.op start p.reads p.writes
        let s2 := if bad then
            s1.freeRuns c (brokenRuns ((s0.core c).engine u).flights e.op start p.reads p.writes (hit s0 e)) else s1
        let s3 := if bad ∧ (s.core c).hazchk then (s2.setSticky sSchedHazard).coreEvent c 0x28 else s2
        let s4 := if p.breach then s3.setSticky sNoiseBound else s3
        let fl : Flight := ⟨e, (namedSlots e.op).map (fun h => ((s0.core c).desc h).raw), start, p.occ, p.lat, p.reads, p.writes,
          p.slot, p.md, p.mags, p.magAdd, p.cover, p.abort, p.abortAt⟩
        let s5 := s4.modCore c (fun k =>
          let g := k.engine u
          k.setEngine u { g with flights := g.flights ++ [fl], free := start + p.occ, occ := p.occ,
                                 ready := if isLmm e.op && e.op.f 21 1 == 1 then start + p.lat else g.ready })
        let s6 := s5.coreEvent c (busyEvent u)
        if dutyGap (s.dutyOf c (classOf u)) ((s.core c).engine u).occ ≠ 0 then s6.coreEvent c 0x15 else s6
    else s

/-! ### Completion and abort -/

/-- The flight that ends first: least start plus latency. -/
def firstFlight : List Flight → Option Flight
  | [] => none
  | f :: r => match firstFlight r with
    | none => some f
    | some g => if f.start + f.lat ≤ g.start + g.lat then some f else some g

/-- Write the metadata of a ciphertext destination back (R135): the larger NOISE, UNRELIABLE kept. -/
def Core.writeBack (k : Core) (slot : Nat) (m : MdOut) : Core :=
  let d := k.desc slot
  k.setMeta slot { m with noise := max d.noise m.noise, unreliable := d.unreliable || m.unreliable }

/-- How far half bytes from `a` up are covered by runs of buffer `t`. -/
def coveredTo (l : List Range) (t : Nat) : Nat → Nat → Nat
  | 0, a => a
  | n + 1, a =>
    match l.find? (fun r => r.buf == t && decide (r.lo ≤ a) && decide (a < r.hi)) with
    | some r => coveredTo l t n r.hi
    | none => a

/-- Runs cover bytes [a, z) of buffer `t`. -/
def covers (l : List Range) (t a z : Nat) : Bool := decide (2 * z ≤ coveredTo l t l.length (2 * a))

/-- The tiles that a list of runs covers whole (R100): every element of their physical capacity. -/
def Core.coveredTiles (k : Core) (l : List Range) : List Nat :=
  ([4, 5, 6, 7, 0xA, 0xB, 0xC, 0xD] : List Nat).filter (fun t =>
    covers l t 0 (if isC t ∧ (k.tile t).cls = .w then 8192 * 80 else tileBytes t))

/-- Segments of a buffer that a list of runs covers whole become valid (R158, R207). -/
def Core.coverSegs (k : Core) (l : List Range) : Core :=
  (l.filter (fun r => isTb r.buf || isV r.buf)).foldl (fun k r =>
    (List.range (if r.hi ≤ r.lo then 0 else (r.hi - 1) / 0x8000 - r.lo / 0x8000 + 1)).foldl (fun k i =>
      let a := (r.lo / 0x8000 + i) * 0x4000
      if covers l r.buf a (a + 0x4000) then k.setSegs r.buf a (a + 0x4000) true else k) k) k

/-- CMAG after an accumulate-mode LMM adds a column's BMAG to it (R116). -/
def addMag (old b : BitVec 32) : BitVec 32 :=
  if b = 0xFFFF then 0xFFFFFFFF else BitVec.ofNat 32 (satAdd 0xFFFFFFFF old.toNat b.toNat)

/-- An instruction of unit `u` completes (R124, R178, R238): its token, VALID, magnitudes and metadata. -/
def State.completeFlight (s : State) (c u : Nat) : State :=
  match firstFlight ((s.core c).engine u).flights with
  | none => s
  | some f =>
    if f.abort.isSome ∨ s.coreAlive c = false then s
    else
      let s1 := s.modCore c (fun k =>
        let g := k.engine u
        let k1 := (k.setEngine u { g with flights := g.flights.erase f }).produce f.ent.op
        let k2 := f.cover.foldl (fun k t => k.modTile t (fun x => { x with valid := true })) (k1.coverSegs f.writes)
        let k3 := f.mags.foldl (fun k m => k.modTile m.1 (fun x =>
          { x with mag := Sparse.modify 0 x.mag m.2.1 (fun old => if f.magAdd then addMag old m.2.2 else m.2.2) })) k2
        match f.slot, f.md with
        | some h, some m => k3.writeBack h m
        | _, _ => k3)
      s1.progress c

/-- Tiles and segments that an aborted instruction wrote become invalid (R100, R158, R207). -/
def Core.invalidate (k : Core) (l : List Range) : Core :=
  l.foldl (fun k r =>
    if isTb r.buf ∨ isV r.buf then k.setSegs r.buf (r.lo / 2) (ceilDiv r.hi 2) false
    else if r.buf < 16 then k.modTile r.buf (fun x => { x with valid := false })
    else k) k

/-- An instruction in flight aborts after its start checks (R126, R168, R242): it produces no token, its destinations
become invalid, its slot POISON with the metadata written back (R79, R135). -/
def State.abortFlight (s : State) (c u : Nat) (f : Flight) (code : BitVec 8) (scramble : Bool) : State :=
  let s0 := if scramble then s.freeRuns c f.writes else s
  let s1 := s0.modCore c (fun k =>
    let g := k.engine u
    let k1 := ((k.setEngine u { g with flights := g.flights.erase f }).release f.ent.op).invalidate f.writes
    match f.slot, f.md with
    | some h, some m => (k1.writeBack h m).setPoison h
    | some h, none => k1.setPoison h
    | none, _ => k1)
  (s1.progress c).pourFault c u f.ent.op.thread f.ent.pc f.ent.op.word code

/-! ### Ciphertext metadata (R131, R145 to R152) -/

/-- The chain prime of a residue row (R131): none when the ciphertext lacks the row. -/
def primeOfRow (ch : Chain) (d : Desc) (row : Nat) : Option Nat :=
  if row < d.level then some row
  else if row < d.level + d.extra then some (ch.l + (row - d.level))
  else none

/-- A prime is in the twiddle store and prime table of core `c` (R161, R210). -/
def Core.primeLoaded (k : Core) (chain : Nat) : Bool := bitAt k.loaded chain

/-- The agreement checks of two ciphertext inputs (R146): the fault of the first that fails. -/
def agree (a b : Desc) (scale : Bool) : Option (BitVec 8) :=
  if a.chain ≠ b.chain ∨ a.logn ≠ b.logn ∨ a.level ≠ b.level ∨ a.extra ≠ b.extra ∨ a.npoly ≠ b.npoly ∨
      (scale = true ∧ a.scale ≠ b.scale) then some fDescFormat
  else if a.ksid ≠ b.ksid then some fKeySet
  else if a.domain ≠ b.domain then some fDomain
  else none

/-- The flask of core `c` runs under MARK (R148). -/
def State.marks (s : State) (c : Nat) : Bool := ((s.flaskOf c).map (·.mark)).getD false

/-- The noise check, the last start check (R149 to R151): a fault under FAULT; under MARK the output's UNRELIABLE and
whether the operation breaches. -/
def State.noiseCheck (s : State) (c : Nat) (limit noise : Nat) (inputs : List Desc) : Except (BitVec 8) (Bool × Bool) :=
  let breach := decide (limit < noise)
  let inBad := inputs.any (·.unreliable)
  if s.marks c then .ok (breach || inBad, breach)
  else if breach || inBad then .error fNoise
  else .ok (false, false)

/-- The bit reversal of the `n` low bits of `i` (R129). -/
def bitrev : Nat → Nat → Nat
  | 0, _ => 0
  | n + 1, i => i % 2 * 2 ^ n + bitrev n (i / 2)

/-- A 32-bit word of a buffer, by word index. -/
def Core.bufWord (k : Core) (t w : Nat) : Nat := readLE (k.buf t).data (4 * w) 4

/-- Write a run of 32-bit words of a buffer. -/
def Core.setBufWords (k : Core) (t w : Nat) (l : List Nat) : Core :=
  let b := k.buf t
  k.setBuf t { b with data := writeBytes b.data (4 * w) (l.flatMap (leBytes 4)) }

end Sys2Proof.Machine
end

