-- ==== Sys2Proof/Machine/Lme.lean ====
section
/-! DEFINITION. The limb matrix engine (chapter 4): tile layouts, LMM and its variants, TCFG, TZERO, TMOVE. -/

namespace Sys2Proof.Machine

/-! ### Layouts (R94 to R97) -/

/-- Stored width of a format in an A tile in bits (R94); 0 for a format an A tile does not hold. -/
def storedWidth (f : Nat) : Nat :=
  if (1 ≤ f ∧ f ≤ 5) ∨ f = 0x10 then 4
  else if (6 ≤ f ∧ f ≤ 9) ∨ (0x11 ≤ f ∧ f ≤ 0x14) then 8
  else if f = 0x15 ∨ f = 0x16 then 16
  else if f = 0x17 ∨ f = 0x0A ∨ f = 0x20 then 32
  else 0

/-- Twice the digit slots of a format (Table 2-3). -/
def slots2 (f : Nat) : Nat :=
  if 1 ≤ f ∧ f ≤ 3 then 1
  else if f = 4 ∨ f = 5 ∨ (0x10 ≤ f ∧ f ≤ 0x12) then 2
  else if (6 ≤ f ∧ f ≤ 9) ∨ f = 0x13 ∨ f = 0x14 then 4
  else if f = 0x15 ∨ f = 0x16 then 8
  else 16

/-- Array rows of one K position of a B tile: max(1, b). -/
def bRows (f : Nat) : Nat := max 1 (slots2 f / 2)

/-- Tile and byte offset of element (m, k) of an A operand, with its bit offset in the byte (R94, R95). -/
def aPlace (t sw m k : Nat) : Nat × Nat × Nat :=
  if isPair t then
    let tl := (aTiles t).getD (k / 256) 0
    (tl, m * 32 * sw + k % 256 * sw / 8, if sw = 4 then k % 2 * 4 else 0)
  else (t, m * 64 * sw + k * sw / 8, if sw = 4 then k % 2 * 4 else 0)

/-- Code of element (m, k) of an A operand. -/
def Core.aElem (k : Core) (t sw m col : Nat) : Nat :=
  let (tl, off, sh) := aPlace t sw m col
  if sw = 4 then (Sparse.get 0 (k.tile tl).data off).toNat / 2 ^ sh % 16
  else readLE (k.tile tl).data off (sw / 8)

/-- Write the code of element (m, k) of an A operand. -/
def Core.setAElem (k : Core) (t sw m col v : Nat) : Core :=
  let (tl, off, sh) := aPlace t sw m col
  k.modTile tl (fun x =>
    if sw = 4 then
      let b := (Sparse.get 0 x.data off).toNat
      let b' := if sh = 0 then b / 16 * 16 + v % 16 else b % 16 + v % 16 * 16
      { x with data := Sparse.set 0 x.data off (BitVec.ofNat 8 b') }
    else { x with data := writeBytes x.data off (leBytes (sw / 8) v) })

/-- The attribute and significand that the decoder gives an element (R39, R96). -/
def bDecode (f v : Nat) : BAttr × Nat :=
  match decodeNum f v with
  | .fin neg m e => let (d, x) := foldExp f m e; (⟨neg, x, 0⟩, d)
  | .inf neg => (⟨neg, 0, 1⟩, 0)
  | .nan => (⟨false, 0, 2⟩, 0)

/-- Store element (k, n) of a B tile, decoded (R90, R92, R96). -/
def Tile.setB (x : Tile) (f col n v : Nat) : Tile :=
  let (a, d) := bDecode f v
  if slots2 f = 1 then
    let key := 512 * col + n % 512
    let old := Sparse.get BCell.zero x.cells key
    let c : BCell :=
      if n < 512 then ⟨BitVec.ofNat 4 (old.digit.toNat / 4 * 4 + d % 4), a, old.hi⟩
      else ⟨BitVec.ofNat 4 (old.digit.toNat % 4 + d % 4 * 4), old.lo, a⟩
    { x with cells := Sparse.set BCell.zero x.cells key c }
  else
    { x with cells := (List.range (bRows f)).foldl (fun m j =>
        Sparse.set BCell.zero m (512 * (bRows f * col + j) + n) ⟨BitVec.ofNat 4 (d / 16 ^ j % 16), a, a⟩) x.cells }

/-- The value that a B tile's cells hold at (k, n) under a format. -/
def Tile.bValue (x : Tile) (f col n : Nat) : Num :=
  let (a, d) :=
    if slots2 f = 1 then
      let c := Sparse.get BCell.zero x.cells (512 * col + n % 512)
      if n < 512 then (c.lo, c.digit.toNat % 4) else (c.hi, c.digit.toNat / 4)
    else
      ((Sparse.get BCell.zero x.cells (512 * (bRows f * col) + n)).lo,
        (List.range (bRows f)).foldl (fun d j =>
          d + (Sparse.get BCell.zero x.cells (512 * (bRows f * col + j) + n)).digit.toNat * 16 ^ j) 0)
  if a.special = 2 then .nan else if a.special = 1 then .inf a.neg else .fin a.neg d a.exp

/-- Bytes of one accumulator of a class. -/
def accBytes (w : Bool) : Nat := if w then 80 else 16

/-- Byte offset of view element (m, n) of a C tile (R97). -/
def cOff (w : Bool) (m n : Nat) : Nat :=
  if n < 512 then m * (if w then 40960 else 8192) + n * accBytes w
  else (m + if w then 8 else 64) * (if w then 40960 else 8192) + (n - 512) * accBytes w

/-- The accumulator at a byte offset: its value and status (R42). -/
def Tile.acc (x : Tile) (w : Bool) (off : Nat) : Nat × BitVec 3 :=
  (readLE x.data off (accBytes w), Sparse.get 0 x.status off)

/-- Write an accumulator. -/
def Tile.setAcc (x : Tile) (w : Bool) (off v : Nat) (st : BitVec 3) : Tile :=
  { x with data := writeBytes x.data off (leBytes (accBytes w) v), status := Sparse.set 0 x.status off st }

/-- Write an exact sum into an accumulator; a sum beyond the class's range is a free value (R42, R118, log 10). -/
def State.putAcc (s : State) (c t : Nat) (w : Bool) (off : Nat) (v : Int) (st : BitVec 3) : State :=
  let n := accBits w
  if -(2 : Int) ^ (n - 1) + 3 ≤ v ∧ v < 2 ^ (n - 1) then
    s.modCore c (fun k => k.modTile t (fun x => x.setAcc w off (toBits n v) st))
  else
    let (s1, bytes) := s.freeBytes (accBytes w)
    s1.modCore c (fun k => k.modTile t (fun x => x.setAcc w off (leNat bytes) st))

/-- Empty every latch tagged with a tile or a pair that holds it (R109). -/
def Core.dropLatch (k : Core) (t : Nat) : Core :=
  k.modArch (fun a => { a with latches := a.latches.filter (fun l => !(l.operand == t || (aTiles l.operand).contains t)) })

/-- BMAG of column n (R115): the sum of magnitudes over the K positions the tile holds; unknown for a floating or RES32
format. It does not pass 16 bits for any weights a tile holds. -/
def Tile.bmagOf (x : Tile) (n : Nat) : BitVec 32 :=
  let f := x.fmt.toNat
  if fmtFloat f ∨ f = 0x20 then 0xFFFF
  else BitVec.ofNat 32 (min 0xFFFF ((List.range (512 / bRows f)).foldl (fun a k =>
    match x.bValue f k n with
    | .fin _ m _ => a + m
    | _ => a) 0))

/-- The BMAG of every column of a B tile. -/
def Core.bmags (k : Core) (t : Nat) : List (Nat × Nat × BitVec 32) :=
  (List.range 1024).map (fun n => (t, n, (k.tile t).bmagOf n))

/-! ### Shapes (Tables 4-5, 4-6) -/

/-- The tile is one of a declared pair (R112). -/
def Tile.paired (x : Tile) : Bool := match x.shape with | some p => p.pair | none => false

/-- A tile code names one tile of a declared pair alone (R112). -/
def Core.namedAlone (k : Core) (t : Nat) : Bool := isA t && (k.tile t).paired

/-- The declared rows and columns of a tile code: of a pair, only when the pair is declared. -/
def Core.declShape (k : Core) (t : Nat) : Option (Nat × Nat) :=
  match (k.tile ((aTiles t).headD t)).shape with
  | some p => if p.pair == isPair t then some (p.rows, p.cols) else none
  | none => none

/-- Rows that an A operand holds under a stored width (R94, R95). -/
def aRows (t sw : Nat) : Nat := if sw = 0 then 0 else (if isPair t then 2048 else 1024) / sw

/-- Rows that a C tile holds for N columns (Table 4-6). -/
def cRows (w : Bool) (n : Nat) : Nat := if w then (if n ≤ 512 then 16 else 8) else (if n ≤ 512 then 128 else 64)

/-- The A operand's FORMAT: that of its first tile. -/
def Core.fmtOf (k : Core) (t : Nat) : Nat := (k.tile ((aTiles t).headD t)).fmt.toNat

/-- The tiles of an A operand hold one FORMAT (R95). -/
def Core.sameFmt (k : Core) (t : Nat) : Bool :=
  match aTiles t with
  | [a, b] => (k.tile a).fmt == (k.tile b).fmt
  | _ => true

/-- Every tile of an operand has VALID 1. -/
def Core.tilesValid (k : Core) (t : Nat) : Bool :=
  if isPair t then (aTiles t).all (fun x => (k.tile x).valid) else (k.tile t).valid

/-! ### LMM -/

/-- The parameters of an LMM (Table 4-5). -/
structure LmmArgs where
  m : Nat
  kk : Nat
  n : Nat
  a0 : Nat
  k0 : Nat
  c0 : Nat
deriving DecidableEq, Repr

/-- A operand tile code. -/
def Op.aop (o : Op) : Nat := o.f 24 4
/-- B operand tile code. -/
def Op.bop (o : Op) : Nat := 0xC + o.f 23 1
/-- C operand tile code. -/
def Op.cop (o : Op) : Nat := 0xA + o.f 22 1

/-- The variant accepts the formats of A and B (Table 4-7). -/
def variantOk (opc fa fb : Nat) : Bool :=
  if opc = 0x40 then fmtLmm fa && fmtLmm fb && fa != 0x20 && fb != 0x20
  else fa == 0x20 &&
    (if opc = 0x41 then fb == 1 || fb == 2 || fb == 3
     else if opc = 0x42 then fb == 4 || fb == 5
     else if opc = 0x43 then decide (6 ≤ fb) && decide (fb ≤ 9)
     else fb == 0x20)

/-- The accumulation class of an LMM (R41). -/
def lmmClass (opc fa fb : Nat) : CClass := if opc ≠ 0x40 then .r else if fmtWide fa ∨ fmtWide fb then .w else .n

/-- K per pass (Table 4-1). -/
def kPerPass (fb : Nat) : Nat := if slots2 fb = 1 then 512 else 512 / (slots2 fb / 2)
/-- Row pairing applies (R90). -/
def rowPairs (fa fb : Nat) : Bool := slots2 fa == 1 && slots2 fb != 1
/-- Cycles per row group (Table 4-1). -/
def groupCycles (fa : Nat) : Nat := max 1 (slots2 fa / 2)

/-- The parameters of an LMM. `im` is the index's element count. R110 does not say what a declared-shape LMM does that names
an A, B or C tile which no TCFG has declared; that it faults with F_TILE_SHAPE, here none, is this model's DESIGN CHOICE
(log 58). -/
def Core.lmmArgs (k : Core) (o : Op) (declared : Bool) (im : Option Nat) : Option LmmArgs :=
  if declared then
    match k.declShape o.aop, k.declShape o.bop, k.declShape o.cop with
    | some a, some b, some _ => some ⟨im.getD a.1, a.2, b.2, 0, 0, o.f 4 7⟩
    | _, _, _ => none
  else some ⟨im.getD (o.x 48 10), o.x 28 10, o.x 8 11, o.x 38 10, o.x 19 9, o.x 1 7⟩

/-- The shape rules of an LMM (R111, R112). -/
def Core.lmmShapeOk (k : Core) (o : Op) (declared : Bool) (a : LmmArgs) (indexed : Bool) : Bool :=
  let fa := k.fmtOf o.aop
  let fb := k.fmtOf o.bop
  let cls := lmmClass o.code fa fb
  let w := cls == .w
  !k.namedAlone o.aop && decide ((k.tile o.cop).cls = cls) &&
  (indexed || decide (a.a0 + a.m ≤ aRows o.aop (storedWidth fa))) && decide (a.k0 + a.kk ≤ 512) &&
  decide (a.kk * bRows fb ≤ 512) && decide (a.n ≤ if slots2 fb = 1 then 1024 else 512) &&
  decide (a.c0 + a.m ≤ cRows w a.n) && decide (a.kk ≤ kPerPass fb) &&
  (!declared || (match k.declShape o.bop, k.declShape o.cop with
    | some b, some c => decide (b.1 = a.kk) && decide (a.n ≤ c.2)
    | _, _ => false))

/-- The runs that elements [k0, k0 + n) of rows of an A operand occupy. -/
def aRuns (t sw : Nat) (rows : List Nat) (k0 n : Nat) : List Range :=
  let q := sw / 4
  if n = 0 then [] else
    rows.flatMap (fun m =>
      if isPair t then
        (if k0 < 256 then [⟨(aTiles t).getD 0 0, (m * 256 + k0) * q, (m * 256 + min (k0 + n) 256) * q⟩] else []) ++
        (if 256 < k0 + n then [⟨(aTiles t).getD 1 0, (m * 256 + (max k0 256 - 256)) * q, (m * 256 + (k0 + n - 256)) * q⟩] else [])
      else [⟨t, (m * 512 + k0) * q, (m * 512 + k0 + n) * q⟩])

/-- The runs of B cells that the first `rows` array rows of the first `n` columns occupy; columns n and n + 512 share their
cells in column pairing (R90). -/
def bRuns (t rows n : Nat) : List Range := (List.range rows).map (fun r => ⟨t, 512 * r, 512 * r + min n 512⟩)

/-- The runs that view rows [r0, r0 + m) and columns [c0, c0 + n) of a C tile occupy. -/
def cRuns (t : Nat) (w : Bool) (r0 m c0 n : Nat) : List Range :=
  (List.range m).flatMap (fun i =>
    (if c0 < 512 ∧ 0 < n then [bytesRun t (cOff w (r0 + i) c0) (cOff w (r0 + i) c0 + (min (c0 + n) 512 - c0) * accBytes w)] else []) ++
    (if 512 < c0 + n then [bytesRun t (cOff w (r0 + i) (max c0 512))
      (cOff w (r0 + i) (max c0 512) + (c0 + n - max c0 512) * accBytes w)] else []))

/-- An Index descriptor's element offsets in ascending order. -/
def Desc.offsets (d : Desc) : List Int := (List.range d.count).map (fun e => d.elemOff (coordsOf d.extents e))

/-- The walker's read of an index tensor for core `c` (R119, R349): each access checked by R24, each index against `limit`
(R87). The fault of the first that fails. -/
def State.walkIndex (c : Nat) (d : Desc) (limit : Nat) :
    List Int → List (Nat × EccFind) → State → State × Except (BitVec 8) (List (Option Nat))
  | [], _, s => (s, .ok [])
  | off :: r, found, s =>
    match s.checkAccess c d.module d.space off 4 with
    | some code => (s, .error code)
    | none =>
      let f := ((s.serving c).getD (0, 0)).1
      let spans := s.pieces f d.space off.toNat 4
      match s.readSpans (.pour f) found 0 c spans with
      | (s1, none) => (s1, .error fEcc)
      | (s1, some l) =>
        let v := leNat l
        if v ≠ 0xFFFFFFFF ∧ limit ≤ v then (s1, .error fWindow)
        else match State.walkIndex c d limit r (found.filter (fun e => spans.all (fun x => (s.eccIn [e] x.1 (x.1 + x.2)).isEmpty))) s1 with
          | (s2, .error e) => (s2, .error e)
          | (s2, .ok vs) => (s2, .ok ((if v = 0xFFFFFFFF then none else some v) :: vs))

/-- The rows that indices select, in order, up to the first that is not below the limit (R119, R347): null feeds a zero
row. `bad` is what ended the walker's read. -/
def rowsOf (limit : Nat) (bad : Option (BitVec 8)) : List Nat → Except (BitVec 8) (List (Option Nat))
  | [] => match bad with
    | some code => .error code
    | none => .ok []
  | v :: r =>
    if v ≠ 0xFFFFFFFF ∧ limit ≤ v then .error fWindow
    else (rowsOf limit bad r).map (fun l => (if v = 0xFFFFFFFF then none else some v) :: l)

/-- The rows that an LMM feeds: a0 up, or those that the indices which the walker has read select. -/
def State.lmmRows (s : State) (c : Nat) (e : QEnt) (a : LmmArgs) : Except (BitVec 8) (List (Option Nat)) :=
  let o := e.op
  let k := s.core c
  if o.f 21 1 = 1 then
    let limit := if s.declared c then ((k.declShape o.aop).map (·.1)).getD 0 else aRows o.aop (storedWidth (k.fmtOf o.aop))
    match k.walkFor e with
    | some w => rowsOf limit w.fault (w.got.map (·.1))
    | none => .ok []
  else .ok ((List.range a.m).map (fun i => some (a.a0 + i)))

/-- The cycle in which the last row group of an LMM has been fed (R121, R349): the first group takes `first` cycles to read,
each takes `per` to feed, and a group waits for its indices, `times` those of the arrivals group by group. -/
def fedAt (per : Nat) : Nat → List Nat → Nat
  | t, [] => t
  | t, w :: r => fedAt per (max t w + per) r

/-- The occupancy of an LMM that starts in cycle `start` (Table 4-8): F + G × c, extended by the waits for indices. -/
def State.lmmOcc (s : State) (c : Nat) (e : QEnt) (start first per groups step : Nat) : Nat :=
  match (s.core c).walkFor e with
  | none => first + groups * per
  | some w =>
    let arrived (g : Nat) : Nat := ((w.got.drop (g * step)).take step).foldl (fun t x => max t x.2) 0
    fedAt per (max start (arrived 0) + first) ((List.range groups).map arrived) - start

/-- The start checks of an LMM (R113) and its plan (R116, R121). Step 1 of R113 names checks 1 to 4 of Table 3-6, of which
the third gives F_DESC_ALIGN; Table 4-10 does not list it. That a misaligned index operand raises F_DESC_ALIGN is this
model's DESIGN CHOICE (log 59). -/
def lmmCheck (s : State) (c : Nat) (e : QEnt) : Except (BitVec 8) Plan :=
  let o := e.op
  let k := s.core c
  let d := k.indexDesc e
  let indexed := o.f 21 1 == 1
  let named : List Named := if indexed then [⟨d, 4, true, false⟩] else []
  match (if !named.all Named.kindOk then some fHandle
    else if !named.all (Named.formOk s) || (indexed && (d.imode != 2 || d.dim != 1)) then some fDescFormat
    else if !named.all Named.alignOk then some fDescAlign else none) with
  | some code => .error code
  | none =>
    let fa := k.fmtOf o.aop
    let fb := k.fmtOf o.bop
    if !(isA o.aop || isPair o.aop) || !variantOk o.code fa fb || !k.sameFmt o.aop then .error fDescFormat
    else match k.lmmArgs o (s.declared c) (if indexed then some d.count else none) with
      | none => .error fTileShape
      | some a =>
        if !k.lmmShapeOk o (s.declared c) a indexed then .error fTileShape
        else if !k.tilesValid o.aop || !(k.tile o.bop).valid || (o.f 28 1 == 1 && !(k.tile o.cop).valid) then
          .error fTileInvalid
        else if indexed && !d.empty && d.poison then .error fPoison
        else if a.m = 0 ∨ a.n = 0 then .ok Plan.nop
        else
          let sw := storedWidth fa
          let w := lmmClass o.code fa fb == .w
          let g := if rowPairs fa fb then ceilDiv a.m 2 else a.m
          let first := if rowPairs fa fb then min 2 a.m else 1
          let occ := s.lmmOcc c e (s.startCycle c 1 e) (max 1 (ceilDiv (first * a.kk * sw) 4096)) (groupCycles fa) g
            (if rowPairs fa fb then 2 else 1)
          let writes := cRuns o.cop w a.c0 a.m 0 a.n
          let bt := k.tile o.bop
          let add := o.f 28 1 == 1
          let mags := (List.range a.n).map (fun n =>
            let b := Sparse.get 0 bt.mag n
            (o.cop, n, if add = false ∧ b = 0xFFFF then 0xFFFFFFFF#32 else b))
          let (reads, abort) := match s.lmmRows c e a with
            | .ok l => (aRuns o.aop sw (l.filterMap id) a.k0 a.kk, none)
            | .error code => ([], some code)
          .ok { Plan.nop with
                occ := occ, lat := occ + (if w then 10 else 6),
                reads := reads ++ bRuns o.bop (a.kk * bRows fb) a.n,
                writes := writes, mags := mags, magAdd := add, cover := k.coveredTiles writes, abort := abort }

/-- The C runs of an LMM's results that depend on runs it reads: the rows that an A row feeds, and the columns of a B cell
(R123). -/
def lmmHit (c : Nat) (s : State) (e : QEnt) (h : List Range) : List Range :=
  let o := e.op
  let k := s.core c
  let fa := k.fmtOf o.aop
  let fb := k.fmtOf o.bop
  match k.lmmArgs o (s.declared c) (if o.f 21 1 = 1 then some (k.indexDesc e).count else none) with
  | none => []
  | some a =>
    let w := lmmClass o.code fa fb == .w
    let rows := match s.lmmRows c e a with | .ok l => l | .error _ => []
    (List.range rows.length).flatMap (fun i => match rows.getD i none with
      | some m => if commonRuns (aRuns o.aop (storedWidth fa) [m] a.k0 a.kk) h ≠ [] then cRuns o.cop w (a.c0 + i) 1 0 a.n else []
      | none => []) ++
    (List.range a.n).flatMap (fun n =>
      if h.any (fun r => r.buf == o.bop && decide ((n % 512 + 512 - r.lo % 512) % 512 < r.hi - r.lo)) then
        cRuns o.cop w a.c0 a.m n 1 else [])

/-- The exact sum of the products of one output, scaled by 2^sc, with the status of Table 2-4 (R42, R44, R92). -/
def dotProduct (sc : Int) : List (Num × Num) → Int × BitVec 3
  | [] => (0, 0)
  | (x, y) :: r =>
    let (v, st) := dotProduct sc r
    match numMul x y with
    | .fin neg m e => (v + scaleTo neg m e sc, st)
    | .inf neg => (v, st ||| (if neg then 4 else 2))
    | .nan => (v, st ||| 1)

/-- The scale of an accumulation class: 2^32, 2^298, or 1 in residue modes (R42). -/
def classScale (cl : CClass) : Int := match cl with | .n => 32 | .w => 298 | .r => 0

/-- The reuse latches after an LMM reads its row groups, with the reads it skipped (R108). The latch that was filled
longer ago is replaced (log 11). -/
def useLatches : List Latch → List Latch → List Latch × Nat
  | [], ls => (ls, 0)
  | g :: r, ls =>
    if ls.contains g then let (l, n) := useLatches r ls; (l, n + 1) else useLatches r ((g :: ls).take 2)

/-- The data effect of an LMM (R55, R92, R117): every output accumulator is the exact sum, added or in place. -/
def lmmAct (s : State) (c : Nat) (e : QEnt) : State :=
  let o := e.op
  let k := s.core c
  let d := k.indexDesc e
  match k.lmmArgs o (s.declared c) (if o.f 21 1 = 1 then some d.count else none) with
  | none => s
  | some a =>
    if a.m = 0 ∨ a.n = 0 then s else
    match s.lmmRows c e a with
    | .error _ => s
    | .ok rows =>
      let fa := k.fmtOf o.aop
      let fb := k.fmtOf o.bop
      let sw := storedWidth fa
      let cl := lmmClass o.code fa fb
      let w := cl == .w
      let step := if rowPairs fa fb then 2 else 1
      let tags := (List.range (ceilDiv rows.length step)).filterMap (fun g =>
        (rows.getD (g * step) none).map (fun m => (⟨o.aop, m, a.k0, BitVec.ofNat 8 fa, a.kk⟩ : Latch)))
      let (ls, skipped) := useLatches tags k.arch.latches
      let s2 := s.modCore c (fun k => k.modArch (fun x => { x with latches := ls }))
      let s3 := (List.range skipped).foldl (fun s _ => s.coreEvent c 0x11) s2
      let bt := k.tile o.bop
      (List.range a.m).foldl (fun s i =>
        (List.range a.n).foldl (fun s n =>
          let pairs := match rows.getD i none with
            | some m => (List.range a.kk).map (fun q => (decodeNum fa (k.aElem o.aop sw m (a.k0 + q)), bt.bValue fb q n))
            | none => (List.range a.kk).map (fun q => (Num.fin false 0 0, bt.bValue fb q n))
          let (v, st) := dotProduct (classScale cl) pairs
          let off := cOff w (a.c0 + i) n
          let (old, ost) := (k.tile o.cop).acc w off
          if o.f 28 1 = 1 then s.putAcc c o.cop w off (signed (accBits w) old + v) (ost ||| st)
          else s.putAcc c o.cop w off v st) s) s3

/-! ### TCFG, TZERO, TMOVE (R112, R326, R327) -/

/-- REG of TCFG and TZERO. -/
def Op.reg (o : Op) : Nat := o.f 25 4

/-- A code that TCFG, TZERO and TMOVE accept. -/
def lmeReg (t : Nat) : Bool := decide (4 ≤ t) && decide (t ≤ 0xD)

/-- The tiles that a code names. -/
def tilesOf (t : Nat) : List Nat := if isPair t then aTiles t else [t]

/-- The class that a code of TCFG or TZERO names. -/
def classOfCode (v : Nat) : Option CClass := match v with | 0 => some .n | 1 => some .r | 2 => some .w | _ => none

/-- A declaration meets Table 4-6 (R112). -/
def declOk (t fmt rows cols : Nat) : Bool :=
  if isC t then
    match classOfCode fmt with
    | some cl => decide (cols ≤ 1024) && decide (rows ≤ cRows (cl == .w) cols)
    | none => false
  else if isB t then
    fmtLmm fmt && decide (rows * bRows fmt ≤ 512) && decide (cols ≤ if slots2 fmt = 1 then 1024 else 512)
  else fmtLmm fmt && decide (rows ≤ aRows t (storedWidth fmt)) && decide (cols ≤ 512)

/-- TCFG start checks. -/
def tcfgCheck (s : State) (c : Nat) (e : QEnt) : Except (BitVec 8) Plan :=
  let o := e.op
  if !lmeReg o.reg then .error fDescFormat
  else if !s.declared c || !declOk o.reg (o.f 17 8) (o.x 11 10) (o.x 0 11) then .error fTileShape
  else .ok Plan.nop

/-- TCFG: FORMAT or CLASS, ROWS and COLS of a register (R112); a change of FORMAT or CLASS clears VALID (R100). Both latches
empty (R109). A pair ends when one of its tiles is declared alone. -/
def tcfgAct (s : State) (c : Nat) (e : QEnt) : State :=
  let o := e.op
  let t := o.reg
  let fmt := o.f 17 8
  let sh : Shape := ⟨o.x 11 10, o.x 0 11, isPair t⟩
  s.modCore c (fun k =>
    let k0 := k.modArch (fun a => { a with latches := [] })
    let other := if isA t ∧ (k.tile t).paired then [if t % 2 = 0 then t + 1 else t - 1] else []
    let k1 := other.foldl (fun k u => k.modTile u (fun x => { x with shape := none })) k0
    (tilesOf t).foldl (fun k u => k.modTile u (fun x =>
      if isC t then
        let cl := (classOfCode fmt).getD .n
        { x with cls := cl, shape := some sh, valid := x.valid && x.cls == cl }
      else { x with fmt := BitVec.ofNat 8 fmt, shape := some sh, valid := x.valid && x.fmt == BitVec.ofNat 8 fmt })) k1)

/-- The whole of a tile as a run. -/
def wholeTile (t : Nat) : Range := bytesRun t 0 (tileBytes t)

/-- TZERO start checks (R98, R112, R326). -/
def tzeroCheck (s : State) (c : Nat) (e : QEnt) : Except (BitVec 8) Plan :=
  let o := e.op
  let t := o.reg
  let k := s.core c
  if !lmeReg t || (isC t && o.f 23 2 == 3) then .error fDescFormat
  else if k.namedAlone t then .error fTileShape
  else if isC t && s.declared c && (k.tile t).shape.isSome && decide (classOfCode (o.f 23 2) ≠ some (k.tile t).cls) then
    .error fTileShape
  else .ok { Plan.nop with
    lat := if isC t then 3 else 2, writes := (tilesOf t).map wholeTile, cover := tilesOf t,
    mags := if isC t ∨ isB t then (List.range 1024).map (fun n =>
      (t, n, if isB t ∧ (fmtFloat (k.fmtOf t) ∨ k.fmtOf t = 0x20) then 0xFFFF#32 else 0#32)) else [] }

/-- TZERO: the register holds zeros (R326). -/
def tzeroAct (s : State) (c : Nat) (e : QEnt) : State :=
  let o := e.op
  let t := o.reg
  s.modCore c (fun k => (tilesOf t).foldl (fun k u =>
    (k.modTile u (fun x => { x with data := [], cells := [], status := [],
                                    cls := if isC t then (classOfCode (o.f 23 2)).getD x.cls else x.cls })).dropLatch u) k)

/-- Lines of a register (R327). -/
def linesOf (t : Nat) : Nat := tileBytes t / 512

/-- The runs that lines [l, l + n) of a register occupy; a pair is one register, the even tile first (R327). -/
def lineRuns (t l n : Nat) : List Range :=
  if n = 0 then []
  else if isPair t then
    (if l < 128 then [bytesRun ((aTiles t).getD 0 0) (l * 512) (min (l + n) 128 * 512)] else []) ++
    (if 128 < l + n then [bytesRun ((aTiles t).getD 1 0) ((max l 128 - 128) * 512) ((l + n - 128) * 512)] else [])
  else [bytesRun t (l * 512) ((l + n) * 512)]

/-- The view columns of the elements that bytes [lo, hi) of a C tile touch (R97, R116); the last 384 KiB of a wide tile hold
none. -/
def touchedCols (w : Bool) (lo hi : Nat) : List Nat :=
  let es := accBytes w
  let top := min (ceilDiv hi es) (if w then 8192 else 65536)
  ((List.range (top - lo / es)).map (fun j =>
    let el := lo / es + j
    el % 512 + (if el / 512 < (if w then 8 else 64) then 0 else 512))).dedup

/-- TMOVE start checks (R121, R327). -/
def tmoveCheck (s : State) (c : Nat) (e : QEnt) : Except (BitVec 8) Plan :=
  let o := e.op
  let k := s.core c
  let dr := o.f 25 4
  let sr := o.f 21 4
  let nl := o.x 22 12
  let sl := o.x 11 11
  let dl := o.x 0 11
  let kind (t : Nat) : Nat := if isC t then 2 else if isB t then 1 else 0
  if !lmeReg dr || !lmeReg sr then .error fDescFormat
  else if k.namedAlone dr || k.namedAlone sr || !k.sameFmt dr || !k.sameFmt sr || decide (kind dr ≠ kind sr) then .error fTileShape
  else if (if isC dr then decide ((k.tile dr).cls ≠ (k.tile sr).cls) else k.fmtOf dr != k.fmtOf sr) then .error fTileShape
  else if linesOf sr < sl + nl ∨ linesOf dr < dl + nl then .error fTileShape
  else if (lineRuns sr sl nl).any (fun a => (lineRuns dr dl nl).any (fun b => a.meets b)) then .error fTileShape
  else if !k.tilesValid sr then .error fTileInvalid
  else if nl = 0 then .ok Plan.nop
  else
    let w := (k.tile dr).cls == .w
    .ok { Plan.nop with
      occ := 2 * nl, lat := 2 * nl + 2, reads := lineRuns sr sl nl, writes := lineRuns dr dl nl,
      mags := if isC dr then (touchedCols w (512 * dl) (512 * (dl + nl))).map (fun n => (dr, n, 0xFFFFFFFF#32)) else [],
      cover := k.coveredTiles (lineRuns dr dl nl) }

/-- The lines of a TMOVE's destination that take runs of its source (R123). -/
def tmoveHit (o : Op) (h : List Range) : List Range :=
  let dr := o.f 25 4
  let sr := o.f 21 4
  (List.range (o.x 22 12)).flatMap (fun j =>
    (lineRuns sr (o.x 11 11 + j) 1).flatMap (fun a => (lineRuns dr (o.x 0 11 + j) 1).flatMap (fun b =>
      (commonRuns [a] h).map (fun r => ⟨b.buf, b.lo + (r.lo - a.lo), b.lo + (r.hi - a.lo)⟩))))

/-- The place of byte `b` of a register's lines: tile and byte offset. -/
def linePlace (t b : Nat) : Nat × Nat :=
  if isPair t then ((aTiles t).getD (b / 0x10000) 0, b % 0x10000) else (t, b)

/-- TMOVE: the bytes of whole lines move as they lie; status bits move with an accumulator's first byte, attributes with
their cell (R327). -/
def tmoveAct (s : State) (c : Nat) (e : QEnt) : State :=
  let o := e.op
  let k := s.core c
  let dr := o.f 25 4
  let sr := o.f 21 4
  let n := 512 * o.x 22 12
  let so := 512 * o.x 11 11
  let dst := 512 * o.x 0 11
  if n = 0 then s
  else if isB dr then
    s.modCore c (fun k2 => k2.modTile dr (fun x => { x with
      cells := (List.range (2 * n)).foldl (fun m i =>
        Sparse.set BCell.zero m (2 * dst + i) (Sparse.get BCell.zero (k.tile sr).cells (2 * so + i))) x.cells }))
  else
    let es := if (k.tile dr).cls = .w then 80 else 16
    let moved := (List.range n).foldl (fun k2 i =>
      let (st, sb) := linePlace sr (so + i)
      let (dt, db) := linePlace dr (dst + i)
      k2.modTile dt (fun x =>
        let src := k.tile st
        { x with
          data := Sparse.set 0 x.data db (Sparse.get 0 src.data sb)
          status := if isC dr ∧ sb % es = 0 then
              Sparse.set 0 x.status (db / es * es) (Sparse.get 0 src.status sb) else x.status })) k
    s.setCore c ((lineRuns dr (o.x 0 11) (o.x 22 12)).foldl (fun k r => k.dropLatch r.buf) moved)

/-! ### The engine's rows -/

/-- The start checks of an LME instruction. -/
def lmeCheck (c : Nat) (s : State) (e : QEnt) : Except (BitVec 8) Plan :=
  if e.op.code = 0x48 then tcfgCheck s c e else if e.op.code = 0x49 then tzeroCheck s c e
  else if e.op.code = 0x4A then tmoveCheck s c e else lmmCheck s c e

/-- The results of an LME instruction that depend on runs it reads. -/
def lmeHit (c : Nat) (s : State) (e : QEnt) (h : List Range) : List Range :=
  if e.op.code = 0x4A then tmoveHit e.op h else if isLmm e.op then lmmHit c s e h else []

/-- The data effect of an LME instruction. -/
def lmeAct (c : Nat) (s : State) (e : QEnt) : State :=
  if e.op.code = 0x48 then tcfgAct s c e else if e.op.code = 0x49 then tzeroAct s c e
  else if e.op.code = 0x4A then tmoveAct s c e else lmmAct s c e

/-- An LME instruction that completes a write of a B tile leaves its BMAG (R115). -/
def State.refreshBmag (s : State) (c : Nat) (f : Option Flight) : State :=
  match f with
  | none => s
  | some f =>
    if f.ent.op.code = 0x4A ∧ isB (f.ent.op.f 25 4) ∧ f.writes ≠ [] ∧ f.abort = none then
      s.modCore c (fun k => (k.bmags (f.ent.op.f 25 4)).foldl (fun k m =>
        k.modTile m.1 (fun x => { x with mag := Sparse.set 0 x.mag m.2.1 m.2.2 })) k)
    else s

/-- LMM: enters the LME queue (R252, R324). -/
def execLmm (i : Ins) (s : State) : Host.Outcome State Fault Refusal := .next (s.issue ⟨0x40, i⟩ (fun s => s.enqueue ⟨0x40, i⟩))
/-- LMM.RES2. -/
def execLmmRes2 (i : Ins) (s : State) : Host.Outcome State Fault Refusal := .next (s.issue ⟨0x41, i⟩ (fun s => s.enqueue ⟨0x41, i⟩))
/-- LMM.RES4. -/
def execLmmRes4 (i : Ins) (s : State) : Host.Outcome State Fault Refusal := .next (s.issue ⟨0x42, i⟩ (fun s => s.enqueue ⟨0x42, i⟩))
/-- LMM.RES8. -/
def execLmmRes8 (i : Ins) (s : State) : Host.Outcome State Fault Refusal := .next (s.issue ⟨0x43, i⟩ (fun s => s.enqueue ⟨0x43, i⟩))
/-- LMM.RR. -/
def execLmmRr (i : Ins) (s : State) : Host.Outcome State Fault Refusal := .next (s.issue ⟨0x44, i⟩ (fun s => s.enqueue ⟨0x44, i⟩))
/-- TCFG. -/
def execTcfg (i : Ins) (s : State) : Host.Outcome State Fault Refusal := .next (s.issue ⟨0x48, i⟩ (fun s => s.enqueue ⟨0x48, i⟩))
/-- TZERO. -/
def execTzero (i : Ins) (s : State) : Host.Outcome State Fault Refusal := .next (s.issue ⟨0x49, i⟩ (fun s => s.enqueue ⟨0x49, i⟩))
/-- TMOVE. -/
def execTmove (i : Ins) (s : State) : Host.Outcome State Fault Refusal := .next (s.issue ⟨0x4A, i⟩ (fun s => s.enqueue ⟨0x4A, i⟩))

/-- LME_INSTRUCTION_COMPLETE (R124). -/
def execLmeInstructionComplete (c : Fin 64) (s : State) : Host.Outcome State Fault Refusal :=
  .next (if s.coreAlive c then (s.refreshBmag c (firstFlight (s.core c).lme.flights)).completeFlight c 1 else s)

/-- LME_ABORT (R126, R127): an LMM with an index operand whose walk failed aborts with the fault `code` that the walk found.
What the aborted LMM leaves in its rows is a free value. -/
def execLmeAbort (c : Fin 64) (code : BitVec 8) (s : State) : Host.Outcome State Fault Refusal :=
  .next (match firstFlight (s.core c).lme.flights with
    | none => s
    | some f =>
      if s.coreAlive c = true ∧ f.abort = some code then s.abortFlight c 1 f code true else s)

end Sys2Proof.Machine
end

