-- ==== Sys2Proof/Machine/Te.lean ====
section
/-! DEFINITION. The transform engine (chapter 6): NTT, INTT and AUTO. -/

namespace Sys2Proof.Machine

/-! ### Operands (Tables 6-2, 10-13) -/

/-- Source buffer of a TE instruction. -/
def Op.teSrc (o : Op) : Nat := 0xE + o.f 28 1
/-- Destination buffer: the other one for AUTO. -/
def Op.teDst (o : Op) : Nat := if o.code = 0x52 then 0xF - o.f 28 1 else o.teSrc
/-- First source slice. -/
def Op.s0 (o : Op) : Nat := o.f 23 5
/-- First destination slice. -/
def Op.d0 (o : Op) : Nat := if o.code = 0x52 then o.f 18 5 else o.s0
/-- Slice count. -/
def Op.ns (o : Op) : Nat := o.f 12 6
/-- CHAIN. -/
def Op.teChain (o : Op) : Nat := o.f 9 3
/-- Selector of slice j (R164). -/
def Op.selOf (o : Op) (j : Nat) : Nat := o.f 3 6 + j * o.f 2 1
/-- MD. -/
def Op.md (o : Op) : Bool := o.f 1 1 == 1

/-- The prime of slice j: through the source's rows with MD (R131, R164). -/
def tePrime (ch : Chain) (o : Op) (src : Desc) (j : Nat) : Option Nat :=
  if o.md then primeOfRow ch src (o.selOf j) else some (o.selOf j)

/-! ### Arithmetic (R154, R155, R170, R171) -/

/-- Root ψ of a prime: FL[1] of its root table taken out of Montgomery form (R161). -/
def Prime.psi (p : Prime) : Nat := redc (p.roots.getD 257 0) p.q

/-- NTT of a slice (R154): output i is Σ x[t] ρ^t with ρ = ψ^(2 br(i) + 1). -/
def nttWord (q psi logn : Nat) (x : List Nat) (i : Nat) : Nat :=
  let rho := powMod psi (2 * bitrev logn i + 1) q (logn + 2)
  (x.foldr (fun w acc => (w + rho * acc) % q) 0) % q

/-- INTT of a slice (R155), the inverse of NTT: x[t] = N^−1 Σ X[i] ρ_i^(−t). -/
def inttWord (q psi logn : Nat) (x : List Nat) (t : Nat) : Nat :=
  let inv := invMod psi q
  let n := 2 ^ logn
  let sum := (List.range n).foldl (fun a i =>
    (a + x.getD i 0 * powMod inv ((2 * bitrev logn i + 1) * t % (2 * n)) q (logn + 2)) % q) 0
  sum * invMod n q % q

/-- AUTO in the coefficient domain (R170): output position t takes x[i], negated when it wraps, with i × k ≡ t or t + N. -/
def autoCoeff (q n k : Nat) (x : List Nat) : List Nat :=
  (List.range n).map (fun t =>
    match (List.range n).find? (fun i => i * k % (2 * n) == t || i * k % (2 * n) == t + n) with
    | some i => if i * k % (2 * n) = t then x.getD i 0 else (q - x.getD i 0) % q
    | none => 0)

/-- AUTO in the NTT domain (R171): output i takes source br(j′). -/
def autoNtt (logn k : Nat) (x : List Nat) : List Nat :=
  let n := 2 ^ logn
  (List.range n).map (fun i =>
    let j := bitrev logn i
    let j' := ((2 * j + 1) * k % (2 * n) - 1) / 2
    x.getD (bitrev logn j') 0)

/-- The result of a TE instruction on one slice. -/
def teSlice (opc : Nat) (p : Prime) (logn k : Nat) (ntt : Bool) (x : List Nat) : List Nat :=
  if opc = 0x50 then (List.range (2 ^ logn)).map (nttWord p.q p.psi logn x)
  else if opc = 0x51 then (List.range (2 ^ logn)).map (inttWord p.q p.psi logn x)
  else if ntt then autoNtt logn k x else autoCoeff p.q (2 ^ logn) k x

/-! ### Start checks (R165 to R167) -/

/-- Words of slice s of a buffer. -/
def Core.slice (k : Core) (t logn s : Nat) : List Nat :=
  (List.range (2 ^ logn)).map (fun i => k.bufWord t (s * 2 ^ logn + i))

/-- The data domain of a TE instruction's source: true is the NTT domain. -/
def Op.teDomain (o : Op) (src : Desc) : Bool :=
  if o.md then src.domain else if o.code = 0x51 then true else if o.code = 0x50 then false else o.f 0 1 == 1

/-- T(N) (chapter 6, Timing). -/
def teTime (logn : Nat) : Nat := logn * (2 ^ logn / 1024 + 6)

/-- Occupancy and result latency (Table 6-4). -/
def teTiming (opc ns logn : Nat) : Nat × Nat :=
  if ns = 0 then (1, 1)
  else if opc = 0x52 then (ns * (2 ^ logn / 512 + 4) + 16, ns * (2 ^ logn / 512 + 4) + 24)
  else (ns * teTime logn + 30, ns * teTime logn + 42)

/-- The run of slices [s, s + ns) of a buffer. -/
def sliceRun (t logn s ns : Nat) : Range := bytesRun t (4 * 2 ^ logn * s) (4 * 2 ^ logn * (s + ns))

/-- The check value of a slice (R173): the sum of its words, or of their squares in the coefficient domain, mod q. -/
def checkValue (ntt : Bool) (q : Nat) (l : List Nat) : Nat := l.foldl (fun a w => (a + if ntt then w else w * w) % q) 0

/-- The prime of slice j of a TE instruction. -/
def teSlicePrime (ch : Chain) (o : Op) (src : Desc) (j : Nat) : Option Prime := (tePrime ch o src j).bind (fun i => ch.primes[i]?)

/-- The fault that slice j of a TE instruction meets: a word not below its prime (R168), or, for AUTO, check values of the
words read and written that differ (R173). -/
def teSliceFault (k : Core) (ch : Chain) (o : Op) (src : Desc) (j : Nat) : Option (BitVec 8) :=
  match teSlicePrime ch o src j with
  | none => none
  | some p =>
    let x := k.slice o.teSrc ch.logn (o.s0 + j)
    let ntt := o.teDomain src
    if x.any (fun w => decide (p.q ≤ w)) then some fModulus
    else if o.code = 0x52 ∧ checkValue ntt p.q x ≠ checkValue ntt p.q (teSlice o.code p ch.logn (o.x 0 18) ntt x) then
      some fPermCheck
    else none

/-- The first slice of a TE instruction that meets a fault, and the fault. -/
def teFirstFault (k : Core) (ch : Chain) (o : Op) (src : Desc) : Option (Nat × BitVec 8) :=
  (List.range o.ns).findSome? (fun j => (teSliceFault k ch o src j).map (fun code => (j, code)))

/-- The start checks of a TE instruction (R167) and its plan. With a zero extent only checks 1 to 4 of Table 3-6 are made and
the instruction completes at once (Table 3-5, R78). -/
def teCheck (c : Nat) (s : State) (e : QEnt) : Except (BitVec 8) Plan :=
  let o := e.op
  let k := s.core c
  let src := k.desc (o.x 54 10)
  let dst := k.desc (o.x 44 10)
  let named : List Named := if o.md then [⟨src, 2, o.ns != 0, false⟩, ⟨dst, 2, false, true⟩] else []
  match descChecks s named with
  | some code => .error code
  | none =>
    if anyEmpty named then .ok Plan.nop
    else match s.chain o.teChain with
    | none => .error fDescFormat
    | some ch =>
      let n := 2 ^ ch.logn
      let gal := o.x 0 18
      if (List.range o.ns).any (fun j => decide (ch.l + ch.k ≤ o.selOf j)) then .error fDescFormat
      else if o.code = 0x52 ∧ (gal % 2 = 0 ∨ 2 * n ≤ gal) then .error fDescFormat
      else if o.md && (decide (dst.chain ≠ src.chain) || decide (dst.logn ≠ src.logn) || decide (dst.level ≠ src.level) ||
          decide (dst.extra ≠ src.extra) || decide (dst.npoly ≠ src.npoly) || decide (src.chain ≠ o.teChain)) then
        .error fDescFormat
      else if o.md && ((o.code == 0x50 && src.domain) || (o.code == 0x51 && !src.domain)) then .error fDomain
      else if o.ns = 0 then .ok Plan.nop
      else if o.md && (List.range o.ns).any (fun j => (primeOfRow ch src (o.selOf j)).isNone) then .error fLevel
      else
        let cap := 2 ^ (17 - ch.logn)
        let rd := sliceRun o.teSrc ch.logn o.s0 o.ns
        let wr := sliceRun o.teDst ch.logn o.d0 o.ns
        if cap < o.s0 + o.ns ∨ cap < o.d0 + o.ns then .error fTileShape
        else if !k.segsOk o.teSrc rd.lo rd.hi then .error fTileInvalid
        else if !k.primeLoaded o.teChain then .error fModulus
        else
          let bad := teFirstFault k ch o src
          let (occ, lat) := teTiming o.code o.ns ch.logn
          let plan : Plan := { Plan.nop with
            occ := occ, lat := lat, reads := [rd], writes := [wr], abort := bad.map (·.2),
            abortAt := (bad.map (·.1)).getD 0 }
          if o.md then
            match s.noiseCheck c ch.noiseLimit src.noise [src] with
            | .error code => .error code
            | .ok (unrel, breach) =>
              let dom := if o.code = 0x50 then true else if o.code = 0x51 then false else src.domain
              .ok { plan with slot := some (o.x 44 10), breach := breach,
                              md := some ⟨src.noise, src.scale, BitVec.ofNat 64 src.ksid, dom, unrel⟩ }
          else .ok plan

/-- The data effect of a TE instruction: every destination slice, unless a word of its source is not below its prime; then
the abort leaves free values (R168). -/
def teAct (c : Nat) (s : State) (e : QEnt) : State :=
  let o := e.op
  let k := s.core c
  let src := k.desc (o.x 54 10)
  match teCheck c s e, s.chain o.teChain with
  | .ok p, some ch =>
    if p.abort.isSome ∨ p.writes = [] then s
    else s.setCore c ((List.range o.ns).foldl (fun k2 j =>
      match teSlicePrime ch o src j with
      | some pr =>
        k2.setBufWords o.teDst ((o.d0 + j) * 2 ^ ch.logn)
          (teSlice o.code pr ch.logn (o.x 0 18) (o.teDomain src) (k.slice o.teSrc ch.logn (o.s0 + j)))
      | none => k2) k)
  | _, _ => s

/-- The destination words of a TE instruction that depend on runs it reads (R177): of NTT and INTT the whole slice, of AUTO
the words to which the words read go. -/
def teHit (c : Nat) (s : State) (e : QEnt) (h : List Range) : List Range :=
  let o := e.op
  match s.chain o.teChain with
  | none => []
  | some ch =>
    let n := 2 ^ ch.logn
    (List.range o.ns).flatMap (fun j =>
      if commonRuns [sliceRun o.teSrc ch.logn (o.s0 + j) 1] h = [] then []
      else if o.code ≠ 0x52 then [sliceRun o.teDst ch.logn (o.d0 + j) 1]
      else
        let word (i : Nat) : Range := bytesRun o.teSrc (4 * ((o.s0 + j) * n + i)) (4 * ((o.s0 + j) * n + i + 1))
        let marks := (List.range n).map (fun i => if h.any (fun r => r.meets (word i)) then 1 else 0)
        let moved := if o.teDomain ((s.core c).desc (o.x 54 10)) then autoNtt ch.logn (o.x 0 18) marks
          else autoCoeff 2 n (o.x 0 18) marks
        (List.range n).filterMap (fun i =>
          if moved.getD i 0 = 0 then none
          else some (bytesRun o.teDst (4 * ((o.d0 + j) * n + i)) (4 * ((o.d0 + j) * n + i + 1)))))

/-! ### Rows -/

/-- NTT: enters the TE queue (R252, R328). -/
def execNtt (i : Ins) (s : State) : Host.Outcome State Fault Refusal := .next (s.issue ⟨0x50, i⟩ (fun s => s.enqueue ⟨0x50, i⟩))
/-- INTT. -/
def execIntt (i : Ins) (s : State) : Host.Outcome State Fault Refusal := .next (s.issue ⟨0x51, i⟩ (fun s => s.enqueue ⟨0x51, i⟩))
/-- AUTO. -/
def execAuto (i : Ins) (s : State) : Host.Outcome State Fault Refusal := .next (s.issue ⟨0x52, i⟩ (fun s => s.enqueue ⟨0x52, i⟩))

/-- TE_INSTRUCTION_COMPLETE (R178). -/
def execTeInstructionComplete (c : Fin 64) (s : State) : Host.Outcome State Fault Refusal := .next (s.completeFlight c 2)

/-- A flight of the TE aborts with F_PERM_CHECK at slice j: the cocoon sets S_PERM_CHECK and captures the prime, chain, domain
and core (R173, R514). -/
def State.permAbort (s : State) (c : Nat) (f : Flight) (j : Nat) : State :=
  let o := f.ent.op
  let src : Desc := ⟨f.descs.headD []⟩
  let prime := match s.chain o.teChain with
    | some ch => (tePrime ch o src j).getD 0
    | none => 0
  ((s.setSticky sPermCheck).capturePerm prime o.teChain c (o.teDomain src)).abortFlight c 2 f fPermCheck true

/-- TE_ABORT (R168, R173): a word not below its prime, or an AUTO whose check values differ; `perm` names a slice in which an
error of the hardware made them differ. Slices are checked in order, and F_MODULUS takes precedence in its own slice. What
the aborted instruction leaves in its destination is a free value. -/
def execTeAbort (c : Fin 64) (perm : Option Nat) (s : State) : Host.Outcome State Fault Refusal :=
  .next (match firstFlight (s.core c).te.flights with
    | none => s
    | some f =>
      if s.coreAlive c = false then s
      else
        let hit := perm.filter (fun j => f.ent.op.code == 0x52 && decide (j < f.ent.op.ns))
        let own (code : BitVec 8) : State :=
          if code = fPermCheck then s.permAbort c f f.abortAt else s.abortFlight c 2 f code true
        match f.abort, hit with
        | some code, none => own code
        | some code, some j => if f.abortAt ≤ j then own code else s.permAbort c f j
        | none, some j => s.permAbort c f j
        | none, none => s)

end Sys2Proof.Machine
end

