-- ==== Sys2Proof/Machine/Ve.lean ====
section
/-! DEFINITION. The vector engine (chapter 8): chains, streams, the reduction unit, the exponent histogram, VCHAIN, VRED,
VHIST, MRED and RESCALE. -/

namespace Sys2Proof.Machine

/-! ### Streams (R219 to R221, Table 8-5) -/

/-- TGT of a stream address word. -/
def sTgt (w : Nat) : Nat := w / 2 ^ 28 % 16
/-- MODE: 0 ELEM, 1 SLICE, 2 FIXED. -/
def sMode (w : Nat) : Nat := w / 2 ^ 26 % 4
/-- OFF. -/
def sOff (w : Nat) : Nat := w % 2 ^ 18
/-- A stream address word without reserved values. Table 8-5 calls bits [25:18] reserved and does not say what a nonzero value
does; that it faults with F_DESC_FORMAT, as the other reserved values of the word do, is this model's DESIGN CHOICE
(log 61). -/
def sOk (w : Nat) : Bool := decide (sTgt w ≤ 0xB) && decide (sMode w ≠ 3) && w / 2 ^ 18 % 256 == 0

/-- Bits that an element of format `f` occupies in target `t`. -/
def Core.strmBits (k : Core) (t f : Nat) : Nat :=
  if isC t then (if (k.tile t).cls = .w then 640 else 128) else if isV t then fmtWidth f else storedWidth f

/-- Elements that a target holds. -/
def Core.strmCap (k : Core) (t f : Nat) : Nat :=
  if isC t then (if (k.tile t).cls = .w then 8192 else 65536)
  else if k.strmBits t f = 0 then 0 else tileBytes t * 8 / k.strmBits t f

/-- Elements that a stream of a mode takes from its target for n elements, with slices of N. -/
def strmLen (mode n sl : Nat) : Nat := if mode = 0 then n else if mode = 1 then ceilDiv n sl else min n 1

/-- Position of element e of a stream (Table 8-5). -/
def strmPos (w e sl : Nat) : Nat :=
  sOff w + (if sMode w = 0 then e else if sMode w = 1 then e / sl else 0)

/-- The runs that elements [a, b) of a target occupy. -/
def Core.strmRuns (k : Core) (t f a b : Nat) : List Range :=
  let w := k.strmBits t f / 4
  if b ≤ a then []
  else if isPair t then
    let lin (h x : Nat) : Nat := x / 512 * 256 + (if h = 0 then min (x % 512) 256 else x % 512 - 256)
    [0, 1].filterMap (fun h =>
      let lo := lin h a
      let hi := lin h b
      if hi ≤ lo then none else some ⟨(aTiles t).getD h 0, lo * w, hi * w⟩)
  else [⟨t, a * w, b * w⟩]

/-- Code of element `el` of a target. -/
def Core.strmElem (k : Core) (t f el : Nat) : Nat :=
  if isV t then readLE (k.buf t).data (el * fmtBytes f) (fmtBytes f)
  else k.aElem t (storedWidth f) (el / 512) (el % 512)

/-- The accumulator at element `el` of a C tile: value and status. -/
def Core.strmAcc (k : Core) (t el : Nat) : Nat × BitVec 3 :=
  let w := decide ((k.tile t).cls = .w)
  (k.tile t).acc w (el * accBytes w)

/-- Write the code of element `el` of a V buffer or an A tile; the written A tile empties its latches (R109). -/
def Core.setStrm (k : Core) (t f el v : Nat) : Core :=
  if isV t then
    let b := k.buf t
    k.setBuf t { b with data := writeBytes b.data (el * fmtBytes f) (leBytes (fmtBytes f) v) }
  else (k.setAElem t (storedWidth f) (el / 512) (el % 512) v).dropLatch (aPlace t (storedWidth f) (el / 512) (el % 512)).1

/-- Write a value into element `el` of a C tile exactly (R220). -/
def Core.setStrmAcc (k : Core) (t el : Nat) (x : Num) : Core :=
  let w := decide ((k.tile t).cls = .w)
  let off := el * accBytes w
  (match x with
    | .fin neg m e => k.modTile t (fun y => y.setAcc w off (toBits (accBits w) (scaleTo neg m e (if w then 298 else 32))) 0)
    | .inf neg => k.modTile t (fun y => y.setAcc w off 0 (if neg then 4 else 2))
    | .nan => k.modTile t (fun y => y.setAcc w off 0 1)).dropLatch t

/-- Tiles and segments that elements [a, b) of a target lie in are valid. -/
def Core.strmValid (k : Core) (t f a b : Nat) : Bool :=
  if isV t then (k.strmRuns t f a b).all (fun r => k.segsOk t (r.lo / 2) (r.hi / 2)) else k.tilesValid t

/-! ### Chain entries (R213 to R216, Tables 8-1 to 8-4) -/

/-- A chain table entry: 64 bytes. -/
structure VEntry where
  raw : List Byte
deriving DecidableEq, Repr

/-- Entry `e` of the chain table of a core. -/
def Core.ctEntry (k : Core) (e : Nat) : VEntry := ⟨readBytes k.arch.rcd.ctab (64 * e) 64⟩

/-- STAGEi. -/
def VEntry.stage (v : VEntry) (i : Nat) : Nat := leAt v.raw (4 * i) 4
/-- Kj. -/
def VEntry.konst (v : VEntry) (j : Nat) : Nat := leAt v.raw (32 + 4 * j) 4
/-- IFMTj. -/
def VEntry.ifmt (v : VEntry) (j : Nat) : Nat := leAt v.raw (48 + j) 1
/-- OUTj. -/
def VEntry.out (v : VEntry) (j : Nat) : Nat := leAt v.raw (52 + 2 * j) 2
/-- NSTG. -/
def VEntry.nstg (v : VEntry) : Nat := leAt v.raw 58 1 % 16
/-- CLASS. -/
def VEntry.cls (v : VEntry) : Nat := leAt v.raw 58 1 / 16
/-- RSEL. -/
def VEntry.rsel (v : VEntry) : Nat := leAt v.raw 59 1 % 32
/-- ROP. -/
def VEntry.rop (v : VEntry) : Nat := leAt v.raw 59 1 / 32
/-- ROUT. -/
def VEntry.rout (v : VEntry) : Nat := leAt v.raw 60 1
/-- RGRP. -/
def VEntry.rgrp (v : VEntry) : Nat := leAt v.raw 61 3

/-- EN of OUTj. -/
def VEntry.outEn (v : VEntry) (j : Nat) : Bool := v.out j / 128 % 2 == 1
/-- SEL of OUTj. -/
def VEntry.outSel (v : VEntry) (j : Nat) : Nat := v.out j % 32
/-- FMT of OUTj. -/
def VEntry.outFmt (v : VEntry) (j : Nat) : Nat := v.out j / 256
/-- OP of stage i. -/
def VEntry.opOf (v : VEntry) (i : Nat) : Nat := v.stage i / 2 ^ 24
/-- Operand selector `p` (0 X, 1 Y, 2 Z) of stage i. -/
def VEntry.selOf (v : VEntry) (i p : Nat) : Nat := v.stage i / 2 ^ (19 - 5 * p) % 32

/-- The type of a stream format (R216): 0 MOD, 1 FP, 2 INT. -/
def typeOfFmt (f : Nat) : Nat := if f = 0x20 then 0 else if fmtFloat f ∨ f = 0x30 ∨ f = 0x31 then 1 else 2

/-- A stage opcode (Table 8-4): operand count, operand type, result type, and whether it takes the multiplier. -/
def stageOp (op : Nat) : Option (Nat × Nat × Nat × Bool) :=
  match op with
  | 0x01 => some (2, 0, 0, false) | 0x02 => some (2, 0, 0, false) | 0x03 => some (1, 0, 0, false)
  | 0x04 => some (2, 0, 0, true) | 0x05 => some (3, 0, 0, true)
  | 0x10 => some (2, 1, 1, false) | 0x11 => some (2, 1, 1, false) | 0x12 => some (2, 1, 1, true)
  | 0x13 => some (3, 1, 1, true) | 0x14 => some (2, 1, 1, false) | 0x15 => some (2, 1, 1, false)
  | 0x16 => some (1, 1, 1, false) | 0x17 => some (1, 1, 1, false) | 0x18 => some (1, 1, 1, true)
  | 0x19 => some (1, 1, 1, true) | 0x1A => some (1, 1, 1, true) | 0x1B => some (3, 1, 1, false)
  | 0x1C => some (1, 1, 2, false) | 0x1D => some (1, 2, 1, false)
  | 0x20 => some (2, 2, 2, false) | 0x21 => some (2, 2, 2, false) | 0x22 => some (2, 2, 2, true)
  | 0x23 => some (2, 2, 2, false) | 0x24 => some (2, 2, 2, false) | 0x25 => some (2, 2, 2, false)
  | 0x26 => some (3, 2, 2, false)
  | _ => none

/-- The type that a selector has for a consumer that stands after `n` stages and gives constants the type `want`: none
for a reserved selector, an unused stream, or a stage that is not before it. R216 speaks of a stage that names a stage not
before it; that an output or RSEL which names a stage at or above NSTG faults alike is this model's DESIGN CHOICE
(log 62). -/
def VEntry.typeOf (v : VEntry) (n want sel : Nat) : Option Nat :=
  if sel < 4 then (if v.ifmt sel = 0 then none else some (typeOfFmt (v.ifmt sel)))
  else if 8 ≤ sel ∧ sel < 16 then
    (if sel - 8 < n then (stageOp (v.opOf (sel - 8))).map (·.2.2.1) else none)
  else if 0x10 ≤ sel ∧ sel ≤ 0x14 then some want
  else none

/-- Stage i names operands of the type its opcode requires, and its reserved bits are zero (R216). A selector in a field that
the opcode does not use, Y of MNEG or Z of MADD, is not looked at: the spec does not say whether a reserved value there
faults, and this is the model's DESIGN CHOICE (log 62). -/
def VEntry.stageOk (v : VEntry) (i : Nat) : Bool :=
  match stageOp (v.opOf i) with
  | none => false
  | some (n, ty, _, _) =>
    v.stage i % 512 == 0 && (List.range n).all (fun p => v.typeOf i ty (v.selOf i p) == some ty)

/-- The type that a constant takes at RSEL (R216). -/
def VEntry.redWant (v : VEntry) : Nat := if (v.rop = 1 ∨ v.rop = 2) ∧ v.rout = 0x0A then 2 else 1

/-- The type of the value reduced. -/
def VEntry.redType (v : VEntry) : Option Nat := v.typeOf v.nstg v.redWant v.rsel

/-- The entry's own encodings and types (R216, R227). -/
def VEntry.ok (v : VEntry) : Bool :=
  decide (v.nstg ≤ 8) && decide (v.cls ≤ 6) && (List.range v.nstg).all v.stageOk &&
  (List.range 3).all (fun j => !v.outEn j ||
    (v.out j / 32 % 4 == 0 && v.typeOf v.nstg (typeOfFmt (v.outFmt j)) (v.outSel j) == some (typeOfFmt (v.outFmt j)))) &&
  (v.rop == 0 || ((match v.redType with | some ty => ty != 0 | none => false) &&
    (decide (2 < v.rop) || v.rout == 0x17 || v.rout == 0x0A || v.rout == 0x31)))

/-- The entry handles residues: a stream, a stage or an output of type MOD. -/
def VEntry.modular (v : VEntry) : Bool :=
  (List.range 4).any (fun j => v.ifmt j == 0x20) || (List.range v.nstg).any (fun i => decide (v.opOf i ≤ 5)) ||
  (List.range 3).any (fun j => v.outEn j && v.outFmt j == 0x20)

/-! ### Stage arithmetic (R217, Table 8-4) -/

/-- FP32 value of a code. -/
def fpNum (v : Nat) : Num := decodeNum 0x17 v

/-- A value rounded once to FP32 (R217). -/
def fpRound (x : Num) : Nat := (encodeNum 0x17 x).1

/-- An INT32 value of a code. -/
def intOf (v : Nat) : Int := signed 32 v

/-- An integer result saturated to the INT32 range, with its count (R217). -/
def intSat (v : Int) : Nat × Nat :=
  let (c, s) := encodeNum 0x0A (.fin (decide (v < 0)) v.natAbs 0)
  (c, s.toNat)

/-- The FP32 code of a magnitude truncated toward zero, and whether it is exact. -/
def truncFp32 (m : Nat) (e : Int) : Nat × Bool :=
  if m = 0 then (0, true) else
    let x := e + Nat.log2 m
    let q : Int := max x (-126) - 23
    let sh := e - q
    let r := if 0 ≤ sh then m * 2 ^ sh.toNat else m / 2 ^ (-sh).toNat
    let ex := if 0 ≤ sh then true else m % 2 ^ (-sh).toNat == 0
    (if r < 2 ^ 23 then r else (q + 150).toNat * 2 ^ 23 + (r - 2 ^ 23), ex)

/-- A result within 1 ulp of the positive value m × 2^e, or just above it when `more` is set: one of the codes that R217
allows, which of them is free (log 4). -/
def within1 (op : Nat) (x : BitVec 32) (m : Nat) (e : Int) (more : Bool) : Nat :=
  let (lo, ex) := truncFp32 m e
  let exact := ex && !more
  let p := Config.fpPick op x % 3
  let c := if p = 0 then lo else if p = 1 then lo + 1 else if exact then lo - 1 else lo
  min c 0x7F800000

/-- 1 / X within 1 ulp (FRCP). -/
def fpRcp (v : Nat) : Nat :=
  match fpNum v with
  | .nan => canonNan 0x17
  | .inf neg => if neg then 2 ^ 31 else 0
  | .fin neg m e =>
    let sign := if neg then 2 ^ 31 else 0
    if m = 0 then sign + 0x7F800000
    else
      let k := Nat.log2 m + 32
      sign + within1 0x18 (BitVec.ofNat 32 v) (2 ^ k / m) (-e - k) (decide (2 ^ k % m ≠ 0))

/-- 1 / √X within 1 ulp (FRSQRT). The manual states no result for a zero (log 4). -/
def fpRsqrt (v : Nat) : Nat :=
  match fpNum v with
  | .nan => canonNan 0x17
  | .inf neg => if neg then canonNan 0x17 else 0
  | .fin neg m e =>
    if m = 0 then fpRound (fpNum (Config.fpOpen 0x19 (BitVec.ofNat 32 v)).toNat)
    else if neg then canonNan 0x17
    else
      let m2 := if e % 2 = 0 then m else 2 * m
      let e2 := if e % 2 = 0 then e else e - 1
      let k := Nat.log2 m2 + 32
      let r := Nat.sqrt (2 ^ (2 * k) / m2)
      within1 0x19 (BitVec.ofNat 32 v) r (-(e2 / 2) - k) (decide (r * r * m2 ≠ 2 ^ (2 * k)))

/-- 2^(j / 2^s) for j below 2^s, in units of 2^−192: the product of the roots 2^(1/2), 2^(1/4), … that the bits of j select,
each truncated. The truncation stays below 2^−180, which no FP32 operand needs finer (log 4). -/
def exp2Frac (s j : Nat) : Nat :=
  ((List.range s).foldl (fun (p : Nat × Nat) i =>
    let root := Nat.sqrt (p.1 * 2 ^ 192)
    (root, if j.testBit (s - 1 - i) then p.2 * root / 2 ^ 192 else p.2)) (2 ^ 193, 2 ^ 192)).2

/-- 2^X within 1 ulp (FEXP2). -/
def fpExp2 (v : Nat) : Nat :=
  match fpNum v with
  | .nan => canonNan 0x17
  | .inf neg => if neg then 0 else 0x7F800000
  | .fin neg m e =>
    let s := (-e).toNat
    let w : Int := (if neg then -1 else 1) * (m * 2 ^ e.toNat : Nat)
    let i := w / (2 ^ s : Int)
    let j := (w % (2 ^ s : Int)).toNat
    if 128 ≤ i then 0x7F800000
    else if i < -200 then within1 0x1A (BitVec.ofNat 32 v) 1 (-200) true
    else
      within1 0x1A (BitVec.ofNat 32 v) (exp2Frac s j / 2 ^ 169) (i - 23) (decide (j ≠ 0))

/-- The value is above zero. -/
def numPos (x : Num) : Bool :=
  match x with
  | .fin neg m _ => !neg && decide (m ≠ 0)
  | .inf neg => !neg
  | .nan => false

/-- The result of a stage under prime q, and how many saturations it counts. -/
def evalStage (q op x y z : Nat) : Nat × Nat :=
  match op with
  | 0x01 => ((x + y) % q, 0)
  | 0x02 => ((x + (q - y)) % q, 0)
  | 0x03 => ((q - x) % q, 0)
  | 0x04 => (montMul x y q, 0)
  | 0x05 => ((montMul x y q + z) % q, 0)
  | 0x10 => (fpRound (numAdd (fpNum x) (fpNum y)), 0)
  | 0x11 => (fpRound (numAdd (fpNum x) (numNeg (fpNum y))), 0)
  | 0x12 => (fpRound (numMul (fpNum x) (fpNum y)), 0)
  | 0x13 => (fpRound (numAdd (numMul (fpNum x) (fpNum y)) (fpNum z)), 0)
  | 0x14 => (fpRound (numMax (fpNum x) (fpNum y)), 0)
  | 0x15 => (fpRound (numMin (fpNum x) (fpNum y)), 0)
  | 0x16 => (fpRound (match fpNum x with | .fin _ m e => .fin false m e | .inf _ => .inf false | .nan => .nan), 0)
  | 0x17 => (fpRound (numNeg (fpNum x)), 0)
  | 0x18 => (fpRcp x, 0)
  | 0x19 => (fpRsqrt x, 0)
  | 0x1A => (fpExp2 x, 0)
  | 0x1B => (fpRound (if numPos (fpNum z) then fpNum x else fpNum y), 0)
  | 0x1C => let (c, s) := encodeNum 0x0A (fpNum x); (c, s.toNat)
  | 0x1D => let v := intOf x; (fpRound (.fin (decide (v < 0)) v.natAbs 0), 0)
  | 0x20 => intSat (intOf x + intOf y)
  | 0x21 => intSat (intOf x - intOf y)
  | 0x22 => intSat (intOf x * intOf y)
  | 0x23 => (if intOf x < intOf y then y else x, 0)
  | 0x24 => (if intOf y < intOf x then y else x, 0)
  | 0x25 =>
    let v := intOf x
    let r : Int := roundInt v.natAbs (-((y % 32 : Nat) : Int))
    (toBits 32 (if v < 0 then -r else r), 0)
  | 0x26 => (if 0 < intOf z then x else y, 0)
  | _ => (0, 0)

/-! ### Jobs: what a VCHAIN or VRED does -/

/-- A chain with its operands: the entry, n, the eight stream address words (I0 to I3, OUT0 to OUT2, reduction
destination), the chain whose primes it uses, SEL, STEP, and whether a C tile is read exactly (R231). -/
structure VJob where
  ent : VEntry
  n : Nat
  words : List Nat
  chain : Option Nat
  sel : Nat
  step : Nat
  exact : Bool
deriving DecidableEq, Repr

/-- Stream address word `i` of a job. -/
def VJob.word (j : VJob) (i : Nat) : Nat := j.words.getD i 0

/-- The chain whose primes and N a job uses. -/
def VJob.chainOf (j : VJob) (s : State) : Option Chain := j.chain.bind s.chain

/-- N of a job's chain; 1 without a chain, where nothing depends on it. -/
def VJob.slice (j : VJob) (s : State) : Nat := match j.chainOf s with | some ch => 2 ^ ch.logn | none => 1

/-- Input streams in use. -/
def VJob.ins (j : VJob) : List Nat := (List.range 4).filter (fun i => j.ent.ifmt i != 0)

/-- Output streams in use. -/
def VJob.outs (j : VJob) : List Nat := (List.range 3).filter j.ent.outEn

/-- A job needs its chain: for residues or for a slice length. -/
def VJob.needsChain (j : VJob) : Bool := j.ent.modular || j.ins.any (fun i => sMode (j.word i) == 1)

/-- The number of distinct selectors of n elements. -/
def VJob.slices (j : VJob) (s : State) : Nat := ceilDiv j.n (j.slice s)

/-- Selector of slice i (R222). -/
def VJob.selector (j : VJob) (i : Nat) : Nat := j.sel + i * j.step

/-- The prime of slice i, through the rows of SRC0 when the chain has metadata. -/
def VJob.primeOf (j : VJob) (ch : Chain) (src : Option Desc) (i : Nat) : Option Nat :=
  match src with
  | some d => primeOfRow ch d (j.selector i)
  | none => some (j.selector i)

/-- An input stream's target and format are allowed (R220). -/
def Core.inputOk (k : Core) (w f : Nat) : Bool :=
  let t := sTgt w
  sOk w && k.sameFmt t &&
  (if isC t then (match (k.tile t).cls with | .n => f == 0x30 | .w => f == 0x31 | .r => false)
   else fmtWidth f != 0 && f != 0x30 && f != 0x31 && f != 0x40 && (!fmtPlane f || !isV t))

/-- An output stream's target and format are allowed for a value of a type (R220). -/
def Core.outputOk (k : Core) (w f : Nat) : Bool :=
  let t := sTgt w
  sOk w && sMode w == 0 && k.sameFmt t &&
  (if isC t then (match (k.tile t).cls with | .n => f == 0x0A | .w => f == 0x17 | .r => false)
   else fmtWidth f != 0 && f != 0x30 && f != 0x31 && f != 0x40 && (!fmtPlane f || !isV t))

/-- Elements of a reduction group. -/
def VJob.groupLen (j : VJob) : Nat := if j.ent.rgrp = 0 then j.n else j.ent.rgrp
/-- Reduction groups. -/
def VJob.groups (j : VJob) : Nat := if j.ent.rop = 0 ∨ j.n = 0 then 0 else ceilDiv j.n j.groupLen
/-- Words of a result (Table 8-7). -/
def VEntry.resWords (v : VEntry) : Nat :=
  if v.rop = 0 then 0 else if v.rop ≤ 2 then (if v.rout = 0x31 then 20 else 1)
  else if v.rop = 4 ∨ v.rop = 5 then 1 else 2

/-- Step 2 of R241 for a chain: encodings, types, formats, count, chain and selectors. -/
def VJob.formatOk (j : VJob) (s : State) (k : Core) : Bool :=
  j.ent.ok && decide (j.n ≤ 262144) &&
  j.ins.all (fun i => k.inputOk (j.word i) (j.ent.ifmt i)) &&
  j.outs.all (fun i => k.outputOk (j.word (4 + i)) (j.ent.outFmt i)) &&
  (j.ent.rop == 0 || (sOk (j.word 7) && sMode (j.word 7) == 0 && !isC (sTgt (j.word 7)) && k.sameFmt (sTgt (j.word 7)))) &&
  (!j.needsChain || (match j.chainOf s with
    | some ch => !j.ent.modular || (List.range (j.slices s)).all (fun i => decide (j.selector i < ch.l + ch.k))
    | none => false))

/-- The job names one tile of a declared pair alone (R112). -/
def VJob.namedAlone (j : VJob) (k : Core) : Bool :=
  j.ins.any (fun i => k.namedAlone (sTgt (j.word i))) || j.outs.any (fun i => k.namedAlone (sTgt (j.word (4 + i)))) ||
  (j.ent.rop != 0 && k.namedAlone (sTgt (j.word 7)))

/-- Step 5 of R241: ranges and the shape rule of R112, then VALID, then primes. -/
def VJob.rangeCheck (j : VJob) (s : State) (k : Core) : Option (BitVec 8) :=
  let sl := j.slice s
  let inEnd (i : Nat) : Nat := sOff (j.word i) + strmLen (sMode (j.word i)) j.n sl
  if j.ins.any (fun i => decide (k.strmCap (sTgt (j.word i)) (j.ent.ifmt i) < inEnd i)) ||
      j.outs.any (fun i => decide (k.strmCap (sTgt (j.word (4 + i))) (j.ent.outFmt i) < sOff (j.word (4 + i)) + j.n)) ||
      (j.ent.rop != 0 && decide (k.strmCap (sTgt (j.word 7)) 0x17 < sOff (j.word 7) + j.groups * j.ent.resWords)) ||
      j.namedAlone k then
    some fTileShape
  else if j.ins.any (fun i => !k.strmValid (sTgt (j.word i)) (j.ent.ifmt i) (sOff (j.word i)) (inEnd i)) then some fTileInvalid
  else if j.ent.modular && !((j.chain.map k.primeLoaded).getD false) then some fModulus
  else none

/-- The runs that a job reads. -/
def VJob.reads (j : VJob) (s : State) (k : Core) : List Range :=
  j.ins.flatMap (fun i => k.strmRuns (sTgt (j.word i)) (j.ent.ifmt i) (sOff (j.word i))
    (sOff (j.word i) + strmLen (sMode (j.word i)) j.n (j.slice s)))

/-- The runs that output i of a job writes. -/
def VJob.outRuns (j : VJob) (k : Core) (i : Nat) : List Range :=
  k.strmRuns (sTgt (j.word (4 + i))) (j.ent.outFmt i) (sOff (j.word (4 + i))) (sOff (j.word (4 + i)) + j.n)

/-- The runs of a job's reduction results. -/
def VJob.redRuns (j : VJob) (k : Core) : List Range :=
  if j.ent.rop = 0 then [] else
    k.strmRuns (sTgt (j.word 7)) 0x17 (sOff (j.word 7)) (sOff (j.word 7) + j.groups * j.ent.resWords)

/-- The run of input stream i at element e. -/
def VJob.readRun (j : VJob) (sl : Nat) (k : Core) (i e : Nat) : List Range :=
  let p := strmPos (j.word i) e sl
  k.strmRuns (sTgt (j.word i)) (j.ent.ifmt i) p (p + 1)

/-- The run of output i at element e. -/
def VJob.writeRun (j : VJob) (k : Core) (i e : Nat) : List Range :=
  k.strmRuns (sTgt (j.word (4 + i))) (j.ent.outFmt i) (sOff (j.word (4 + i)) + e) (sOff (j.word (4 + i)) + e + 1)

/-- The runs of the results of reduction group g. -/
def VJob.groupRuns (j : VJob) (k : Core) (g : Nat) : List Range :=
  let p := sOff (j.word 7) + g * j.ent.resWords
  k.strmRuns (sTgt (j.word 7)) 0x17 p (p + j.ent.resWords)

/-- The runs that the histogram is armed for. -/
def Core.armedRuns (k : Core) : List Range :=
  match k.arch.hist.armed with
  | some (w, n, f) => k.strmRuns (sTgt w.toNat) f.toNat (sOff w.toNat) (sOff w.toNat + n)
  | none => []

/-- The bins of the histogram as a run. -/
def binRun : Range := bytesRun 16 0 1036

/-- The histogram's format. -/
def Core.armedFmt (k : Core) : Nat := match k.arch.hist.armed with | some (_, _, f) => f.toNat | none => 0

/-- The runs a job writes, the bins among them when it may count into the histogram (R236). -/
def VJob.writes (j : VJob) (k : Core) : List Range :=
  let w := j.outs.flatMap (j.outRuns k) ++ j.redRuns k
  let counts := j.outs.any (fun i => j.ent.outFmt i == k.armedFmt && commonRuns (j.outRuns k i) k.armedRuns != []) ||
    (k.armedFmt == 0x17 || k.armedFmt == 0x0A) && commonRuns (j.redRuns k) k.armedRuns != []
  w ++ (if counts then [binRun] else [])

/-- Parts of destinations whose values R77 and R221 leave unspecified: those that output element e shares with an input
element read at another index, and those that reduction results share with anything. -/
def VJob.clash (j : VJob) (s : State) (k : Core) : List Range :=
  let sl := j.slice s
  let inRuns (i : Nat) : List Range := k.strmRuns (sTgt (j.word i)) (j.ent.ifmt i) (sOff (j.word i))
    (sOff (j.word i) + strmLen (sMode (j.word i)) j.n sl)
  -- one stream in place of another: every element shares with its own index alone
  let same (i o : Nat) : Bool := sTgt (j.word i) == sTgt (j.word (4 + o)) && sOff (j.word i) == sOff (j.word (4 + o)) &&
    sMode (j.word i) == 0 && k.strmBits (sTgt (j.word i)) (j.ent.ifmt i) == k.strmBits (sTgt (j.word i)) (j.ent.outFmt o)
  j.ins.flatMap (fun i => j.outs.flatMap (fun o =>
    if same i o || commonRuns (inRuns i) (j.outRuns k o) == [] then []
    else (List.range j.n).flatMap (fun e => (List.range j.n).flatMap (fun d =>
      if d = e then [] else commonRuns (j.writeRun k o e) (j.readRun sl k i d))))) ++
  commonRuns (j.redRuns k) (j.ins.flatMap inRuns ++ j.outs.flatMap (j.outRuns k))

/-- Input streams on which the results of the first `n` stages depend, stage by stage. -/
def VEntry.stageDeps (v : VEntry) (n : Nat) : List (List Nat) :=
  (List.range n).foldl (fun a i =>
    let ops := match stageOp (v.opOf i) with | some (m, _, _, _) => m | none => 0
    a ++ [(List.range ops).flatMap (fun p =>
      let x := v.selOf i p
      if x < 4 then [x] else if x < 16 then a.getD (x - 8) [] else [])]) []

/-- Input streams on which the value of a selector depends. -/
def VEntry.deps (v : VEntry) (sel : Nat) : List Nat :=
  if sel < 4 then [sel] else if sel < 16 then (v.stageDeps v.nstg).getD (sel - 8) [] else []

/-- The results of a job that depend on runs it reads (R237): outputs element by element, groups of the reduction, and the
bins, when a counted output is among them. -/
def VJob.hit (j : VJob) (s : State) (k : Core) (h : List Range) : List Range :=
  let sl := j.slice s
  let bad (ds : List Nat) (e : Nat) : Bool := ds.any (fun i => j.ent.ifmt i != 0 && commonRuns (j.readRun sl k i e) h != [])
  let outs := j.outs.flatMap (fun o => (List.range j.n).flatMap (fun e =>
    if bad (j.ent.deps (j.ent.outSel o)) e then (j.writeRun k o e).map (fun r => (j.ent.outFmt o, r)) else []))
  let reds := (List.range j.groups).flatMap (fun g =>
    if (List.range (min j.groupLen (j.n - g * j.groupLen))).any (fun i => bad (j.ent.deps j.ent.rsel) (g * j.groupLen + i)) then
      (j.groupRuns k g).map (fun r => (if j.ent.redType = some 2 then 0x0A else 0x17, r)) else [])
  let hits := outs ++ reds
  hits.map (·.2) ++
    (if hits.any (fun x => x.1 == k.armedFmt && commonRuns [x.2] k.armedRuns != []) then [binRun] else [])

/-! ### Elements -/

/-- An input value in the lane: its code, its exact value for the reduction unit, and its conversion's saturations. -/
def VJob.input (j : VJob) (sl : Nat) (k : Core) (i e : Nat) : Nat × Num × Nat :=
  let w := j.word i
  let t := sTgt w
  let f := j.ent.ifmt i
  let el := strmPos w e sl
  if isC t then
    let (v, st) := k.strmAcc t el
    let x := accNum (decide ((k.tile t).cls = .w)) v st
    let (c, sat) := encodeNum 0x17 x
    (c, x, if j.exact then 0 else sat.toNat)
  else
    let c := k.strmElem t f el
    if f = 0x20 then (c, .fin false c 0, 0)
    else if fmtFloat f then (fpRound (decodeNum f c), decodeNum f c, 0)
    else ((encodeNum 0x0A (decodeNum f c)).1, decodeNum f c, 0)

/-- The value a selector names, from the inputs, stage results and constants of an element. -/
def VEntry.pick (v : VEntry) (ins ts : List Nat) (sel : Nat) : Nat :=
  if sel < 4 then ins.getD sel 0
  else if sel < 16 then ts.getD (sel - 8) 0
  else if sel < 0x14 then v.konst (sel - 0x10)
  else 0

/-- Run the stages on an element: the stage results and the saturations counted. -/
def VEntry.run (v : VEntry) (q : Nat) (ins : List Nat) : List Nat × Nat :=
  (List.range v.nstg).foldl (fun (a : List Nat × Nat) i =>
    let p (o : Nat) : Nat := v.pick ins a.1 (v.selOf i o)
    let (r, s) := evalStage q (v.opOf i) (p 0) (p 1) (p 2)
    (a.1 ++ [r], a.2 + s)) ([], 0)

/-- The constants that the entry uses as residues: named by a modular stage or by a RES32 output. -/
def VEntry.modKonsts (v : VEntry) : List Nat :=
  let sels := (List.range v.nstg).flatMap (fun i =>
      match stageOp (v.opOf i) with
      | some (n, 0, _, _) => (List.range n).map (v.selOf i)
      | _ => []) ++
    ((List.range 3).filter (fun j => v.outEn j && v.outFmt j == 0x20)).map v.outSel
  sels.filterMap (fun x => if 0x10 ≤ x ∧ x < 0x14 then some (v.konst (x - 0x10)) else none)

/-- A residue that the element reads is not below its prime (R218). -/
def VJob.badElem (j : VJob) (sl : Nat) (k : Core) (q e : Nat) : Bool :=
  j.ins.any (fun i => j.ent.ifmt i == 0x20 && decide (q ≤ (j.input sl k i e).1)) ||
  j.ent.modKonsts.any (fun v => decide (q ≤ v))

/-- The histogram bin of a written code (Table 8-8). -/
def histBin (f c : Nat) : Nat :=
  if fmtFloat f then
    let (t, eb, _) := floatParams f
    match decodeNum f c with
    | .nan => 258
    | .inf _ => 257
    | .fin _ m _ =>
      let e := c / 2 ^ t % 2 ^ eb
      if m = 0 then 0 else if e = 0 then 256 else e
  else
    match decodeNum f c with
    | .fin _ m _ => if m = 0 then 0 else Nat.log2 m + 1
    | _ => 0

/-- Element `el` of a target lies in the armed range, and its format is the armed one. -/
def Core.armedAt (k : Core) (t f el : Nat) : Bool :=
  match k.arch.hist.armed with
  | none => false
  | some (w, n, g) =>
    let a := sTgt w.toNat
    decide (f = g.toNat) &&
    (if a = t then decide (sOff w.toNat ≤ el) && decide (el < sOff w.toNat + n)
     else if isPair a || isPair t then
       (List.range n).any (fun i =>
         let x := sOff w.toNat + i
         aPlace a (storedWidth f) (x / 512) (x % 512) == aPlace t (storedWidth f) (el / 512) (el % 512))
     else false)

/-- Count a written element in the histogram (R233). -/
def Core.histCount (k : Core) (t f el c : Nat) : Core :=
  if k.armedAt t f el then
    k.modArch (fun a => { a with hist := { a.hist with
      bins := Sparse.modify 0 a.hist.bins (histBin f c) (fun v => BitVec.ofNat 32 (satAdd 0xFFFFFFFF v.toNat 1)) } })
  else k

/-- Write output o of an element: the core after it, and the saturations counted (R220, R49). -/
def VJob.writeOut (j : VJob) (k : Core) (o e v : Nat) : Core × Nat :=
  let w := j.word (4 + o)
  let f := j.ent.outFmt o
  let el := sOff w + e
  let x : Num := if typeOfFmt f = 1 then fpNum v else .fin (decide (intOf v < 0)) (intOf v).natAbs 0
  if isC (sTgt w) then ((k.setStrmAcc (sTgt w) el x).histCount (sTgt w) f el v, 0)
  else if f = 0x20 then (k.setStrm (sTgt w) f el v, 0)
  else
    let (c, sat) := encodeNum f x
    ((k.setStrm (sTgt w) f el c).histCount (sTgt w) f el c, sat.toNat)

/-- Process element e, read from the core as it was at start (R221). -/
def VJob.element (j : VJob) (sl : Nat) (k0 : Core) (q e : Nat) (a : Core × Nat) : Core × Nat :=
  let ins := (List.range 4).map (fun i => if j.ent.ifmt i = 0 then (0, Num.nan, 0) else j.input sl k0 i e)
  let codes := ins.map (·.1)
  let (ts, sats) := j.ent.run q codes
  j.outs.foldl (fun b o =>
      let (k, n) := j.writeOut b.1 o e (j.ent.pick codes ts (j.ent.outSel o))
      (k, b.2 + n))
    (a.1, a.2 + sats + (ins.map (·.2.2)).foldl (· + ·) 0)

/-! ### The reduction unit (R227 to R231) -/

/-- The value reduced at element e: exact for a VRED from a C tile. -/
def VJob.redValue (j : VJob) (sl : Nat) (k0 : Core) (q e : Nat) : Num :=
  let ins := (List.range 4).map (fun i => if j.ent.ifmt i = 0 then (0, Num.nan, 0) else j.input sl k0 i e)
  if j.exact then (ins.getD 0 (0, .nan, 0)).2.1
  else
    let codes := ins.map (·.1)
    let v := j.ent.pick codes (j.ent.run q codes).1 j.ent.rsel
    if j.ent.redType = some 2 then .fin (decide (intOf v < 0)) (intOf v).natAbs 0 else fpNum v

/-- A sum at scale 2^298 with its status, as a value. -/
def sumNum (v : Int) (st : BitVec 3) : Num :=
  if bitAt st 0 ∨ (bitAt st 1 ∧ bitAt st 2) then .nan
  else if bitAt st 1 then .inf false
  else if bitAt st 2 then .inf true
  else .fin (decide (v < 0)) v.natAbs (-298)

/-- The rational p / (d × 2^e) as a value that rounds as it does: extra quotient bits, the last one sticky. -/
def ratNum (p : Int) (d : Nat) (e : Int) : Num :=
  let k := Nat.log2 d + 700
  let a := p.natAbs * 2 ^ k
  .fin (decide (p < 0)) (2 * (a / d) + (if a % d = 0 then 0 else 1)) (-e - k - 1)

/-- The least index at which the group's result occurs (R229). -/
def argIndex (l : List Num) (r : Num) : Nat :=
  if r = .nan then 0xFFFFFFFF
  else l.findIdx (fun x => x != .nan && !numLt x r && !numLt r x)

/-- The result words of a group: format and value of each, or none for an ACC640 (Table 8-7). -/
def VEntry.groupResult (v : VEntry) (l : List Num) : List (Nat × Num) :=
  let ty := if v.redType = some 2 then 0x0A else 0x17
  let big := l.foldl numMax .nan
  let least := l.foldl numMin .nan
  let (s1, st1) := dotProduct 298 (l.map (fun x => (x, Num.fin false 1 0)))
  match v.rop with
  | 1 => [(v.rout, sumNum s1 st1)]
  | 2 => let (s2, st2) := dotProduct 298 (l.map (fun x => (x, x))); [(v.rout, sumNum s2 st2)]
  | 3 =>
    let n := l.length
    let (s2, _) := dotProduct 298 (l.map (fun x => (x, x)))
    if st1 = 0 then
      let top : Int := n * s2 * 2 ^ 298 - s1 * s1
      [(0x17, if s1 = 0 then .fin false 0 0 else ratNum s1 n 298),
       (0x17, if top = 0 then .fin false 0 0 else ratNum top (n * n) 596)]
    else [(0x17, sumNum s1 st1), (0x17, .nan)]
  | 4 => [(ty, big)]
  | 5 => [(ty, least)]
  | 6 => [(ty, big), (0x0A, .fin false (argIndex l big) 0)]
  | 7 => [(ty, least), (0x0A, .fin false (argIndex l least) 0)]
  | _ => []

/-- Write one result at word `el` of the reduction destination. An ACC640 beyond its range is a free value (log 10). -/
def State.putResult (s : State) (c t el : Nat) (r : Nat × Num) (isIndex : Bool) : State :=
  if r.1 = 0x31 then
    let (s1, v) := match r.2 with
      | .fin neg m e =>
        let x := scaleTo neg m e 298
        if -(2 : Int) ^ 639 + 3 ≤ x ∧ x < 2 ^ 639 then (s, toBits 640 x)
        else let (s1, b) := s.freeBytes 80; (s1, leNat b)
      | .inf neg => (s, accPattern 640 0 (if neg then 4 else 2))
      | .nan => (s, accPattern 640 0 1)
    s1.modCore c (fun k => (List.range 20).foldl (fun k i =>
      k.setStrm t 0x17 (el + i) (v / 2 ^ (32 * i) % 2 ^ 32)) k)
  else
    let (code, sat) := if isIndex then ((match r.2 with | .fin _ m _ => m % 2 ^ 32 | _ => 0), false) else encodeNum r.1 r.2
    let s1 := s.modCore c (fun k => (k.setStrm t 0x17 el code).histCount t r.1 el code)
    if sat then s1.addSat c true 1 else s1

/-- Write the results of reduction group g. -/
def VJob.writeGroup (j : VJob) (s : State) (c g : Nat) (l : List Num) : State :=
  let rs := j.ent.groupResult l
  let base := sOff (j.word 7) + g * j.ent.resWords
  (List.range rs.length).foldl (fun s i =>
    s.putResult c (sTgt (j.word 7)) (base + i) (rs.getD i (0, .nan)) (decide (6 ≤ j.ent.rop) && i == 1)) s

/-! ### The run of a job -/

/-- The primes of the slices of a job; 1 where a job has no residues. -/
def VJob.primeAt (j : VJob) (s : State) (src : Option Desc) (e : Nat) : Nat :=
  if j.ent.modular then
    match j.chainOf s with
    | some ch => (((j.primeOf ch src (e / j.slice s)).bind (fun i => ch.primes[i]?)).map (·.q)).getD 1
    | none => 1
  else 1

/-- The first element at which a residue is not below its prime. -/
def VJob.firstBad (j : VJob) (s : State) (k : Core) (src : Option Desc) : Option Nat :=
  if j.ent.modular then
    let sl := j.slice s
    (List.range j.n).find? (fun e => j.badElem sl k (j.primeAt s src e) e)
  else none

/-- The data effect of a job: its elements in order up to the first bad one, its finished groups, and free values where
destinations clash. -/
def VJob.act (j : VJob) (s : State) (c : Nat) (src : Option Desc) : State :=
  let k0 := s.core c
  let sl := j.slice s
  let m := (j.firstBad s k0 src).getD j.n
  let (k1, sats) := (List.range m).foldl (fun a e => j.element sl k0 (j.primeAt s src e) e a) (k0, 0)
  let s1 := (s.setCore c k1).addSat c true sats
  let s2 := (List.range j.groups).foldl (fun s2 g =>
    let lo := g * j.groupLen
    let hi := min (lo + j.groupLen) j.n
    if hi ≤ m then
      j.writeGroup s2 c g ((List.range (hi - lo)).map (fun i => j.redValue sl k0 (j.primeAt s src (lo + i)) (lo + i)))
    else s2) s1
  s2.freeRuns c (j.clash s k0)

/-- Occupancy of a chain (chapter 8, Timing). -/
def VJob.occ (j : VJob) (s : State) (k : Core) : Nat :=
  let mulStages := ((List.range j.ent.nstg).filter (fun i => ((stageOp (j.ent.opOf i)).map (·.2.2.2)).getD false)).length
  let aluStages := j.ent.nstg - mulStages
  let perBuf (l : List Nat) : Nat := ((List.range 4).map (fun b => (l.filter (· == b)).length)).foldl max 0
  let r := perBuf ((j.ins.filter (fun i => sMode (j.word i) == 0)).map (fun i => sTgt (j.word i)))
  let w := perBuf (j.outs.map (fun i => sTgt (j.word (4 + i))))
  let cv := max (max (max 1 mulStages) (ceilDiv aluStages 2)) (max r w)
  let bytes (t f n : Nat) : Nat := if isV t then 0 else ceilDiv (n * k.strmBits t f) 8
  let pb := (j.ins.map (fun i => bytes (sTgt (j.word i)) (j.ent.ifmt i) (strmLen (sMode (j.word i)) j.n (j.slice s)))).foldl (· + ·) 0 +
    (j.outs.map (fun i => bytes (sTgt (j.word (4 + i))) (j.ent.outFmt i) j.n)).foldl (· + ·) 0 +
    (if j.ent.rop = 0 then 0 else bytes (sTgt (j.word 7)) 0x17 (j.groups * j.ent.resWords))
  max (ceilDiv j.n 256 * cv) (ceilDiv pb 768) + 4

/-- The plan of a job that has passed its checks. -/
def VJob.plan (j : VJob) (s : State) (k : Core) (src : Option Desc) : Plan :=
  let occ := j.occ s k
  let writes := j.writes k
  { Plan.nop with occ := occ, lat := occ + 10, reads := j.reads s k, writes := writes, cover := k.coveredTiles writes,
                  abort := if (j.firstBad s k src).isSome then some fModulus else none }

/-! ### VCHAIN (R222 to R224, Tables 8-6, 10-14) -/

/-- The low or high half of a scalar value. -/
def half (v : Word) (hi : Bool) : Nat := if hi then fld v 32 32 else fld v 0 32

/-- The job of a VCHAIN. -/
def vchainJob (k : Core) (e : QEnt) : VJob :=
  let o := e.op
  let r (i : Nat) : Word := e.vals.getD (1 + i) 0
  { ent := k.ctEntry (o.f 24 5), n := (e.vals.getD 0 0).toNat,
    words := [half (r 0) false, half (r 0) true, half (r 1) false, half (r 1) true, half (r 2) false, half (r 2) true,
      half (r 3) false, half (r 3) true],
    chain := some (o.f 11 3), sel := o.f 5 6, step := o.f 4 1, exact := false }

/-- The declarations that a VCHAIN of a class with metadata checks (R84, R146, R204, R222, R224): step 3. -/
def vchainMeta (s : State) (cls chainNo : Nat) (a b key dst : Desc) : Option (BitVec 8) :=
  let shape := decide (dst.chain = a.chain) && decide (dst.logn = a.logn) && decide (dst.level = a.level) &&
    (if cls = 6 then decide (some dst.extra = (s.chain a.chain).map (·.k)) && decide (dst.npoly = 2)
     else decide (dst.extra = a.extra) &&
       (if cls = 5 then decide (dst.npoly = 3) && decide (a.npoly = 2) && decide (b.npoly = 2) else decide (dst.npoly = a.npoly)))
  let two := cls == 1 || cls == 5
  if !shape then some fDescFormat
  else match (if two then agree a b (cls == 1) else none) with
    | some code => some code
    | none =>
      if cls = 6 ∧ (key.keyChain ≠ a.chain ∨ key.keyLogn ≠ a.logn) then some fDescFormat
      else if a.chain ≠ chainNo ∨ dst.chain ≠ chainNo ∨ (two ∧ b.chain ≠ chainNo) then some fDescFormat
      else if 4 ≤ cls ∧ a.domain = false then some fDomain
      else none

/-- NOISE and SCALE of a VCHAIN's output by its class (R145, Table 8-6). -/
def vchainNoise (ch : Chain) (cls decla declb : Nat) (a b key : Desc) : Nat × Nat :=
  match cls with
  | 1 => (addb a.noise b.noise, a.scale)
  | 3 => (sat16 (a.noise + decla), a.scale)
  | 4 => (noisePtMul a.noise a.logn decla, sat16 (a.scale + declb))
  | 5 => (noiseCtMul a.noise a.scale b.noise b.scale ch.vbound ch.logn, sat16 (a.scale + b.scale))
  | 6 => (sat16 (ch.ksnoise.getD (key.dnum - 1) 0 + ch.logp), sat16 (a.scale + ch.logp))
  | _ => (a.noise, a.scale)

/-- A Key descriptor has the shape of R191. -/
def Desc.keyShape (s : State) (d : Desc) : Bool :=
  match s.chain d.keyChain with
  | none => false
  | some ch =>
    let n := 2 ^ ch.logn
    d.rank == 3 && decide (d.keyLogn = ch.logn) && decide (d.extent 0 = n) && decide (d.stride 0 = 4) &&
    decide (d.extent 1 = ch.l + ch.k) && decide (d.stride 1 = (4 * n : Nat)) && decide (d.extent 2 = d.dnum) &&
    decide (d.stride 2 = (4 * n * (ch.l + ch.k) : Nat))

/-- The start checks of a VCHAIN (R241) and its plan. With a zero extent only checks 1 to 4 of Table 3-6 are made and the
instruction completes at once (Table 3-5, R78). -/
def vchainCheck (s : State) (c : Nat) (e : QEnt) : Except (BitVec 8) Plan :=
  let o := e.op
  let k := s.core c
  let j := vchainJob k e
  let cls := j.ent.cls
  let live := j.n != 0
  if 7 ≤ cls ∨ (cls ≠ 0 ∧ o.xt = false) then .error fDescFormat
  else
    let a := k.desc (o.x 54 10)
    let b := k.desc (o.x 44 10)
    let dst := k.desc (o.x 34 10)
    let named : List Named :=
      if cls = 0 then []
      else [⟨a, 2, live, false⟩] ++ (if cls = 1 ∨ cls = 5 then [⟨b, 2, live, false⟩] else []) ++
        (if cls = 6 then [⟨b, 3, live, false⟩] else []) ++ [⟨dst, 2, false, true⟩]
    let src := if cls = 0 then none else some a
    match descChecks s named with
    | some code => .error code
    | none =>
      if anyEmpty named then .ok Plan.nop
      else if !j.formatOk s k || (cls != 0 && (s.chain (o.f 11 3)).isNone) || (cls == 6 && !b.keyShape s) then .error fDescFormat
      else match (if cls = 0 then none else vchainMeta s cls (o.f 11 3) a b b dst) with
        | some code => .error code
        | none =>
          if !live then .ok Plan.nop
          else if cls ≠ 0 ∧ ((cls = 6 ∧ dst.extra = 0) ∨ (j.ent.modular = true ∧ (match j.chainOf s with
              | some ch => (List.range (j.slices s)).any (fun i => (j.primeOf ch src i).isNone)
              | none => false) = true)) then .error fLevel
          else match j.rangeCheck s k with
            | some code => .error code
            | none =>
              let plan := j.plan s k src
              if cls = 0 then .ok plan
              else match j.chainOf s with
                | none => .error fDescFormat
                | some ch =>
                  let (noise, scale) := vchainNoise ch cls (o.x 0 16) (o.x 16 16) a b b
                  match s.noiseCheck c ch.noiseLimit noise (if cls = 1 ∨ cls = 5 then [a, b] else [a]) with
                  | .error code => .error code
                  | .ok (unrel, breach) =>
                    .ok { plan with slot := some (o.x 34 10), breach := breach,
                                    md := some ⟨noise, scale, BitVec.ofNat 64 a.ksid, a.domain, unrel⟩ }

/-- The data effect of a VCHAIN. -/
def vchainAct (s : State) (c : Nat) (e : QEnt) : State :=
  let k := s.core c
  let j := vchainJob k e
  match vchainCheck s c e with
  | .ok p => if p.lat = 1 then s else j.act s c (if j.ent.cls = 0 then none else some (k.desc (e.op.x 54 10)))
  | .error _ => s

/-! ### VRED (R231, R331) -/

/-- The job of a VRED: a chain of no stages that reduces I0. -/
def vredJob (e : QEnt) : VJob :=
  let o := e.op
  let a := e.vals.getD 1 0
  let raw := List.replicate 48 (0 : Byte) ++ [BitVec.ofNat 8 (o.f 8 8), 0, 0, 0, 0, 0, 0, 0, 0, 0, 0,
    BitVec.ofNat 8 (o.f 26 3 * 32), BitVec.ofNat 8 (o.f 0 8)] ++ leBytes 3 (o.x 0 24)
  { ent := ⟨raw⟩, n := (e.vals.getD 0 0).toNat, words := [half a false, 0, 0, 0, 0, 0, 0, half a true],
    chain := none, sel := 0, step := 0, exact := isC (sTgt (half a false)) }

/-- The start checks of a VRED and its plan. -/
def vredCheck (s : State) (c : Nat) (e : QEnt) : Except (BitVec 8) Plan :=
  let k := s.core c
  let j := vredJob e
  let t := sTgt (j.word 0)
  let wide := isC t && decide ((k.tile t).cls = .w)
  if !j.formatOk s k || j.ent.ifmt 0 == 0 || j.ent.ifmt 0 == 0x20 ||
      (wide && (j.ent.rop == 0 || j.ent.rop == 2 || j.ent.rop == 3)) then .error fDescFormat
  else if j.n = 0 then .ok Plan.nop
  else match j.rangeCheck s k with
    | some code => .error code
    | none => .ok (j.plan s k none)

/-- The data effect of a VRED. -/
def vredAct (s : State) (c : Nat) (e : QEnt) : State :=
  let j := vredJob e
  if j.n = 0 then s else j.act s c none

/-! ### VHIST (R232, R332) -/

/-- The start checks of a VHIST and its plan. -/
def vhistCheck (s : State) (c : Nat) (e : QEnt) : Except (BitVec 8) Plan :=
  let o := e.op
  let k := s.core c
  let form := o.f 27 2
  let w := half (e.vals.getD (if form = 0 then 1 else 0) 0) false
  let f := o.f 9 8
  if form = 1 then .ok { Plan.nop with lat := 2, writes := [binRun] }
  else if form = 0 then
    if fmtWidth f = 0 ∨ f = 0x20 ∨ f = 0x30 ∨ f = 0x31 ∨ f = 0x40 then .error fDescFormat
    else if !sOk w || sMode w != 0 then .error fDescFormat
    else if k.strmCap (sTgt w) f < sOff w + (e.vals.getD 0 0).toNat ∨ k.namedAlone (sTgt w) = true then .error fTileShape
    else .ok { Plan.nop with lat := 2, writes := [binRun] }
  else if !sOk w || sMode w != 0 || !isV (sTgt w) then .error fDescFormat
  else if k.strmCap (sTgt w) 0x0A < sOff w + 259 then .error fTileShape
  else
    .ok { Plan.nop with occ := 2, lat := 4, reads := [binRun], writes := k.strmRuns (sTgt w) 0x0A (sOff w) (sOff w + 259) }

/-- ARM, CLEAR and READ. -/
def vhistAct (s : State) (c : Nat) (e : QEnt) : State :=
  let o := e.op
  let form := o.f 27 2
  let w := half (e.vals.getD (if form = 0 then 1 else 0) 0) false
  s.modCore c (fun k =>
    if form = 0 then k.modArch (fun a => { a with hist :=
      ⟨some (BitVec.ofNat 32 w, (e.vals.getD 0 0).toNat, BitVec.ofNat 8 (o.f 9 8)), []⟩ })
    else if form = 1 then k.modArch (fun a => { a with hist := { a.hist with bins := [] } })
    else (List.range 259).foldl (fun k2 i =>
      k2.setStrm (sTgt w) 0x0A (sOff w + i) (Sparse.get 0 k.arch.hist.bins i).toNat) k)

/-! ### MRED (R137 to R139, R225, R334) -/

/-- C tile of an MRED. -/
def Op.mrC (o : Op) : Nat := 0xA + o.f 28 1
/-- COLUMN mode. -/
def Op.mrCol (o : Op) : Bool := o.f 27 1 == 1
/-- MD of an MRED. -/
def Op.mrMd (o : Op) : Bool := o.f 26 1 == 1
/-- Chain of an MRED. -/
def Op.mrChain (o : Op) : Nat := o.f 23 3
/-- Rows of an MRED. -/
def Op.mrM (o : Op) : Nat := o.f 3 8
/-- Columns of an MRED. -/
def Op.mrNc (o : Op) : Nat := o.x 43 11
/-- First column of an MRED. -/
def Op.mrCol0 (o : Op) : Nat := o.x 54 10
/-- Selector of an MRED in ROW mode. -/
def Op.mrSel (o : Op) : Nat := o.x 36 7

/-- Destination position of element (m, n) of an MRED, counted from the rectangle's corner. -/
def mrPos (e : QEnt) (m n : Nat) : Nat :=
  let a := e.vals.getD 0 0
  sOff (half a false) + n * half a true + m

/-- The descriptors that an MRED names. -/
def mredNamed (k : Core) (o : Op) : List Named :=
  let live := o.mrM != 0 && o.mrNc != 0
  (if o.mrMd then [⟨k.desc (o.x 26 10), 2, live, false⟩, ⟨k.desc (o.x 16 10), 2, false, true⟩] else []) ++
    (if o.mrCol then [⟨k.desc (o.x 0 10), 1, live, false⟩] else [])

/-- The checks of an MRED up to its own encodings, before the read of a prime list (R241, steps 1 and 2). With a zero extent
only checks 1 to 4 of Table 3-6 are made (R78). -/
def mredFirst (s : State) (c : Nat) (e : QEnt) : Option (BitVec 8) :=
  let o := e.op
  let k := s.core c
  let pl := k.desc (o.x 0 10)
  let w := half (e.vals.getD 0 0) false
  match descChecks s (mredNamed k o) with
  | some code => some code
  | none =>
    if anyEmpty (mredNamed k o) then none
    else match s.chain o.mrChain with
    | none => some fDescFormat
    | some ch =>
      if !sOk w || sMode w != 0 || isC (sTgt w) || !k.sameFmt (sTgt w) || decide ((k.tile o.mrC).cls ≠ .r) then some fDescFormat
      else if !o.mrCol && !o.mrMd && decide (ch.l + ch.k ≤ o.mrSel) then some fDescFormat
      else if o.mrCol && (pl.fmt != 0x40 || decide (64 < pl.count)) then some fDescFormat
      else none

/-- The read of an MRED's prime list takes place. -/
def mredReads (s : State) (c : Nat) (e : QEnt) : Bool :=
  e.op.code == 0x63 && e.op.mrCol && e.op.mrM != 0 && e.op.mrNc != 0 && !anyEmpty (mredNamed (s.core c) e.op) &&
  (mredFirst s c e).isNone

/-- The prime list of an MRED (R137): chain prime indices. -/
def mredList (s : State) (c : Nat) (e : QEnt) (found : List (Nat × EccFind)) : State × Except (BitVec 8) (List (Option Nat)) :=
  let pl := (s.core c).desc (e.op.x 0 10)
  State.walkIndex c pl (2 ^ 32) pl.offsets found s

/-- The chain prime index of column `n` of an MRED. -/
def mredPrime (ch : Chain) (o : Op) (dst : Desc) (list : List (Option Nat)) (n : Nat) : Option Nat :=
  if o.mrCol then (list.getD (n % list.length) none)
  else if o.mrMd then primeOfRow ch dst o.mrSel
  else some o.mrSel

/-- The start checks of an MRED (R241) and its plan. -/
def mredCheck (s : State) (c : Nat) (e : QEnt) : Except (BitVec 8) Plan :=
  let o := e.op
  let k := s.core c
  let src := k.desc (o.x 26 10)
  let dst := k.desc (o.x 16 10)
  let live := o.mrM != 0 && o.mrNc != 0
  let w := half (e.vals.getD 0 0) false
  match mredFirst s c e, (if anyEmpty (mredNamed k o) then none else some (s.chain o.mrChain)) with
  | some code, _ => .error code
  | none, none => .ok Plan.nop
  | none, some none => .error fDescFormat
  | none, some (some ch) =>
    match (if o.mrCol && live then (mredList s c e []).2 else .ok []) with
    | .error code => .error code
    | .ok list =>
      if list.any (fun v => match v with | some i => decide (ch.l + ch.k ≤ i) | none => true) then .error fDescFormat
      else if o.mrMd && (decide (dst.chain ≠ src.chain) || decide (dst.logn ≠ src.logn) || decide (src.npoly < dst.npoly) ||
          decide (src.level < dst.level) || (!o.mrCol && decide (src.extra < dst.extra)) ||
          (!o.mrCol && decide (dst.rows ≤ o.mrSel)) || decide (dst.chain ≠ o.mrChain)) then .error fDescFormat
      else if !live then .ok Plan.nop
      else if o.mrMd && !o.mrCol && !((List.range src.rows).any (fun r => primeOfRow ch src r == primeOfRow ch dst o.mrSel)) then
        .error fLevel
      else
        let row0 := o.f 11 7
        if 1024 < o.mrCol0 + o.mrNc ∨ (if 512 < o.mrCol0 + o.mrNc then 64 else 128) < row0 + o.mrM ∨
            k.strmCap (sTgt w) 0x20 ≤ mrPos e (o.mrM - 1) (o.mrNc - 1) ∨ k.namedAlone (sTgt w) = true then .error fTileShape
        else if !(k.tile o.mrC).valid then .error fTileInvalid
        else if !k.primeLoaded o.mrChain then .error fModulus
        else
          let writes := (List.range o.mrNc).flatMap (fun n => k.strmRuns (sTgt w) 0x20 (mrPos e 0 n) (mrPos e o.mrM n))
          let occ := ceilDiv (16 * o.mrM * o.mrNc + (if isV (sTgt w) then 0 else 4 * o.mrM * o.mrNc)) 768
          let plan : Plan := { Plan.nop with
            occ := occ, lat := occ + 12, reads := cRuns o.mrC false row0 o.mrM o.mrCol0 o.mrNc, writes := writes,
            cover := k.coveredTiles writes }
          if o.mrMd then
            let mag := (List.range o.mrNc).foldl (fun a n => max a (Sparse.get 0 (k.tile o.mrC).mag (o.mrCol0 + n)).toNat) 0
            let noise := if o.mrCol then src.noise else noiseCombination src.noise mag (o.x 0 16)
            match s.noiseCheck c ch.noiseLimit noise [src] with
            | .error code => .error code
            | .ok (unrel, breach) =>
              .ok { plan with slot := some (o.x 16 10), breach := breach,
                              md := some ⟨noise, src.scale, BitVec.ofNat 64 src.ksid, src.domain, unrel⟩ }
          else .ok plan

/-- The data effect of an MRED: every accumulator of the rectangle reduced by R56, columns in order. -/
def mredAct (s : State) (c : Nat) (e : QEnt) : State :=
  let o := e.op
  let k := s.core c
  let w := half (e.vals.getD 0 0) false
  if anyEmpty (mredNamed k o) then s
  else match s.chain o.mrChain, (if o.mrCol then (mredList s c e []).2 else .ok []) with
  | some ch, .ok list =>
    s.setCore c ((List.range o.mrNc).foldl (fun k1 n =>
      match (mredPrime ch o (k.desc (o.x 16 10)) list (o.mrCol0 + n)).bind (fun i => ch.primes[i]?) with
      | none => k1
      | some p => (List.range o.mrM).foldl (fun k2 m =>
          let v := ((k.tile o.mrC).acc false (cOff false (o.f 11 7 + m) (o.mrCol0 + n))).1
          k2.setStrm (sTgt w) 0x20 (mrPos e m n) (p.mred v)) k1) k)
  | _, _ => s

/-! ### RESCALE (R140 to R142, R226, R335) -/

/-- W of a RESCALE. -/
def rsW (e : QEnt) : Nat := (e.vals.getD 0 0).toNat
/-- Stream address words of a RESCALE: 0 SV, 1 CV, 2 DV; 3 is PW. -/
def rsWord (e : QEnt) (i : Nat) : Nat := half (e.vals.getD (1 + i / 2) 0) (i % 2 == 1)
/-- SELF. -/
def Op.rsSelf (o : Op) : Bool := o.f 28 1 == 1
/-- First row. -/
def Op.rsRow0 (o : Op) : Nat := o.f 11 7
/-- Rows. -/
def Op.rsNr (o : Op) : Nat := o.f 4 7
/-- Position of word (t, u) of stream i. -/
def rsPos (e : QEnt) (i t u : Nat) : Nat := sOff (rsWord e i) + t * rsWord e 3 + u

/-- The runs of a RESCALE's stream: every row of W words. -/
def rsRuns (k : Core) (e : QEnt) (i rows : Nat) : List Range :=
  (List.range rows).flatMap (fun t => k.strmRuns (sTgt (rsWord e i)) 0x20 (rsPos e i t 0) (rsPos e i t (rsW e)))

/-- The dropped prime's index for a source of EXTRA 0. -/
def rsDrop (src : Desc) : Nat := src.level - 1

/-- The constant of row i (R140): QINV(l, i) or PINV(i). -/
def rsConst (ch : Chain) (src : Desc) (i : Nat) : Nat :=
  if src.extra = 0 then ch.qinv.getD (rsDrop src * (rsDrop src - 1) / 2 + i) 0
  else ((ch.primes[i]?).map (·.pinv)).getD 0

/-- The correction of word (t, u) (R141): that of the tensor, or the centred value of the dropped row's word, reduced and
in Montgomery form. -/
def rsCorr (ch : Chain) (src : Desc) (k : Core) (e : QEnt) (q t u : Nat) : Nat :=
  if e.op.rsSelf then
    let ql := ((ch.primes[rsDrop src]?).map (·.q)).getD 1
    let x := redc (k.bufWord (sTgt (rsWord e 1)) (rsPos e 1 0 u)) ql
    let v : Int := if 2 * x < ql then (x : Int) else (x : Int) - ql
    ((v * 2 ^ 32) % (q : Int)).toNat
  else k.bufWord (sTgt (rsWord e 1)) (rsPos e 1 t u)

/-- A word that row t reads at u is not below its prime. -/
def rsBad (ch : Chain) (src : Desc) (k : Core) (e : QEnt) (q t u : Nat) : Bool :=
  decide (q ≤ k.bufWord (sTgt (rsWord e 0)) (rsPos e 0 t u)) ||
  (if e.op.rsSelf then
    decide (((ch.primes[rsDrop src]?).map (·.q)).getD 1 ≤ k.bufWord (sTgt (rsWord e 1)) (rsPos e 1 0 u))
   else decide (q ≤ k.bufWord (sTgt (rsWord e 1)) (rsPos e 1 t u)))

/-- The prime of row t of a RESCALE. -/
def rsPrime (ch : Chain) (o : Op) (t : Nat) : Nat := ((ch.primes[o.rsRow0 + t]?).map (·.q)).getD 1

/-- The first word, in row order, that is not below its prime. -/
def rsFirstBad (ch : Chain) (src : Desc) (k : Core) (e : QEnt) : Option Nat :=
  (List.range (e.op.rsNr * rsW e)).find? (fun i =>
    rsBad ch src k e (rsPrime ch e.op (i / rsW e)) (i / rsW e) (i % rsW e))

/-- The start checks of a RESCALE (R142, R241) and its plan. Points that the spec leaves open, each a DESIGN CHOICE of this
model: rows at or above the destination's LEVEL, for which R142 names no fault, give F_DESC_FORMAT at step 3 (log 60); a
correction tensor that is no Ciphertext carries no domain and no declaration, so none is compared (R141, log 63); and a
Ciphertext correction tensor counts as a ciphertext input for UNRELIABLE and the noise check (R134, log 63). -/
def rescaleCheck (s : State) (c : Nat) (e : QEnt) : Except (BitVec 8) Plan :=
  let o := e.op
  let k := s.core c
  let src := k.desc (o.x 54 10)
  let dst := k.desc (o.x 44 10)
  let cor := k.desc (o.x 34 10)
  let live := o.rsNr != 0 && rsW e != 0
  let named : List Named := [⟨src, 2, live, false⟩, ⟨dst, 2, false, true⟩] ++
    (if o.rsSelf then [] else [⟨cor, 5, live, false⟩])
  match descChecks s named with
  | some code => .error code
  | none =>
    if anyEmpty named then .ok Plan.nop
    else match s.chain src.chain with
    | none => .error fDescFormat
    | some ch =>
      let ctCor := !o.rsSelf && cor.kind == 2
      let spent := src.extra == 0 && decide (src.level < 2)
      if (List.range 3).any (fun i => !sOk (rsWord e i) || sMode (rsWord e i) != 0) ||
          decide (o.rsNr ≠ 0 ∧ ch.l + ch.k < o.rsRow0 + o.rsNr) then .error fDescFormat
      else if decide (dst.chain ≠ src.chain) || decide (dst.logn ≠ src.logn) || decide (dst.npoly ≠ src.npoly) ||
          decide (dst.extra ≠ 0) || decide (dst.level ≠ if src.extra = 0 then src.level - 1 else src.level) then
        .error fDescFormat
      else match (if ctCor then agree src cor false else none) with
        | some code => .error code
        | none =>
          if spent = false ∧ o.rsNr ≠ 0 ∧ dst.level < o.rsRow0 + o.rsNr then .error fDescFormat
          else if o.rsSelf && (src.domain || src.extra != 0) then .error fDomain
          else if !live then .ok Plan.nop
          else if spent then .error fLevel
          else
            let rows (i : Nat) : Nat := if i = 1 ∧ o.rsSelf = true then 1 else o.rsNr
            let fits (i : Nat) : Bool := isV (sTgt (rsWord e i)) && decide (rsPos e i (rows i - 1) (rsW e) ≤ 65536)
            if !(fits 0 && fits 1 && fits 2) || sTgt (rsWord e 0) == sTgt (rsWord e 1) then .error fTileShape
            else
              let reads := rsRuns k e 0 o.rsNr ++ rsRuns k e 1 (rows 1)
              let writes := rsRuns k e 2 o.rsNr
              if !reads.all (fun r => k.segsOk r.buf (r.lo / 2) (r.hi / 2)) then .error fTileInvalid
              else if !k.primeLoaded src.chain then .error fModulus
              else
                let d := if src.extra = 0 then ((ch.primes[rsDrop src]?).map (·.logq)).getD 0 else ch.logp
                let noise := noiseRescale src.noise d ch.rndnoise
                match s.noiseCheck c ch.noiseLimit noise ([src] ++ if ctCor then [cor] else []) with
                | .error code => .error code
                | .ok (unrel, breach) =>
                  let occ := o.rsNr * ceilDiv (rsW e) 256 * (if o.rsSelf then 2 else 1) + 4
                  .ok { Plan.nop with
                        occ := occ, lat := occ + 10, reads := reads, writes := writes, slot := some (o.x 44 10),
                        md := some ⟨noise, src.scale - d, BitVec.ofNat 64 src.ksid, src.domain, unrel⟩, breach := breach,
                        abort := if (rsFirstBad ch src k e).isSome then some fModulus else none }

/-- The words (t, u) of a RESCALE that lie at a position of stream i; the dropped row's word is read for every row. -/
def rsAt (e : QEnt) (i p : Nat) : List (Nat × Nat) :=
  (List.range e.op.rsNr).filterMap (fun t =>
    let a := rsPos e i (if i = 1 ∧ e.op.rsSelf = true then 0 else t) 0
    if a ≤ p ∧ p < a + rsW e then some (t, p - a) else none)

/-- The destination positions that share a word with source stream i otherwise than at one and the same index (R221). -/
def rsClash (e : QEnt) (i : Nat) : List Nat :=
  if sTgt (rsWord e i) ≠ sTgt (rsWord e 2) then []
  else ((List.range e.op.rsNr).flatMap (fun t => (List.range (rsW e)).map (fun u => rsPos e 2 t u))).dedup.filter (fun p =>
    let r := rsAt e i p
    r != [] && !(r == rsAt e 2 p && r.length == 1))

/-- The destination words of a RESCALE that depend on runs it reads (R237). -/
def rescaleHit (k : Core) (e : QEnt) (h : List Range) : List Range :=
  let word (i t u : Nat) : List Range := k.strmRuns (sTgt (rsWord e i)) 0x20 (rsPos e i t u) (rsPos e i t u + 1)
  (List.range e.op.rsNr).flatMap (fun t => (List.range (rsW e)).flatMap (fun u =>
    if commonRuns (word 0 t u ++ word 1 (if e.op.rsSelf then 0 else t) u) h = [] then [] else word 2 t u))

/-- The data effect of a RESCALE (R140): x′ = (x − c) × D^−1, row by row, up to the first bad word. -/
def rescaleAct (s : State) (c : Nat) (e : QEnt) : State :=
  let o := e.op
  let k := s.core c
  let src := k.desc (o.x 54 10)
  let cor := if o.rsSelf then [] else [k.desc (o.x 34 10)]
  if o.rsNr = 0 ∨ rsW e = 0 ∨ ([src, k.desc (o.x 44 10)] ++ cor).any Desc.empty then s
  else match s.chain src.chain with
    | none => s
    | some ch =>
      let m := (rsFirstBad ch src k e).getD (o.rsNr * rsW e)
      let k1 := (List.range m).foldl (fun k1 i =>
        let t := i / rsW e
        let u := i % rsW e
        let q := rsPrime ch o t
        let x := k.bufWord (sTgt (rsWord e 0)) (rsPos e 0 t u)
        let y := montMul ((x + (q - rsCorr ch src k e q t u)) % q) (rsConst ch src (o.rsRow0 + t)) q
        k1.setStrm (sTgt (rsWord e 2)) 0x20 (rsPos e 2 t u) y) k
      (s.setCore c k1).freeRuns c ((rsClash e 0 ++ rsClash e 1).map (fun p => bytesRun (sTgt (rsWord e 2)) (4 * p) (4 * (p + 1))))

/-! ### The engine's rows -/

/-- The start checks of a VE instruction. `env` is what the read of a prime list meets. -/
def veCheck (c : Nat) (env : Option AccessErr) (s : State) (e : QEnt) : Except (BitVec 8) Plan :=
  if e.op.code = 0x60 then vchainCheck s c e
  else if e.op.code = 0x61 then vredCheck s c e
  else if e.op.code = 0x62 then vhistCheck s c e
  else if e.op.code = 0x64 then rescaleCheck s c e
  else match env, mredReads s c e with
    | some .timeout, true => .error fTimeout
    | _, _ => mredCheck s c e

/-- The results of a VE instruction that depend on runs it reads (R237). -/
def veHit (c : Nat) (s : State) (e : QEnt) (h : List Range) : List Range :=
  let k := s.core c
  if e.op.code = 0x60 then (vchainJob k e).hit s k h
  else if e.op.code = 0x61 then (vredJob e).hit s k h
  else if e.op.code = 0x62 then
    let w := half (e.vals.getD 0 0) false
    if e.op.f 27 2 = 2 ∧ h ≠ [] then
      (List.range 259).flatMap (fun i => if commonRuns [bytesRun 16 (4 * i) (4 * i + 4)] h = [] then []
        else k.strmRuns (sTgt w) 0x0A (sOff w + i) (sOff w + i + 1))
    else []
  else if e.op.code = 0x64 then rescaleHit k e h
  else
    let w := half (e.vals.getD 0 0) false
    (List.range e.op.mrM).flatMap (fun m => (List.range e.op.mrNc).flatMap (fun n =>
      if commonRuns (cRuns e.op.mrC false (e.op.f 11 7 + m) 1 (e.op.mrCol0 + n) 1) h = [] then []
      else k.strmRuns (sTgt w) 0x20 (mrPos e m n) (mrPos e m n + 1)))

/-- The data effect of a VE instruction. -/
def veAct (c : Nat) (s : State) (e : QEnt) : State :=
  if e.op.code = 0x60 then vchainAct s c e
  else if e.op.code = 0x61 then vredAct s c e
  else if e.op.code = 0x62 then vhistAct s c e
  else if e.op.code = 0x64 then rescaleAct s c e
  else mredAct s c e

/-- The memory effects of the read of an MRED's prime list, before the MRED starts (R137). -/
def State.vePreRead (s : State) (c : Nat) (env : Option AccessErr) : State :=
  match ((s.core c).engine 3).queue with
  | [] => s
  | e :: _ =>
    if s.headReady c 3 e && mredReads s c e then
      match env with
      | none => (mredList s c e []).1
      | some (.ecc found) => (mredList s c e found).1
      | some .timeout => s
    else s

/-- VCHAIN: enters the VE queue (R252, R329). -/
def execVchain (i : Ins) (s : State) : Host.Outcome State Fault Refusal := .next (s.issue ⟨0x60, i⟩ (fun s => s.enqueue ⟨0x60, i⟩))
/-- VRED. -/
def execVred (i : Ins) (s : State) : Host.Outcome State Fault Refusal := .next (s.issue ⟨0x61, i⟩ (fun s => s.enqueue ⟨0x61, i⟩))
/-- VHIST ARM: FORM 0, and FORM 3, which faults at issue (R332). -/
def execVhistArm (i : Ins) (s : State) : Host.Outcome State Fault Refusal :=
  let o : Op := ⟨0x62, i⟩
  .next (if o.f 27 2 = 0 ∨ o.f 27 2 = 3 then s.issue o (fun s => s.enqueue o) else s)
/-- VHIST CLEAR: FORM 1. -/
def execVhistClear (i : Ins) (s : State) : Host.Outcome State Fault Refusal :=
  let o : Op := ⟨0x62, i⟩
  .next (if o.f 27 2 = 1 then s.issue o (fun s => s.enqueue o) else s)
/-- VHIST READ: FORM 2. -/
def execVhistRead (i : Ins) (s : State) : Host.Outcome State Fault Refusal :=
  let o : Op := ⟨0x62, i⟩
  .next (if o.f 27 2 = 2 then s.issue o (fun s => s.enqueue o) else s)
/-- MRED. -/
def execMred (i : Ins) (s : State) : Host.Outcome State Fault Refusal := .next (s.issue ⟨0x63, i⟩ (fun s => s.enqueue ⟨0x63, i⟩))
/-- RESCALE. -/
def execRescale (i : Ins) (s : State) : Host.Outcome State Fault Refusal := .next (s.issue ⟨0x64, i⟩ (fun s => s.enqueue ⟨0x64, i⟩))

/-- VE_INSTRUCTION_COMPLETE (R238). -/
def execVeInstructionComplete (c : Fin 64) (s : State) : Host.Outcome State Fault Refusal := .next (s.completeFlight c 3)

/-- VE_ABORT (R218, R242): a residue not below its prime. What was written before it stays. -/
def execVeAbort (c : Fin 64) (s : State) : Host.Outcome State Fault Refusal :=
  .next (match firstFlight (s.core c).ve.flights with
    | none => s
    | some f =>
      match s.coreAlive c, f.abort with
      | true, some code => s.abortFlight c 3 f code false
      | _, _ => s)

end Sys2Proof.Machine
end

