-- ==== Sys2Proof/Machine/Start.lean ====
section
/-! DEFINITION. The rows that start the heads of the fixed-latency engines, and what accesses leave that no token orders. -/

namespace Sys2Proof.Machine

/-! ### Unordered accesses (R107, R160, R209, R254) -/

/-- The results of a started instruction of unit `u` that depend on runs it reads. Of an LMM with an index operand, all. -/
def State.hitOf (s : State) (c u : Nat) (f : Flight) (h : List Range) : List Range :=
  if h = [] then []
  else if u = 1 then (if isLmm f.ent.op && f.ent.op.f 21 1 == 1 then f.writes else lmeHit c s f.ent h)
  else if u = 2 then teHit c s f.ent h else veHit c s f.ent h

/-- The started instructions of the core's fixed-latency engines but unit `skip`, each with its unit. -/
def Core.flightsBut (k : Core) (skip : Nat) : List (Nat × Flight) :=
  [1, 2, 3].flatMap (fun u => if u = skip then [] else (k.engine u).flights.map (fun f => (u, f)))

/-- What writes of runs `wr` by another engine leave of the results in flight: an element that both write holds the value of
one of them, and an element read may have been old or new; both are free values here (log 16). -/
def State.mixFlights (s : State) (c skip : Nat) (wr : List Range) : State :=
  ((s.core c).flightsBut skip).foldl (fun s x =>
    s.freeRuns c (commonRuns x.2.writes wr ++ s.hitOf c x.1 x.2 (commonRuns x.2.reads wr))) s

/-- The parts of runs that another engine's instruction in flight writes: their values may be old or new. -/
def Core.unsettled (k : Core) (skip : Nat) (rd : List Range) : List Range :=
  (k.flightsBut skip).flatMap (fun x => commonRuns rd x.2.writes)

/-- No instruction in flight in another engine touches what runs `rd` and `wr` share with it. -/
def Core.unshared (k : Core) (skip : Nat) (rd wr : List Range) : Bool :=
  (k.flightsBut skip).all (fun x =>
    commonRuns rd x.2.writes == [] && commonRuns x.2.writes wr == [] && commonRuns x.2.reads wr == [])

/-- The accesses of a flight that has just started in unit `u` meet those of the other engines. -/
def State.raceFlight (s : State) (c u : Nat) (f : Flight) : State :=
  if (s.core c).unshared u f.reads f.writes then s
  else (s.mixFlights c u f.writes).freeRuns c (s.hitOf c u f ((s.core c).unsettled u f.reads))

/-- Start the head of unit `u`, beside what the other engines have in flight. -/
def State.startUnit (s : State) (c u : Nat) (check : State → QEnt → Except (BitVec 8) Plan) (act : State → QEnt → State)
    (hit : State → QEnt → List Range → List Range) : State :=
  let t := s.startHead c u check act hit
  match ((t.core c).engine u).flights[((s.core c).engine u).flights.length]? with
  | none => t
  | some f => t.raceFlight c u f

/-! ### Rows -/

/-- LME_INSTRUCTION_START: the head of the LME queue starts (R113, R120); the walker is free for the next index operand
(R349). -/
def execLmeInstructionStart (c : Fin 64) (s : State) : Host.Outcome State Fault Refusal :=
  let started := match (s.core c).lme.queue with
    | e :: _ => s.headReady c 1 e && ((s.core c).walkFor e).isSome
    | [] => false
  let t := s.startUnit c 1 (lmeCheck c) (lmeAct c) (lmeHit c)
  .next (if started then t.modCore c (fun k => { k with se := { k.se with walk := none } }) else t)

/-- TE_INSTRUCTION_START (R167, R174). -/
def execTeInstructionStart (c : Fin 64) (s : State) : Host.Outcome State Fault Refusal :=
  .next (s.startUnit c 2 (teCheck c) (teAct c) (teHit c))

/-- VE_INSTRUCTION_START (R234, R241). `env` is what the read of an MRED's prime list meets, if anything (R137). -/
def execVeInstructionStart (c : Fin 64) (env : Option AccessErr) (s : State) : Host.Outcome State Fault Refusal :=
  .next ((s.vePreRead c env).startUnit c 3 (veCheck c env) (veAct c) (veHit c))

end Sys2Proof.Machine
end

