-- ==== Sys2Proof/Machine/Se.lean ====
section
/-! DEFINITION. The stream engine (chapters 7, 10 and 11): start checks, access units, transfers, landing, aborts,
completion, and every row of the stream engine. -/

namespace Sys2Proof.Machine

/-! ### Access units (R24, R58 to R61, R70 to R75, R340) -/

/-- One access unit: where it lies, the span that R24 checks, the bytes moved, and for a unit of one bit the bit of the byte
and how many of the byte's bits lie within the row's extent. -/
structure Acc where
  module : Nat
  space : Nat
  cOff : Int
  cLen : Nat
  off : Int
  len : Nat
  bit : Option (Nat × Nat)
deriving DecidableEq, Repr

/-- How an instruction cuts a tensor into units: in linear order, planes outermost (R76), or element by element. -/
inductive Cut
  | linear | single
deriving DecidableEq, Repr

/-- Bytes of a row of one plane. -/
def Desc.rowBytes (d : Desc) : Nat := ceilDiv (d.extent 0) 8
/-- Chunks of 8 bytes of a row. -/
def Desc.chunks (d : Desc) : Nat := ceilDiv d.rowBytes 8
/-- Rows of one plane. -/
def Desc.planeRows (d : Desc) : Nat := if d.extent 0 = 0 then 0 else d.count / d.extent 0

/-- Units of a tensor. -/
def Desc.units (d : Desc) (cut : Cut) : Nat :=
  if fmtPlane d.fmt then
    (if cut = .single then d.count * d.planes else d.planeRows * d.chunks * d.planes)
  else if d.fmt = 0x31 then 5 * d.count
  else if d.fmt = 0x20 ∧ cut ≠ .single then d.count / 64
  else d.count

/-- The first element of unit u, its plane, and its part (of an ACC640 element). -/
def Desc.unitAt (d : Desc) (cut : Cut) (u : Nat) : Nat × Nat × Nat :=
  if fmtPlane d.fmt then
    (match cut with
      | .single => (u / d.planes, u % d.planes, 0)
      | .linear =>
        let p := u / (d.planeRows * d.chunks)
        let v := u % (d.planeRows * d.chunks)
        (v / d.chunks * d.extent 0 + 64 * (v % d.chunks), p, 0))
  else if d.fmt = 0x31 then (u / 5, 0, u % 5)
  else if d.fmt = 0x20 ∧ cut ≠ .single then (64 * u, 0, 0)
  else (u, 0, 0)

/-- Elements that unit u carries. -/
def Desc.unitCount (d : Desc) (cut : Cut) (u : Nat) : Nat :=
  if cut = .single then 1
  else if fmtPlane d.fmt then min 64 (d.extent 0 - (d.unitAt cut u).1 % d.extent 0)
  else if d.fmt = 0x20 then 64
  else 1

/-- The units that together hold the elements of unit u: the planes of a chunk, the parts of an ACC640 (R60). -/
def Desc.unitGroup (d : Desc) (u : Nat) : List Nat :=
  if fmtPlane d.fmt then
    let n := d.planeRows * d.chunks
    (List.range d.planes).map (fun p => p * n + u % n)
  else if d.fmt = 0x31 then (List.range 5).map (fun p => u / 5 * 5 + p)
  else [u]

/-- The access of coordinates, plane and part: the span that R24 checks is the access unit of Table 3-4 (one element, one row
of one plane, one residue slice). -/
def Desc.accAt (d : Desc) (cut : Cut) (cs : List Nat) (plane part : Nat) : Acc :=
  if fmtPlane d.fmt then
    let row := d.rowOff plane (cs.drop 1)
    let i := cs.headD 0
    if cut = .single then ⟨d.module, d.space, row, d.rowBytes, row + (i / 8 : Nat), 1, some (i % 8, min 8 (d.extent 0 - i / 8 * 8))⟩
    else
      let o := row + (8 * (i / 64) : Nat)
      ⟨d.module, d.space, row, d.rowBytes, o, min 8 (d.rowBytes - 8 * (i / 64)), none⟩
  else
    let o := d.elemOff cs
    if d.fmt = 0x31 then ⟨d.module, d.space, o, 80, o + (16 * part : Nat), 16, none⟩
    else if d.fmt = 0x20 then
      ⟨d.module, d.space, d.elemOff (0 :: cs.drop 1), 4 * d.extent 0, o, if cut = .single then 4 else 256, none⟩
    else ⟨d.module, d.space, o, fmtBytes d.fmt, o, fmtBytes d.fmt, none⟩

/-- The access of unit u. -/
def Desc.acc (d : Desc) (cut : Cut) (u : Nat) : Acc :=
  let (e, p, k) := d.unitAt cut u
  d.accAt cut (coordsOf d.extents e) p k

/-- An access at a scalar address. -/
def rawAcc (a : Word) (len : Nat) : Acc :=
  ⟨fld a 52 12, fld a 48 4, (fld a 0 48 : Nat), len, (fld a 0 48 : Nat), len, none⟩

/-! ### Operands -/

/-- TGT of LDT and STT. -/
def Op.tgt (o : Op) : Nat := o.f 33 4
/-- SZ in bytes. -/
def Op.szBytes (o : Op) : Nat := 2 ^ o.f 25 2
/-- Descriptor i that an active instruction copied at start. -/
def SeAct.desc (a : SeAct) (i : Nat) : Desc := ⟨a.descs.getD i []⟩
/-- Scalar value i of an instruction. -/
def QEnt.val (e : QEnt) (i : Nat) : Word := e.vals.getD i 0

/-- The slots whose descriptors an instruction copies at start: destination first. -/
def Op.copied (o : Op) : List Nat :=
  let c := o.code
  if c = 0x70 ∨ c = 0x7A ∨ c = 0x7B ∨ c = 0x7C then [o.f 27 10, o.f 17 10]
  else if c = 0x75 then [o.f 27 10]
  else if c = 0x76 ∨ c = 0x77 then [o.f 23 10]
  else if c = 0x78 ∨ c = 0x79 then [o.f 27 10, o.f 17 10, o.f 7 10]
  else if c = 0x7D ∨ c = 0x7E then [o.f 27 10]
  else if c = 0x7F then [o.x 54 10, o.x 44 10, o.x 34 10, o.x 24 10]
  else []

/-- The instruction uses KEXP's b or a destination. -/
def Op.half (o : Op) (i : Nat) : Bool := o.f (35 + i) 1 == 1

/-- The descriptors that an instruction names, with their roles, in the order of their fields. -/
def seNamed (k : Core) (o : Op) : List Named :=
  let c := o.code
  let d (i : Nat) : Desc := k.desc (o.copied.getD i 0)
  if c = 0x70 ∨ c = 0x7A ∨ c = 0x7B ∨ c = 0x7C then [⟨d 0, 1, false, true⟩, ⟨d 1, 1, true, false⟩]
  else if c = 0x76 then [⟨d 0, 1, true, false⟩]
  else if c = 0x77 then [⟨d 0, 1, false, true⟩]
  else if c = 0x78 ∨ c = 0x79 then [⟨d 0, 1, false, true⟩, ⟨d 1, 1, true, false⟩, ⟨d 2, 4, true, false⟩]
  else if c = 0x7D then [⟨d 0, 1, false, true⟩]
  else if c = 0x7E then [⟨d 0, 1, true, false⟩]
  else if c = 0x7F then
    [⟨d 0, 3, true, false⟩, ⟨d 1, 2, true, false⟩] ++ (if o.half 0 then [⟨d 2, 1, false, true⟩] else []) ++
      (if o.half 1 then [⟨d 3, 1, false, true⟩] else [])
  else []

/-- GATHER or SCATTER. -/
def Op.walks (o : Op) : Bool := o.code == 0x78 || o.code == 0x79

/-- The cut of an instruction: by elements when an index selects along dimension 0. -/
def SeAct.cut (a : SeAct) : Cut :=
  if a.ent.op.walks ∧ (a.desc 2).dim = 0 then .single else .linear

/-! ### Start checks (R323, Table 7-6) -/

/-- Both descriptors hold the same FORMAT, RANK and extents (R308). -/
def sameShape (a b : Desc) : Bool := a.fmt == b.fmt && a.rank == b.rank && a.extents == b.extents

/-- The rectangle of an LDT or STT: rows and columns (R101). -/
def tileRect (o : Op) (d : Desc) : Nat × Nat := if o.f 22 1 = 0 then (d.extent 1, d.extent 0) else (d.extent 0, d.extent 1)

/-- The rectangle lies in the tile's capacity and declared shape (R97, R101, Table 4-6). -/
def Core.rectFits (k : Core) (t fmt row col m n : Nat) (declared : Bool) : Bool :=
  (if isC t then
     (decide (col + n ≤ 1024) && decide (row + m ≤ cRows ((k.tile t).cls == .w) (col + n)))
   else if isB t then decide ((row + m) * bRows fmt ≤ 512) && decide (col + n ≤ if slots2 fmt = 1 then 1024 else 512)
   else decide (row + m ≤ aRows t (storedWidth fmt)) && decide (col + n ≤ 512)) &&
  (!declared || (match k.declShape t with
    | some (r, c) => decide (row + m ≤ r) && decide (col + n ≤ c)
    | none => true))

/-- The rules of LDT and STT at step 2 (R95, R96, R101 to R104, R112, R291, R313). -/
def ldtCheck (k : Core) (o : Op) (d : Desc) (declared : Bool) : Option (BitVec 8) :=
  let t := o.tgt
  let load := o.code == 0x76
  let f := d.fmt
  if isV t || isTb t then
    if o.f 22 1 = 1 ∨ o.f 21 1 = 1 then some fDescFormat
    else if isTb t ∧ f ≠ 0x20 then some fDescFormat
    else if isV t ∧ (fmtPlane f = true ∨ f = 0x30 ∨ f = 0x31) then some fDescFormat
    else if isTb t ∧ o.f 0 18 % 64 ≠ 0 then some fDescAlign
    else if !d.empty && decide (tileBytes t < (o.f 0 18 + d.count) * fmtBytes f) then some fTileShape
    else none
  else
    let (m, n) := tileRect o d
    if isB t && !load then some fDescFormat
    else if 3 ≤ d.rank ∨ (o.f 21 1 = 1 ∧ (load = false ∨ isC t = false)) then some fDescFormat
    else if !load && !k.sameFmt t then some fDescFormat
    else if isC t && !load && f != (if (k.tile t).cls = .w then 0x31 else 0x30) &&
        ((k.tile t).cls == .r || f == 0x20 || f == 0x30 || f == 0x31 || f == 0x40) then some fDescFormat
    else if isC t && load && f != (if (k.tile t).cls = .w then 0x31 else 0x30) then some fTileShape
    else if (isA t || isPair t) && storedWidth f == 0 then some fTileShape
    else if isB t && !fmtLmm f then some fTileShape
    else if k.namedAlone t then some fTileShape
    else if !isC t && (declared || !load) && (tilesOf t).any (fun u => (k.tile u).fmt.toNat != f) then some fTileShape
    else if !d.empty && !k.rectFits t f (o.f 10 10) (o.f 0 10) m n declared then some fTileShape
    else none

/-- Extents along every dimension but one agree (R315). -/
def othersAgree (a b : Desc) (dim : Nat) : Bool :=
  a.rank == b.rank && decide (dim < a.rank) && (List.range 6).all (fun i => i == dim || a.extent i == b.extent i)

/-- Destination shape of a KEXP (R196). -/
def kexpDst (d : Desc) (n nr nj : Nat) : Bool :=
  d.fmt == 0x20 && decide (3 ≤ d.rank) && decide (d.extent 0 = n) && decide (d.extent 1 = nr) && decide (d.extent 2 = nj) &&
  decide (d.extent 3 = 1) && decide (d.extent 4 = 1) && decide (d.extent 5 = 1)

/-- α = ⌈L / DNUM⌉ (R190). -/
def keyAlpha (ch : Chain) (dnum : Nat) : Nat := ceilDiv ch.l dnum

/-- Checks 2 and 3 of Table 7-6. -/
def kexpCheck (s : State) (k : Core) (o : Op) : Option (BitVec 8) :=
  let key := k.desc (o.x 54 10)
  let ct := k.desc (o.x 44 10)
  let nr := o.f 21 7
  let nj := o.f 14 4
  match s.chain ct.chain with
  | none => some fDescFormat
  | some ch =>
    if (!o.half 0 && !o.half 1) || !key.keyShape s || decide (key.keyChain ≠ ct.chain) ||
        decide (key.keyLogn ≠ ct.logn) ||
        (o.half 0 && !kexpDst (k.desc (o.x 34 10)) (2 ^ ch.logn) nr nj) ||
        (o.half 1 && !kexpDst (k.desc (o.x 24 10)) (2 ^ ch.logn) nr nj) then some fDescFormat
    else if nr = 0 ∨ nj = 0 ∨ ct.empty = true then none
    else if ch.k = 0 ∨ ct.level + ch.k < o.f 28 7 + nr ∨ ceilDiv ct.level (keyAlpha ch key.dnum) < o.f 18 3 + nj then some fLevel
    else none

/-- The instruction's own rules at step 2 of R323, PCORE first (R304). That a KEXP without rows or digits makes the PCORE
check too, which R199 does not name among its checks, is this model's DESIGN CHOICE (log 65). -/
def seOwn (s : State) (c : Nat) (k : Core) (e : QEnt) : Option (BitVec 8) :=
  let o := e.op
  let code := o.code
  let d (i : Nat) : Desc := k.desc (o.copied.getD i 0)
  let nc := ((s.flaskOf c).map (·.ncores)).getD 0
  if code ≠ 0x7A ∧ code ≠ 0x7C ∧ o.x 23 1 = 1 ∧ nc ≤ o.x 8 6 then some fWindow
  else if code = 0x70 ∨ code = 0x7A ∨ code = 0x7B then (if sameShape (d 0) (d 1) then none else some fDescFormat)
  else if code = 0x7C then
    if !sameShape (d 0) (d 1) || (d 0).fmt != 0x20 then some fDescFormat
    else match s.chain (o.f 14 3) with
      | none => some fDescFormat
      | some ch =>
        if (List.range (ceilDiv (d 0).count (2 ^ ch.logn))).any (fun i => decide (ch.l + ch.k ≤ o.f 8 6 + i * o.f 7 1)) then
          some fDescFormat
        else none
  else if code = 0x71 then (if fld (e.val 0) 0 48 % o.szBytes = 0 then none else some fDescAlign)
  else if code = 0x74 then (if fld (e.val 1) 0 48 % o.szBytes = 0 then none else some fDescAlign)
  else if code = 0x72 ∨ code = 0x75 then (if fld (e.val 0) 0 48 % 128 = 0 then none else some fDescAlign)
  else if code = 0x73 then (if fld (e.val 0) 0 48 % 64 = 0 then none else some fDescAlign)
  else if code = 0x76 ∨ code = 0x77 then ldtCheck k o (d 0) (s.declared c)
  else if o.walks then
    let walked := if code = 0x78 then d 0 else d 1
    if (d 0).fmt ≠ (d 1).fmt ∨ (d 2).imode ≠ 1 ∨ (d 2).rank ≠ 1 ∨ othersAgree (d 0) (d 1) (d 2).dim = false ∨
        walked.extent (d 2).dim ≠ (d 2).extent 0 then some fDescFormat
    else none
  else if code = 0x7F then kexpCheck s k o
  else none

/-- Nothing is to be moved: a zero extent, a KEXP's CT included, or a KEXP without rows or digits (R199, R323). -/
def seIdle (k : Core) (o : Op) : Bool :=
  anyEmpty (seNamed k o) || (o.code == 0x7F && (o.f 21 7 == 0 || o.f 14 4 == 0))

/-- The start checks of a stream-engine instruction: the fault of the first that fails. -/
def seCheck (s : State) (c : Nat) (e : QEnt) : Option (BitVec 8) :=
  let k := s.core c
  let named := seNamed k e.op
  let named' := if seIdle k e.op then named.map (fun n => { n with src := false }) else named
  match descChecks s named' with
  | some code => some code
  | none => seOwn s c k e

/-- The KEXP units of one destination. -/
def kexpUnits (s : State) (k : Core) (o : Op) : Nat :=
  match s.chain (k.desc (o.x 44 10)).chain with
  | some ch => 2 ^ ch.logn / 64 * o.f 21 7 * o.f 14 4
  | none => 0

/-- Access units of an instruction that starts. -/
def seTotal (s : State) (k : Core) (a : SeAct) : Nat :=
  let o := a.ent.op
  let c := o.code
  if seIdle k o then 0
  else if c = 0x78 then (a.desc 0).units a.cut
  else if c = 0x70 ∨ c = 0x79 ∨ c = 0x7A ∨ c = 0x7B ∨ c = 0x7C then (a.desc 1).units a.cut
  else if c = 0x76 ∨ c = 0x77 ∨ c = 0x7D ∨ c = 0x7E then (a.desc 0).units a.cut
  else if c = 0x7F then kexpUnits s k o * ((if o.half 0 then 1 else 0) + (if o.half 1 then 1 else 0))
  else 1

/-! ### What a unit reads and writes -/

/-- An access that an instruction needs for a unit: not known until an index arrives; none; a fault; or one. -/
inductive Need
  | wait
  | skip
  | bad (code : BitVec 8)
  | acc (a : Acc)
deriving DecidableEq, Repr

/-- The access of unit u in the tensor that an index selects from, given the walked tensor's coordinates (R87, R315). -/
def SeAct.picked (a : SeAct) (walked other : Desc) (u : Nat) : Need :=
  let dim := (a.desc 2).dim
  let (e, p, k) := walked.unitAt a.cut u
  let cs := coordsOf walked.extents e
  match a.index[cs.getD dim 0]? with
  | none => .wait
  | some i =>
    if i = 0xFFFFFFFF then .skip
    else if other.extent dim ≤ i then .bad fWindow
    else .acc (other.accAt a.cut (cs.set dim i) p k)

/-- The b-half slice words that unit u of a KEXP copies (R191, R196), and where they go: digit, prime and first word. -/
def SeAct.keySlice (s : State) (a : SeAct) (u : Nat) : Nat × Nat × Nat :=
  let o := a.ent.op
  let ct := a.desc 1
  match s.chain ct.chain with
  | none => (0, 0, 0)
  | some ch =>
    let w := 2 ^ ch.logn / 64
    let row := o.f 28 7 + u / w % o.f 21 7
    (o.f 18 3 + u / (w * o.f 21 7), if row < ct.level then row else ch.l + (row - ct.level), 64 * (u % w))

/-- Units of the b destination of a KEXP. -/
def SeAct.bUnits (a : SeAct) : Nat := if a.ent.op.half 0 then (if a.ent.op.half 1 then a.total / 2 else a.total) else 0

/-- The read that unit u needs. -/
def SeAct.readNeed (s : State) (a : SeAct) (u : Nat) : Need :=
  let c := a.ent.op.code
  if c = 0x70 ∨ c = 0x7A ∨ c = 0x7B ∨ c = 0x7C then .acc ((a.desc 1).acc a.cut u)
  else if c = 0x79 then
    -- the walker checks the index before any transfer for it (R347)
    (match a.picked (a.desc 1) (a.desc 0) u with
      | .acc _ => .acc ((a.desc 1).acc a.cut u)
      | n => n)
  else if c = 0x71 then .acc (rawAcc (a.ent.val 0) a.ent.op.szBytes)
  else if c = 0x72 then .acc (rawAcc (a.ent.val 0) 128)
  else if c = 0x73 then .acc (rawAcc (a.ent.val 0) 64)
  else if c = 0x76 ∨ c = 0x7E then .acc ((a.desc 0).acc a.cut u)
  else if c = 0x78 then a.picked (a.desc 0) (a.desc 1) u
  else if c = 0x7F then
    if !a.checked then .wait
    else if u < a.bUnits then
      let (j, r, w) := a.keySlice s u
      .acc ((a.desc 0).accAt .linear [w, r, j] 0 0)
    else .skip
  else .skip

/-- The write that unit u needs. -/
def SeAct.writeNeed (a : SeAct) (u : Nat) : Need :=
  let c := a.ent.op.code
  if c = 0x70 ∨ c = 0x7A ∨ c = 0x7B ∨ c = 0x7C ∨ c = 0x78 ∨ c = 0x7D then .acc ((a.desc 0).acc a.cut u)
  else if c = 0x77 then .acc ((a.desc 0).acc a.cut u)
  else if c = 0x74 then .acc (rawAcc (a.ent.val 1) a.ent.op.szBytes)
  else if c = 0x75 then .acc (rawAcc (a.ent.val 0) 128)
  else if c = 0x79 then a.picked (a.desc 1) (a.desc 0) u
  else if c = 0x7F then
    if !a.checked then .wait
    else if u < a.bUnits then .acc ((a.desc 2).acc .linear u)
    else .acc ((a.desc 3).acc .linear (u - a.bUnits))
  else .skip

/-- The read of an instruction goes to a peer (RGET), or its write does (RPUT, RADD). -/
def Op.remoteRead (o : Op) : Bool := o.code == 0x7B
/-- The write of an instruction goes through the fabric. -/
def Op.remoteWrite (o : Op) : Bool := o.code == 0x7A || o.code == 0x7C

/-- A need with its checks: R24 for a local access; for a remote one an offset within 48 bits (R74) and a path (R356). -/
def State.checkNeed (s : State) (c : Nat) (remote : Bool) (n : Need) : Need :=
  match n with
  | .acc a =>
    if remote then
      if a.cOff < 0 ∨ (2 : Int) ^ 48 < a.cOff + a.cLen then .bad fWindow
      else if s.reachable a.module then n else .bad fLinkLost
    else match s.checkAccess c a.module a.space a.cOff a.cLen with
      | some code => .bad code
      | none => n
  | _ => n

/-- What unit u needs in the read phase or, once its data are there, in the write phase. -/
def SeAct.phaseNeed (s : State) (c : Nat) (a : SeAct) (write : Bool) (u : Nat) : Need :=
  if write then
    (match a.readNeed s u with
      | .acc _ => if Sparse.get false a.arrived u then s.checkNeed c a.ent.op.remoteWrite (a.writeNeed u) else .wait
      | .skip => s.checkNeed c a.ent.op.remoteWrite (a.writeNeed u)
      | .bad code => .bad code
      | .wait => .wait)
  else s.checkNeed c a.ent.op.remoteRead (a.readNeed s u)

/-- The first unit from the phase's counter on that the phase does not skip. -/
def SeAct.front (s : State) (c : Nat) (a : SeAct) (write : Bool) : Nat :=
  let from' := if write then a.nextW else a.nextR
  from' + ((List.range (a.total - from')).takeWhile (fun i => a.phaseNeed s c write (from' + i) == .skip)).length

/-- The 512-byte line of a local access, or the 2 KiB block of a remote one with its module. -/
def Acc.block (x : Acc) (remote : Bool) : Nat :=
  if remote then x.module * 2 ^ 64 + x.space * 2 ^ 50 + x.off.toNat / 2048 else x.space * 2 ^ 50 + x.off.toNat / 512

/-- Prime selector of RADD word e (R317). -/
def raddSel (ch : Chain) (o : Op) (e : Nat) : Nat := o.f 8 6 + e / 2 ^ ch.logn * o.f 7 1

/-- Two accesses may ride in one transfer (R340): the same line; or the same remote block and without a gap, under one
prime for RADD. -/
def SeAct.joins (s : State) (a : SeAct) (remote : Bool) (first prev : Nat) (x0 xp x : Acc) : Bool :=
  x0.module == x.module && x0.space == x.space &&
  (if remote then
     x0.block true == x.block true && decide (x.off = xp.off + xp.len) &&
     (a.ent.op.code != 0x7C || (match s.chain (a.ent.op.f 14 3) with
        | some ch => raddSel ch a.ent.op (64 * first) == raddSel ch a.ent.op (64 * (prev + 1))
        | none => true))
   else decide (x0.off / 512 = x.off / 512))

/-- The access of unit u in a phase, whether or not its data are there. -/
def SeAct.cutNeed (s : State) (c : Nat) (a : SeAct) (write : Bool) (u : Nat) : Need :=
  if write then
    (match a.readNeed s u with
      | .bad code => .bad code
      | .wait => .wait
      | _ => s.checkNeed c a.ent.op.remoteWrite (a.writeNeed u))
  else s.checkNeed c a.ent.op.remoteRead (a.readNeed s u)

/-- The number of units, from u on, that join the transfer whose first unit is u0 (R340); none while an index decides it that
has not arrived. The counter bounds it. -/
def SeAct.extend (s : State) (c : Nat) (a : SeAct) (write remote : Bool) (u0 : Nat) (x0 : Acc) :
    Nat → Nat → Acc → Option Nat
  | 0, _, _ => some 0
  | n + 1, u, xp =>
    if a.total ≤ u then some 0
    else match (if write then a.writeNeed u else a.readNeed s u) with
      | .wait => none
      | .acc x =>
        if a.joins s remote u0 (u - 1) x0 xp x then
          (match a.cutNeed s c write u with
            | .acc _ => (SeAct.extend s c a write remote u0 x0 n (u + 1) x).map (· + 1)
            | .wait => none
            | _ => some 0)
        else some 0
      | _ => some 0

/-! ### Tags and transfers -/

/-- The transfers of a core: those of its active instructions, and the walker's for an LMM (R341). -/
def Core.allXfers (k : Core) : List Xfer := k.se.active.flatMap (·.xfers) ++ (k.se.walk.map (·.xfers)).getD []

/-- Transfers of a pool that hold tags. -/
def Core.tagsIn (k : Core) (pool : Nat) : Nat := (k.allXfers.filter (fun x => x.pool == pool)).length

/-- A tag of the pool is free (Table 11-2). -/
def Core.tagFree (k : Core) (pool : Nat) : Bool := decide (k.tagsIn pool < if pool = 0 then 512 else 256)

/-- The lowest free remote tag. -/
def Core.newTag (k : Core) : Nat :=
  ((List.range 256).find? (fun t => !k.allXfers.any (fun x => x.pool == 2 && x.tag == t))).getD 0

/-- Active instruction `id` of a core. -/
def Core.actOf (k : Core) (id : Nat) : Option SeAct := k.se.active.find? (fun a => a.id == id)

/-- Change active instruction `id` of a core. -/
def State.modAct (s : State) (c id : Nat) (f : SeAct → SeAct) : State :=
  s.modCore c (fun k => { k with se := { k.se with active := k.se.active.map (fun a => if a.id = id then f a else a) } })

/-- The mesh path of a write by core `c` to the scratchpad of another logical core of its flask (R180, R181). -/
def State.writePath (s : State) (c : Nat) (x : Acc) : List Nat :=
  match s.serving c with
  | some (f, l) => if x.space = 3 ∧ x.off.toNat / 2 ^ 25 ≠ l then s.pathOf f l (x.off.toNat / 2 ^ 25) else []
  | none => []

/-- Give instruction `id` a new transfer. -/
def State.addXfer (s : State) (c id : Nat) (kind : XKind) (pool u0 n blk : Nat) (path : List Nat) : State :=
  let k := s.core c
  let x : Xfer := ⟨k.se.nextX, kind, pool, u0, n, blk, if pool = 2 then k.newTag else 0, s.now, path⟩
  ((s.modAct c id (fun a => { a with xfers := a.xfers ++ [x] })).modCore c (fun k =>
    { k with se := { k.se with nextX := k.se.nextX + 1 } })).coreEvent c (0x20 + pool)

/-- The time limit of a transfer (R357, Table 11-6), in mesh cycles. -/
def State.xferLimit (s : State) (c : Nat) (x : Xfer) : Nat :=
  (if x.pool = 2 then ((s.flaskOf c).map (·.rtmo)).getD 5000 else ((s.flaskOf c).map (·.ltmo)).getD 100) * 1400

/-- A transfer is within its time limit. -/
def State.inTime (s : State) (c : Nat) (x : Xfer) : Bool := decide (s.now ≤ x.time + s.xferLimit c x)

/-- The flask that core `c` serves, for the view of its accesses. -/
def State.viewOf (s : State) (c : Nat) : Nat := ((s.serving c).getD (0, 0)).1

/-- The tier stack of a local access, with the governor's key. -/
def Acc.stack (x : Acc) : Option Nat := (stackOf (memKey x.space x.off.toNat)).map (·.1)

/-- The stack of a local access admits traffic (R552, R557). -/
def State.stackOpen (s : State) (x : Acc) : Bool :=
  match x.stack with
  | some n => decide (0 < Sparse.get 0 s.pwr.duty (256 + n))
  | none => true

/-- Bytes cross the core's stream port and the stack's port (R584). -/
def State.streamCross (s : State) (c : Nat) (x : Acc) (n : Nat) : State :=
  let s1 := s.crossed c n
  match x.stack with
  | some st => s1.crossed (64 + st) n
  | none => s1

/-! ### Data -/

/-- Bytes of unit u as its read delivered them. -/
def SeAct.unitGot (a : SeAct) (u n : Nat) : List Byte := readBytes a.got (256 * u) n

/-- Zero the bits of a row chunk that lie beyond the row (R61). -/
def maskBits (l : List Byte) (bits : Nat) : List Byte :=
  (List.range l.length).map (fun i =>
    let keep := min 8 (bits - 8 * i)
    BitVec.ofNat 8 ((l.getD i 0).toNat % 2 ^ keep))

/-- Tile row and column of element e of an LDT or STT (R101). -/
def SeAct.place (a : SeAct) (e : Nat) : Nat × Nat :=
  let o := a.ent.op
  let d := a.desc 0
  let i0 := e % d.extent 0
  let i1 := e / d.extent 0
  if o.f 22 1 = 0 then (o.f 10 10 + i1, o.f 0 10 + i0) else (o.f 10 10 + i0, o.f 0 10 + i1)

/-- The code that an STT stores for element e, and whether it saturates (R104). ACC formats give their pattern. -/
def SeAct.storedCode (k : Core) (a : SeAct) (e : Nat) : Nat × Bool :=
  let t := a.ent.op.tgt
  let f := (a.desc 0).fmt
  if isC t then
    let w := (k.tile t).cls == .w
    let (row, col) := a.place e
    let (v, st) := (k.tile t).acc w (cOff w row col)
    if f = 0x30 ∨ f = 0x31 then (accPattern (accBits w) v st, false) else encodeNum f (accNum w v st)
  else if isA t ∨ isPair t then
    let (row, col) := a.place e
    (k.aElem t (storedWidth f) row col, false)
  else (readLE (k.buf t).data ((a.ent.op.f 0 18 + e) * fmtBytes f) (fmtBytes f), false)

/-- The runs of a tile that rows [row, row + m) and columns [col, col + n) take; B columns n and n + 512 share cells. -/
def Core.rectRuns (k : Core) (t fmt row m col n : Nat) : List Range :=
  if isC t then cRuns t ((k.tile t).cls == .w) row m col n
  else if isB t then
    (List.range (m * bRows fmt)).flatMap (fun i =>
      let a := 512 * (row * bRows fmt + i)
      (if col < 512 then [⟨t, a + col, a + min (col + n) 512⟩] else []) ++
      (if 512 < col + n then [⟨t, a + (max col 512 - 512), a + (col + n - 512)⟩] else []))
  else aRuns t (storedWidth fmt) ((List.range m).map (fun i => row + i)) col n

/-- The runs of the tile or buffer that elements [e, e + n) of an LDT or STT take, n of one row. -/
def SeAct.elemRuns (k : Core) (a : SeAct) (e n : Nat) : List Range :=
  let t := a.ent.op.tgt
  let d := a.desc 0
  if isV t || isTb t then
    let b := fmtBytes d.fmt
    [bytesRun t ((a.ent.op.f 0 18 + e) * b) ((a.ent.op.f 0 18 + e + n) * b)]
  else
    let (row, col) := a.place e
    if a.ent.op.f 22 1 = 0 then k.rectRuns t d.fmt row 1 col n else k.rectRuns t d.fmt row n col 1

/-- The runs that an LDT covers. -/
def SeAct.allRuns (k : Core) (a : SeAct) : List Range :=
  let o := a.ent.op
  let d := a.desc 0
  if isV o.tgt || isTb o.tgt then a.elemRuns k 0 d.count
  else
    let (m, n) := tileRect o d
    k.rectRuns o.tgt d.fmt (o.f 10 10) m (o.f 0 10) n

/-- The codes that an STT stores for the elements of unit u, each with whether it saturates. An element that an engine's
instruction in flight writes is read old or new: a free value here (R107, log 16). -/
def State.sttCodes (s : State) (c : Nat) (a : SeAct) (u : Nat) : State × List (Nat × Bool) :=
  let k := s.core c
  let d := a.desc 0
  let e := (d.unitAt .linear u).1
  (List.range (d.unitCount .linear u)).foldl (fun (b : State × List (Nat × Bool)) i =>
    if k.unsettled 4 (a.elemRuns k (e + i) 1) = [] then (b.1, b.2 ++ [a.storedCode k (e + i)])
    else
      let (s1, l) := b.1.freeBytes 80
      (s1, b.2 ++ [(leNat l % 2 ^ fmtWidth d.fmt, false)])) (s, [])

/-- The bytes that an STT stores in unit u, and its saturations, each element counted once. The planes of a format stored in
planes land in separate writes; that an element counts with its plane 0 is this model's DESIGN CHOICE (log 66). -/
def SeAct.sttData (a : SeAct) (u : Nat) (codes : List (Nat × Bool)) : List Byte × Nat :=
  let d := a.desc 0
  let (_, p, part) := d.unitAt .linear u
  let n := d.unitCount .linear u
  let sats := if p = 0 ∧ part = 0 then (codes.filter (·.2)).length else 0
  if fmtPlane d.fmt then
    (leBytes (ceilDiv n 8) ((List.range n).foldl (fun v i => v + ((codes.getD i (0, false)).1 / 2 ^ p % 2) * 2 ^ i) 0), sats)
  else if d.fmt = 0x31 then (leBytes 16 ((codes.getD 0 (0, false)).1 / 2 ^ (128 * part)), sats)
  else (codes.flatMap (fun x => leBytes (fmtBytes d.fmt) x.1), sats)

/-- An STT reads a tile or segment with VALID 0 in unit u (R346). -/
def SeAct.readsStale (k : Core) (a : SeAct) (u : Nat) : Bool :=
  let t := a.ent.op.tgt
  let d := a.desc 0
  if isV t || isTb t then
    let lo := (a.ent.op.f 0 18 + (d.unitAt .linear u).1) * fmtBytes d.fmt
    !k.segsOk t lo (lo + d.unitCount .linear u * fmtBytes d.fmt)
  else !k.tilesValid t

/-- The bytes that a FILL stores in unit u (R320). -/
def SeAct.fillData (a : SeAct) (u : Nat) : List Byte :=
  let d := a.desc 0
  let v := (a.ent.val 0).toNat
  if fmtPlane d.fmt then
    let (_, p, _) := d.unitAt .linear u
    let n := d.unitCount .linear u
    maskBits (List.replicate (ceilDiv n 8) (if v / 2 ^ p % 2 = 1 then 0xFF else 0)) n
  else if d.fmt = 0x20 then (List.range 64).flatMap (fun _ => leBytes 4 v)
  else if d.fmt = 0x31 then leBytes 16 (toBits 640 (signed 64 v) / 2 ^ (128 * (d.unitAt .linear u).2.2))
  else leBytes (fmtBytes d.fmt) (toBits (fmtWidth d.fmt) (signed 64 v))

/-! ### Seed expansion (R192, R193) -/

/-- Accepted words of a run of candidates, up to `n`. -/
def acceptWords (q : Nat) (n : Nat) (l : List Byte) : List Nat :=
  ((List.range (l.length / 4)).filterMap (fun i =>
    let v := leAt l (4 * i) 4 % 2 ^ (Nat.log2 q + 1)
    if v < q then some v else none)).take n

/-- Words of one segment, from the XOF's state on; the counter bounds the blocks drawn. -/
def expandFrom (q : Nat) : Nat → List Word → Nat → List Nat
  | 0, _, _ => []
  | fuel + 1, st, need =>
    if need = 0 then []
    else
      let block := (List.range 17).flatMap (fun i => leBytes 8 (st.getD i 0).toNat)
      let ws := acceptWords q need block
      ws ++ expandFrom q fuel (keccakF st) (need - ws.length)

/-- The XOF input of Table 7-4. -/
def xofInput (hdr : List Byte) (j r g q : Nat) : List Byte :=
  bytesAt hdr 48 32 ++ [0xA1] ++ bytesAt hdr 6 1 ++ leBytes 1 j ++ leBytes 1 r ++ leBytes 1 g ++ bytesAt hdr 7 1 ++ [0, 0] ++
  bytesAt hdr 32 4 ++ leBytes 4 q

/-- Segment g of an a-half slice: 4,096 words. -/
def expandSegment (hdr : List Byte) (j r g q : Nat) : List Nat :=
  let p := xofInput hdr j r g q ++ [0x1F] ++ List.replicate 86 0 ++ [0x80]
  expandFrom q 65536 (absorb (List.replicate 25 0) (bytesAt p 0 136)) 4096

/-- The words that a KEXP writes in unit u of its a destination; the header lies in the walker's store. -/
def SeAct.kexpA (s : State) (a : SeAct) (u : Nat) : List Byte :=
  let (j, r, w) := a.keySlice s u
  let q := match (s.chain (a.desc 1).chain).bind (fun ch => ch.primes[r]?) with | some p => p.q | none => 1
  let seg := expandSegment (a.descs.getD 4 []) j r (w / 4096) q
  (List.range 64).flatMap (fun i => leBytes 4 (seg.getD (w % 4096 + i) 0))

/-- The bytes that unit u writes, but for those of an STT. -/
def SeAct.unitData (s : State) (a : SeAct) (u len : Nat) : List Byte :=
  let c := a.ent.op.code
  if c = 0x7D then a.fillData u
  else if c = 0x74 then leBytes len (a.ent.val 0).toNat
  else if c = 0x75 then bytesAt (a.descs.getD 0 []) 0 128
  else if c = 0x7F ∧ a.bUnits ≤ u then a.kexpA s (u - a.bUnits)
  else
    let d := if c = 0x79 then a.desc 1 else a.desc 0
    let raw := a.unitGot u len
    if fmtPlane d.fmt ∧ a.cut ≠ .single then maskBits raw (d.unitCount a.cut u) else raw

/-! ### Overlap (R77) -/

/-- Two accesses share bytes. -/
def State.accMeet (s : State) (x y : Acc) : Bool :=
  (x.module == y.module || (s.isLocal x.module && s.isLocal y.module)) && x.space == y.space &&
  decide (x.off < y.off + y.len) && decide (y.off < x.off + x.len)

/-- Two accesses are the same bytes. -/
def State.accSame (s : State) (x y : Acc) : Bool :=
  (x.module == y.module || (s.isLocal x.module && s.isLocal y.module)) && x.space == y.space && x.off == y.off && x.len == y.len

/-- The source tensors of an instruction that writes memory. -/
def SeAct.sources (a : SeAct) : List Desc :=
  let c := a.ent.op.code
  if c = 0x70 ∨ c = 0x7A ∨ c = 0x7B ∨ c = 0x7C then [a.desc 1]
  else if a.ent.op.walks then [a.desc 1, a.desc 2]
  else if c = 0x7F then [a.desc 0]
  else []

/-- A source and the destination of unit u give every element the same address. -/
def SeAct.sameAddresses (s : State) (a : SeAct) (src : Desc) (u : Nat) : Bool :=
  if a.ent.op.code = 0x7F then
    decide (u < a.bUnits) && (List.range a.bUnits).all (fun v => match a.readNeed s v, a.writeNeed v with
      | .acc x, .acc y => s.accSame x y
      | _, _ => false)
  else
    let dst := a.desc 0
    (List.range (dst.units .linear)).all (fun v =>
      let (e, p, k) := dst.unitAt .linear v
      s.accSame (dst.acc .linear v) (src.accAt .linear (coordsOf dst.extents e) p k))

/-- The least and the greatest offset that a tensor's units can have. -/
def Desc.hull (d : Desc) : Int × Int :=
  let reach (i : Nat) : Int := if fmtPlane d.fmt ∧ i = 5 then ((d.planes : Int) - 1) * d.stride 5
    else if fmtPlane d.fmt ∧ i = 0 then 0 else ((d.extent i : Int) - 1) * d.stride i
  let o := d.elemOff []
  ((List.range 6).foldl (fun v i => v + min 0 (reach i)) o,
   (List.range 6).foldl (fun v i => v + max 0 (reach i)) o + (if fmtPlane d.fmt then d.rowBytes else 80))

/-- The units of source tensors that share bytes with the write `x` of unit u in a way that leaves the values there
unspecified. -/
def SeAct.blurs (s : State) (a : SeAct) (u : Nat) (x : Acc) : List Acc :=
  (a.sources.filter (fun d => decide (x.off < d.hull.2) && decide (d.hull.1 < x.off + x.len) && !a.sameAddresses s d u)).flatMap
    (fun d => ((List.range (d.units .linear)).map (d.acc .linear)).filter (s.accMeet x))

/-- The data of a unit with free values in the bytes that R77 leaves unspecified. -/
def State.unspecify (s : State) (a : SeAct) (u : Nat) (x : Acc) (data : List Byte) : State × List Byte :=
  match a.blurs s u x with
  | [] => (s, data)
  | l => (List.range data.length).foldl (fun (b : State × List Byte) (i : Nat) =>
      if l.any (fun y => decide (y.off ≤ x.off + i) && decide (x.off + i < y.off + y.len)) then
        let (s1, v) := b.1.freeBytes 1
        (s1, b.2.set i (v.getD 0 0))
      else b) (s, data)

/-- A GATHER or SCATTER within one tensor writes nothing before every element has been read (R77). -/
def SeAct.readsFirst (s : State) (c : Nat) (a : SeAct) : Bool :=
  a.ent.op.walks && a.sameAddresses s (a.desc 1) 0 &&
  (decide (a.front s c false < a.total) || a.xfers.any (fun x => x.pool == 0))

/-! ### Landing -/

/-- The physical pieces of an access of core `c`: key and length. -/
def State.accPieces (s : State) (c : Nat) (x : Acc) : List (Nat × Nat) := s.pieces (s.viewOf c) x.space x.off.toNat x.len

/-- Accesses of core `c` cross its stream port (R584). -/
def State.crossAll (s : State) (c : Nat) (l : List Acc) : State := l.foldl (fun s x => s.streamCross c x x.len) s

/-- One read transfer of core `c` through the check bits: it delivers all or nothing (R314). -/
def State.readAll (s : State) (c : Nat) (l : List Acc) (found : List (Nat × EccFind)) : State × Bool :=
  (s.crossAll c l).readThrough (.pour (s.viewOf c)) found 0 c (l.flatMap (s.accPieces c))

/-- The bytes of an access of core `c`. -/
def State.accData (s : State) (c : Nat) (x : Acc) : List Byte := s.spanBytes (.pour (s.viewOf c)) (s.accPieces c x)

/-- Prepare the tile that an LDT is about to write for the first time: its FORMAT in shape-in-instruction mode, and zeros
when that changes (R102). -/
def State.openTile (s : State) (c : Nat) (a : SeAct) : State :=
  let t := a.ent.op.tgt
  let f := BitVec.ofNat 8 (a.desc 0).fmt
  if a.landed ∨ s.declared c = true ∨ isC t = true ∨ isV t = true ∨ isTb t = true then s
  else
    let stale := (tilesOf t).filter (fun u => ((s.core c).tile u).fmt != f)
    let s1 := s.modCore c (fun k => stale.foldl (fun k u =>
      (k.modTile u (fun x => { x with data := [], cells := [], fmt := f })).dropLatch u) k)
    (s1.mixFlights c 4 (stale.map (fun u => ⟨u, 0, 2 * tileBytes u⟩))).modAct c a.id (fun a => { a with wrote := a.wrote ++ stale })

/-- Write element e of an LDT with its code (R102, R103, R313). -/
def State.loadElem (s : State) (c : Nat) (a : SeAct) (e code : Nat) : State :=
  let o := a.ent.op
  let t := o.tgt
  let f := (a.desc 0).fmt
  if isV t || isTb t then
    s.modCore c (fun k => let b := k.buf t
      k.setBuf t { b with data := writeBytes b.data ((o.f 0 18 + e) * fmtBytes f) (leBytes (fmtBytes f) code) })
  else
    let (row, col) := a.place e
    if isC t then
      let w := ((s.core c).tile t).cls == .w
      let off := cOff w row col
      -- a residue accumulator has no status bits (R43)
      let (v, st) := if ((s.core c).tile t).cls = .r then (code % 2 ^ accBits w, 0#3) else accUnpack (accBits w) code
      let (old, ost) := ((s.core c).tile t).acc w off
      let s1 := if o.f 21 1 = 1 then s.putAcc c t w off (signed (accBits w) old + signed (accBits w) v) (ost ||| st)
        else s.modCore c (fun k => k.modTile t (fun x => x.setAcc w off v st))
      s1.modCore c (fun k => (k.modTile t (fun x => { x with mag := Sparse.set 0 x.mag col 0xFFFFFFFF#32 })).dropLatch t)
    else if isB t then s.modCore c (fun k => (k.modTile t (fun x => x.setB f row col code)).dropLatch t)
    else s.modCore c (fun k => (k.setAElem t (storedWidth f) row col code).dropLatch (aPlace t (storedWidth f) row col).1)

/-- The code of element i of the units `g` of a group, from what has arrived (R60). -/
def SeAct.arrivedCode (a : SeAct) (g : List Nat) (i : Nat) : Nat :=
  let d := a.desc 0
  if fmtPlane d.fmt then
    (List.range d.planes).foldl (fun v p =>
      v + ((Sparse.get 0 a.got (256 * g.getD p 0 + i / 8)).toNat / 2 ^ (i % 8) % 2) * 2 ^ p) 0
  else if d.fmt = 0x31 then leNat (g.flatMap (fun u => a.unitGot u 16))
  else leNat (readBytes a.got (256 * g.headD 0 + i * fmtBytes d.fmt) (fmtBytes d.fmt))

/-- Land the elements of the group of unit u in the tile once all its units have arrived. -/
def State.landGroup (s : State) (c id u : Nat) : State :=
  match (s.core c).actOf id with
  | none => s
  | some a =>
    let d := a.desc 0
    let g := d.unitGroup u
    if g.all (Sparse.get false a.arrived) then
      let e := (d.unitAt .linear (g.headD 0)).1
      let n := d.unitCount .linear u
      let s1 := s.openTile c a
      let s2 := (List.range n).foldl (fun s i => s.loadElem c a (e + i) (a.arrivedCode g i)) s1
      let runs := a.elemRuns (s2.core c) e n
      (s2.mixFlights c 4 runs).modAct c id (fun a => { a with landed := true, wrote := a.wrote ++ (runs.map (·.buf)).eraseDups.filter (fun t => !a.wrote.contains t) })
    else s

/-- The prime of RADD's source words in unit u (R318). -/
def SeAct.raddPrime (s : State) (a : SeAct) (u : Nat) : Nat :=
  match s.chain (a.ent.op.f 14 3) with
  | some ch => ((ch.primes[raddSel ch a.ent.op (64 * u)]?).map (·.q)).getD 0
  | none => 0

/-- A word of RADD's source in unit u is not below its prime (R318). -/
def SeAct.raddBad (s : State) (a : SeAct) (u : Nat) (data : List Byte) : Bool :=
  a.ent.op.code == 0x7C && (List.range (data.length / 4)).any (fun i => decide (a.raddPrime s u ≤ leAt data (4 * i) 4))

/-- Data of unit u arrive: they are kept for the write phase, and land in the tile for an LDT. -/
def State.arrive (s : State) (c id u : Nat) (data : List Byte) : State :=
  let s1 := s.modAct c id (fun a => { a with got := writeBytes a.got (256 * u) data, arrived := Sparse.set false a.arrived u true })
  match (s.core c).actOf id with
  | none => s
  | some a => if a.ent.op.code = 0x76 then s1.landGroup c id u else s1

/-- The accesses that units read, each with its unit. -/
def SeAct.readAccs (s : State) (a : SeAct) (units : List Nat) : List (Nat × Acc) :=
  units.filterMap (fun u => match a.readNeed s u with | .acc x => some (u, x) | _ => none)

/-- What the read of an access delivers for its unit: its bytes, or its bit. -/
def State.unitIn (s : State) (c : Nat) (x : Acc) : List Byte :=
  let l := s.accData c x
  match x.bit with
  | some b => [if bitAt (l.getD 0 0) b.1 then 1#8 else 0#8]
  | none => l

/-- The read of units u to u + n − 1 completes, whole or not at all (R314); with the fault it raises. -/
def State.landReads (s : State) (c id : Nat) (found : List (Nat × EccFind)) (n u : Nat) : State × Option (BitVec 8) :=
  match (s.core c).actOf id with
  | none => (s, none)
  | some a =>
    let l := a.readAccs s ((List.range n).map (fun i => u + i))
    match s.readAll c (l.map (·.2)) found with
    | (s1, false) => (s1, some fEcc)
    | (s1, true) =>
      (l.foldl (fun s' x => s'.arrive c id x.1 (s.unitIn c x.2)) s1,
       if l.any (fun x => a.raddBad s x.1 (s.unitIn c x.2)) then some fModulus else none)

/-- What a write transfer carries: its accesses with their bytes, the elements that saturate, and whether an STT read what
is not valid. -/
structure Batch where
  data : List (Acc × List Byte)
  sats : Nat
  stale : Bool
deriving DecidableEq, Repr

/-- The bytes that unit u puts into access `x`, and its saturations. What a KEXP delivers of a key that was written under it
is unspecified (R200). -/
def State.unitOut (s : State) (c : Nat) (a : SeAct) (u : Nat) (x : Acc) : State × List Byte × Nat :=
  if a.ent.op.code = 0x77 then
    let (s1, codes) := s.sttCodes c a u
    let (d, n) := a.sttData u codes
    (s1, d, n)
  else if a.dirty then
    let (s1, d) := s.freeBytes x.len
    (s1, d, 0)
  else
    let (s1, d) := s.unspecify a u x (a.unitData s u x.len)
    (s1, d, 0)

/-- The byte at which a unit of one bit is put, as the transfer has left it so far. -/
def State.byteSoFar (s : State) (c : Nat) (b : Batch) (x : Acc) : Byte :=
  match b.data.reverse.find? (fun y => y.1.space == x.space && y.1.off == x.off) with
  | some y => y.2.headD 0
  | none => (s.accData c x).headD 0

/-- Add unit u to a write transfer. A unit of one bit changes that bit of its byte, and clears those beyond the row's extent
(R61). -/
def State.addUnit (s : State) (c : Nat) (a : SeAct) (b : Batch) (u : Nat) : State × Batch :=
  match a.writeNeed u with
  | .acc x =>
    let (s1, d, n) := s.unitOut c a u x
    let d' := match x.bit with
      | none => d
      | some (i, keep) =>
        let old := s.byteSoFar c b x
        let m : Byte := 1#8 <<< i
        [BitVec.ofNat 8 ((if bitAt (d.getD 0 0) 0 then old ||| m else old &&& ~~~m).toNat % 2 ^ keep)]
    (s1, ⟨b.data ++ [(x, d')], b.sats + n, b.stale || (a.ent.op.code == 0x77 && a.readsStale (s.core c) u)⟩)
  | _ => (s, b)

/-- The write of units u to u + n − 1 lands, whole or not at all (R314); with the fault it raises. -/
def State.landWrites (s : State) (c id : Nat) (found : List (Nat × EccFind)) (n u : Nat) : State × Option (BitVec 8) :=
  match (s.core c).actOf id with
  | none => (s, none)
  | some a =>
    let (s1, b) := ((List.range n).map (fun i => u + i)).foldl (fun (x : State × Batch) v => x.1.addUnit c a x.2 v) (s, ⟨[], 0, false⟩)
    match (s1.crossAll c (b.data.map (·.1))).writeSpans (.pour (s.viewOf c)) found 0 c
        (b.data.flatMap (fun x => spread (s.accPieces c x.1) x.2)) with
    | (s2, false) => (s2, some fEcc)
    | (s2, true) =>
      let second := a.ent.op.code == 0x7F && decide (a.bUnits ≤ u)
      -- an instruction's own writes are no concurrent write of its key
      ((if b.sats = 0 then s2 else s2.addSat c false b.sats).modAct c id (fun x =>
        { x with landed := x.landed || !second, landed2 := x.landed2 || second, stale := x.stale || b.stale, dirty := a.dirty }), none)

/-- Free values in every destination word that a KEXP has delivered from a key that was written under it (R200). -/
def State.spoil (s : State) (c : Nat) (a : SeAct) : State :=
  if a.dirty then
    (List.range a.nextW).foldl (fun s u => match a.writeNeed u with
      | .acc x =>
        let (s1, d) := s.freeBytes x.len
        (spread (s.accPieces c x) d).foldl (fun s y => s.writeRun (.pour (s.viewOf c)) y.1 y.2) s1
      | _ => s) s
  else s

/-! ### Faults and ends -/

/-- The memory destination slots that an abort marks (R79, R201). -/
def SeAct.poisoned (a : SeAct) : List Nat :=
  let o := a.ent.op
  let c := o.code
  if c = 0x7F then (if o.half 0 && a.landed then [o.x 34 10] else []) ++ (if o.half 1 && a.landed2 then [o.x 24 10] else [])
  else if a.landed then
    (if c = 0x70 ∨ c = 0x78 ∨ c = 0x79 ∨ c = 0x7A ∨ c = 0x7B ∨ c = 0x7C ∨ c = 0x7D then [o.f 27 10]
     else if c = 0x77 then [o.f 23 10] else [])
  else []

/-- Remove an active instruction. -/
def Core.dropAct (k : Core) (id : Nat) : Core := { k with se := { k.se with active := k.se.active.filter (fun a => a.id != id) } }

/-- Finish an abort once no transfer is outstanding (R259, R314): the place in the signal queue is released, the tile or
segments become invalid, and written slots become POISON. -/
def State.settle (s : State) (c id : Nat) : State :=
  match (s.core c).actOf id with
  | none => s
  | some a =>
    if a.fault.isNone ∨ a.xfers ≠ [] then s
    else
      let s1 := (s.spoil c a).modCore c (fun k =>
        let k1 := (k.dropAct id).release a.ent.op
        let k2 := a.poisoned.foldl Core.setPoison k1
        if a.ent.op.code = 0x76 ∧ a.landed = true then
          k2.invalidate ((a.allRuns k).filter (fun r => isV r.buf || isTb r.buf) ++ a.wrote.map (fun t => ⟨t, 0, 0⟩))
        else k2)
      (s1.unbusy a.ent).progress c

/-- Instruction `id` faults: it issues no further transfer, and its pour ends (R270, R314). -/
def State.seFault (s : State) (c id : Nat) (code : BitVec 8) : State :=
  match (s.core c).actOf id with
  | none => s
  | some a =>
    let s1 := if a.fault.isNone then
        (s.modAct c id (fun a => { a with fault := some code })).pourFault c 4 a.ent.op.thread a.ent.pc a.ent.op.word code
      else s
    s1.settle c id

/-- End a transfer: its tag is free. -/
def State.endXfer (s : State) (c id num : Nat) : State :=
  s.modAct c id (fun a => { a with xfers := a.xfers.filter (fun x => x.num != num) })

/-- A post or token that reaches a logical core of flask `f`, resident or parked (R303, R503). -/
def State.postTo (s : State) (f l pair : Nat) (empty : Bool) (n : Nat) : State :=
  if (s.flask f).shares.any (fun x => x.parked == l) then
    s.modFlask f (fun x => { x with shares := x.shares.map (fun y =>
      if y.parked = l then { y with image := { y.image with rcd := { y.image.rcd with
        sems := Sparse.modify ⟨0, 0⟩ y.image.rcd.sems pair (fun v =>
          if empty then { v with empty := satAdd 0xFFFF v.empty n } else { v with full := satAdd 0xFFFF v.full n }) } } } else y) })
  else match (s.flask f).map[l]? with
    | some c => s.modCore c (fun k => k.post pair empty n)
    | none => s

/-! ### Rows -/

/-- LD: enters the stream-engine queue (R252, R308). -/
def execLd (i : Ins) (s : State) : Host.Outcome State Fault Refusal := .next (s.issue ⟨0x70, i⟩ (fun s => s.enqueue ⟨0x70, i⟩))
/-- LD.S. -/
def execLdS (i : Ins) (s : State) : Host.Outcome State Fault Refusal := .next (s.issue ⟨0x71, i⟩ (fun s => s.enqueue ⟨0x71, i⟩))
/-- LD.H. -/
def execLdH (i : Ins) (s : State) : Host.Outcome State Fault Refusal := .next (s.issue ⟨0x72, i⟩ (fun s => s.enqueue ⟨0x72, i⟩))
/-- LD.C. -/
def execLdC (i : Ins) (s : State) : Host.Outcome State Fault Refusal := .next (s.issue ⟨0x73, i⟩ (fun s => s.enqueue ⟨0x73, i⟩))
/-- ST.S. -/
def execStS (i : Ins) (s : State) : Host.Outcome State Fault Refusal := .next (s.issue ⟨0x74, i⟩ (fun s => s.enqueue ⟨0x74, i⟩))
/-- ST.H. -/
def execStH (i : Ins) (s : State) : Host.Outcome State Fault Refusal := .next (s.issue ⟨0x75, i⟩ (fun s => s.enqueue ⟨0x75, i⟩))
/-- LDT. -/
def execLdt (i : Ins) (s : State) : Host.Outcome State Fault Refusal := .next (s.issue ⟨0x76, i⟩ (fun s => s.enqueue ⟨0x76, i⟩))
/-- STT. -/
def execStt (i : Ins) (s : State) : Host.Outcome State Fault Refusal := .next (s.issue ⟨0x77, i⟩ (fun s => s.enqueue ⟨0x77, i⟩))
/-- GATHER. -/
def execGather (i : Ins) (s : State) : Host.Outcome State Fault Refusal := .next (s.issue ⟨0x78, i⟩ (fun s => s.enqueue ⟨0x78, i⟩))
/-- SCATTER. -/
def execScatter (i : Ins) (s : State) : Host.Outcome State Fault Refusal := .next (s.issue ⟨0x79, i⟩ (fun s => s.enqueue ⟨0x79, i⟩))
/-- RPUT. -/
def execRput (i : Ins) (s : State) : Host.Outcome State Fault Refusal := .next (s.issue ⟨0x7A, i⟩ (fun s => s.enqueue ⟨0x7A, i⟩))
/-- RGET. -/
def execRget (i : Ins) (s : State) : Host.Outcome State Fault Refusal := .next (s.issue ⟨0x7B, i⟩ (fun s => s.enqueue ⟨0x7B, i⟩))
/-- RADD. -/
def execRadd (i : Ins) (s : State) : Host.Outcome State Fault Refusal := .next (s.issue ⟨0x7C, i⟩ (fun s => s.enqueue ⟨0x7C, i⟩))
/-- FILL. -/
def execFill (i : Ins) (s : State) : Host.Outcome State Fault Refusal := .next (s.issue ⟨0x7D, i⟩ (fun s => s.enqueue ⟨0x7D, i⟩))
/-- CKSUM. -/
def execCksum (i : Ins) (s : State) : Host.Outcome State Fault Refusal := .next (s.issue ⟨0x7E, i⟩ (fun s => s.enqueue ⟨0x7E, i⟩))
/-- KEXP. -/
def execKexp (i : Ins) (s : State) : Host.Outcome State Fault Refusal := .next (s.issue ⟨0x7F, i⟩ (fun s => s.enqueue ⟨0x7F, i⟩))

/-- The head of the stream engine's queue may start (R256, R343, R552). -/
def State.seReady (s : State) (c : Nat) (e : QEnt) : Bool :=
  s.coreAlive c && decide (0 < s.dutyOf c 0) && (s.core c).tokenReady 4 e && decide ((s.core c).se.active.length < 8)

/-- SE_INSTRUCTION_START (R323, R343): the head makes its start checks and becomes active with copies of its
descriptors. -/
def execSeInstructionStart (c : Fin 64) (s : State) : Host.Outcome State Fault Refusal :=
  .next (match (s.core c).se.queue with
    | [] => s
    | e :: _ =>
      if s.seReady c e then
        let s0 := s.popHead c 4 e
        match seCheck s0 c e with
        | some code =>
          (((s0.modCore c (fun k => k.release e.op)).unbusy e).progress c).pourFault c 4 e.op.thread e.pc e.op.word code
        | none =>
          let k := s0.core c
          let a : SeAct :=
            { id := k.se.nextId, ent := e, descs := e.op.copied.map (fun h => (k.desc h).raw), total := 0, nextR := 0,
              nextW := 0, xfers := [], landed := false, landed2 := false, stale := false, fault := none, got := [],
              arrived := [], index := [], walked := 0, cuts := [], wrote := [], checked := false, key := [], dirty := false,
              posted := 0 }
          s0.modCore c (fun k => { k with se := { k.se with
            active := k.se.active ++ [{ a with total := seTotal s0 k a }], nextId := k.se.nextId + 1 } })
      else s)

/-- A remote request frame of a transfer. -/
def State.request (s : State) (c ins : Nat) (type : BitVec 8) (x : Acc) (tag : Nat) (payload : List Byte) : FabFrame :=
  { type := type, payload := payload,
    hdr := { FabHdr.zero with
      dst := BitVec.ofNat 12 x.module, src := s.ownAddr, orig := BitVec.ofNat 6 c, tag := BitVec.ofNat 8 tag, ins := ins,
      addr := BitVec.ofNat 64 (x.module * 2 ^ 52 + x.space * 2 ^ 48 + x.off.toNat) } }

/-- The payload of an RPUT or RADD transfer of units u to u + n − 1. -/
def State.remoteData (s : State) (c : Nat) (a : SeAct) : Nat → Nat → State × List Byte
  | 0, _ => (s, [])
  | n + 1, u =>
    match a.writeNeed u with
    | .acc x =>
      let (s1, l, _) := s.unitOut c a u x
      let (s2, r) := State.remoteData s1 c a n (u + 1)
      (s2, l ++ r)
    | _ => State.remoteData s c a n (u + 1)

/-- Issue a transfer of units u0 to u0 + n − 1 in a phase. -/
def State.issueXfer (s : State) (c : Nat) (a : SeAct) (write : Bool) (u0 n : Nat) (x : Acc) : State :=
  let remote := if write then a.ent.op.remoteWrite else a.ent.op.remoteRead
  let pool := if remote then 2 else if write then 1 else 0
  let tag := (s.core c).newTag
  let s1 := (s.modAct c a.id (fun a => if write then { a with nextW := u0 + n } else { a with nextR := u0 + n })).addXfer
    c a.id .data pool u0 n (x.block remote) (if pool = 1 then s.writePath c x else [])
  if !remote then s1
  else if write then
    let (s2, data) := s1.remoteData c a n u0
    let f := s2.request c a.id (if a.ent.op.code = 0x7C then 0x11 else 0x10) x tag data
    let ch := s.chain (a.ent.op.f 14 3)
    let g : FabFrame := if a.ent.op.code = 0x7C then
        { f with hdr := { f.hdr with chain := BitVec.ofNat 3 (a.ent.op.f 14 3), step := a.ent.op.f 7 1 == 1,
                                     sel := BitVec.ofNat 6 ((ch.map (fun ch => raddSel ch a.ent.op (64 * u0))).getD 0) } }
      else f
    (s2.crossed c data.length).fabSend g
  else
    let last := match a.readNeed s (u0 + n - 1) with | .acc y => y | _ => x
    s1.fabSend (s1.request c a.id 0x12 x tag (leBytes 4 (last.off + last.len - x.off).toNat))

/-- Try to issue the next transfer of a phase: none when nothing is ready, or no tag is free. A unit that fails its check
faults. -/
def State.tryPhase (s : State) (c : Nat) (a : SeAct) (write : Bool) : Option State :=
  let u := a.front s c write
  if a.total ≤ u then none
  else
    let remote := if write then a.ent.op.remoteWrite else a.ent.op.remoteRead
    let pool := if remote then 2 else if write then 1 else 0
    match a.phaseNeed s c write u with
    | .bad code => some (s.seFault c a.id code)
    | .acc x =>
      if (remote && a.xfers.any (fun y => y.pool == 2 && y.blk == x.block true)) || (!remote && !s.stackOpen x) ||
          !(s.core c).tagFree pool || (write && a.readsFirst s c) then none
      else
        match a.extend s c write remote u x 4096 (u + 1) x with
        | none => none
        | some n =>
          if write && !(List.range n).all (fun i => match a.phaseNeed s c true (u + 1 + i) with | .acc _ => true | _ => false) then none
          else some (s.issueXfer c a write u (n + 1) x)
    | _ => none

/-- The walker serves one GATHER or SCATTER at a time, in their order (R348). -/
def Core.walkerOf (k : Core) : Option SeAct :=
  k.se.active.find? (fun a => a.ent.op.walks && a.fault.isNone && decide (0 < a.total) &&
    (decide (a.walked < (a.desc 2).count) || a.xfers.any (fun x => x.kind == .walker)))

/-- The walker may read ahead: it serves this instruction, and at most 4 of its transfers lie ahead of the index of the next
element to be read (R347). -/
def SeAct.walkerDue (s : State) (c : Nat) (a : SeAct) : Bool :=
  let u := a.front s c false
  let walked := if a.ent.op.code = 0x78 then a.desc 0 else a.desc 1
  let j := (coordsOf walked.extents (walked.unitAt a.cut (min u (a.total - 1))).1).getD (a.desc 2).dim 0
  ((s.core c).walkerOf.map (·.id)) == some a.id && decide (a.walked < (a.desc 2).count) &&
  decide ((a.cuts.filter (fun i => decide (j < i))).length < 4)

/-- How many indices, from `i` on, the walker's next transfer reads: up to 128 of one line that pass R24. -/
def State.walkLength (s : State) (c : Nat) (d : Desc) (i : Nat) : Nat :=
  let x := d.acc .single i
  ((List.range (min 128 (d.count - i))).takeWhile (fun j =>
    let y := d.acc .single (i + j)
    decide (y.off / 512 = x.off / 512) && (s.checkAccess c y.module y.space y.cOff y.cLen).isNone)).length

/-- Issue the walker's next read for a GATHER or SCATTER. -/
def State.issueWalker (s : State) (c : Nat) (a : SeAct) : Option State :=
  let d := a.desc 2
  let x := d.acc .single a.walked
  match s.checkAccess c x.module x.space x.cOff x.cLen with
  | some code => some (s.seFault c a.id code)
  | none =>
    if !(s.core c).tagFree 0 || !s.stackOpen x then none
    else
      let n := s.walkLength c d a.walked
      some ((s.modAct c a.id (fun b => { b with walked := a.walked + n, cuts := b.cuts ++ [a.walked] })).addXfer
        c a.id .walker 0 a.walked n (x.block false) [])

/-- The instruction still owes a post to its destination module (R350, R446). -/
def SeAct.owesPost (a : SeAct) : Bool :=
  a.ent.op.remoteWrite && (a.ent.op.x 23 1 == 1 || a.ent.op.x 7 1 == 1) && a.posted == 0

/-- Every unit has been read and written. -/
def SeAct.moved (s : State) (c : Nat) (a : SeAct) : Bool :=
  decide (a.total ≤ a.front s c false) && decide (a.total ≤ a.front s c true) && a.xfers == [] &&
  (a.ent.op.code != 0x7F || a.checked || a.total == 0)

/-- The places that the post of an instruction names at its destination (R303, R505). -/
def SeAct.dests (s : State) (a : SeAct) : List Dest :=
  let o := a.ent.op
  let m := if s.isLocal (a.desc 0).module then 0xFFF else (a.desc 0).module
  (if o.x 23 1 = 1 then [⟨m, o.x 8 6, true, o.x 14 8, o.x 22 1 == 1⟩] else []) ++
  (if o.x 7 1 = 1 then [⟨m, o.x 8 6, false, o.x 3 4, false⟩] else [])

/-- Send the POST frame of an instruction (R446), once a tag is free; what a replay must not repeat is left out of it
(R505). -/
def State.issuePost (s : State) (c : Nat) (a : SeAct) : Option State :=
  let o := a.ent.op
  let f := s.viewOf c
  let sup := (s.flask f).suppress
  let ds := a.dests s
  let keep := ds.filter (fun d => !sup.contains d)
  -- what is suppressed beside a part that is sent is delivered again with the answer to that part
  let s1 := s.modFlask f (fun x => { x with
    suppress := ds.foldl (fun l d => l.erase d) x.suppress
    delivered := if keep = [] then x.delivered else (ds.filter (fun d => sup.contains d)).foldl (fun l d => l.erase d) x.delivered })
  if keep = [] then some (s1.modAct c a.id (fun a => { a with posted := 2 }))
  else if !(s.core c).tagFree 2 then none
  else if !s.reachable (a.desc 0).module then some (s1.seFault c a.id fLinkLost)
  else
    let x : Acc := rawAcc (BitVec.ofNat 64 (a.desc 0).base) 1
    let g := s1.request c a.id 0x13 x (s.core c).newTag []
    let h : FabFrame := { g with hdr := { g.hdr with
      spen := keep.any (·.isSem), shalf := o.x 22 1 == 1, spair := BitVec.ofNat 8 (o.x 14 8), pcore := BitVec.ofNat 6 (o.x 8 6),
      rten := keep.any (fun d => !d.isSem), rtq := BitVec.ofNat 4 (o.x 3 4) } }
    some (((s1.modAct c a.id (fun a => { a with posted := 1 })).addXfer c a.id .post 2 0 0 0 []).fabSend h)

/-- The read of a KEXP header (R198): 256 bytes at BASE. -/
def SeAct.headerAcc (a : SeAct) : Acc :=
  let d := a.desc 0
  ⟨d.module, d.space, (d.base % 2 ^ 48 : Nat), 256, (d.base % 2 ^ 48 : Nat), 256, none⟩

/-- The memory that holds the key of a KEXP: header and b-half lie in one span (R191). -/
def SeAct.keySpan (s : State) (c : Nat) (a : SeAct) : List (Nat × Nat) :=
  let d := a.desc 0
  s.pieces (s.viewOf c) d.space (d.base % 2 ^ 48) (256 + 4 * d.count)

/-- Issue the header read of a KEXP. -/
def State.issueHeader (s : State) (c : Nat) (a : SeAct) : Option State :=
  let x := a.headerAcc
  match s.checkAccess c x.module x.space x.cOff x.cLen with
  | some code => some (s.seFault c a.id code)
  | none =>
    if (s.core c).tagFree 0 && s.stackOpen x && a.xfers == [] then
      some ((s.modAct c a.id (fun b => { b with key := a.keySpan s c })).addXfer c a.id .header 0 0 0 (x.block false) [])
    else none

/-- The next transfer of an active instruction, if it has one to issue: a write whose data are there, else a read, else a
read of its walker; a KEXP first reads its header, and a finished RPUT or RADD sends its post. -/
def State.nextOf (s : State) (c : Nat) (a : SeAct) : Option State :=
  if a.fault.isSome then none
  else if a.ent.op.code = 0x7F ∧ a.checked = false ∧ a.total ≠ 0 then s.issueHeader c a
  else if a.moved s c then (if a.owesPost then s.issuePost c a else none)
  else match s.tryPhase c a true with
    | some s1 => some s1
    | none => match s.tryPhase c a false with
      | some s1 => some s1
      | none => if a.walkerDue s c then s.issueWalker c a else none

/-! ### The walker's read of an LMM's index operand (R349) -/

/-- Change the open walk of a core. -/
def State.modWalk (s : State) (c : Nat) (f : Walk → Walk) : State :=
  s.modCore c (fun k => { k with se := { k.se with walk := k.se.walk.map f } })

/-- The head of the limb matrix engine's queue. -/
def Core.lmeHead (k : Core) : Option QEnt := k.lme.queue.head?

/-- The walker begins with the LMM at the head of the limb matrix engine's queue: its walk takes the next number. -/
def State.openWalk (s : State) (c : Nat) (e : QEnt) : State :=
  s.modCore c (fun k => { k with se := { k.se with
    walk := some ⟨k.se.nextId, e, (k.indexDesc e).raw, [], 0, [], none⟩, nextId := k.se.nextId + 1 } })

/-- The next transfer of the open walk: at most 4 outstanding (R347). An index that fails R24 ends the walk. -/
def State.walkNext (s : State) (c : Nat) (w : Walk) : Option State :=
  let d : Desc := ⟨w.desc⟩
  if w.fault.isSome ∨ d.count ≤ w.asked ∨ (s.core c).lmeHead ≠ some w.ent then none
  else
    let x := d.acc .single w.asked
    match s.checkAccess c x.module x.space x.cOff x.cLen with
    | some code => if w.xfers = [] then some (s.modWalk c (fun w => { w with fault := some code })) else none
    | none =>
      if !(s.core c).tagFree 0 || !s.stackOpen x || decide (4 ≤ w.xfers.length) then none
      else
        let n := s.walkLength c d w.asked
        let t : Xfer := ⟨(s.core c).se.nextX, .walker, 0, w.asked, n, x.block false, 0, s.now, []⟩
        some (((s.modWalk c (fun w => { w with asked := w.asked + n, xfers := w.xfers ++ [t] })).modCore c (fun k =>
          { k with se := { k.se with nextX := k.se.nextX + 1 } })).coreEvent c 0x20)

/-- The number of the walk, open or next to open. -/
def State.walkId (s : State) (c : Nat) : Option Nat :=
  match (s.core c).se.walk with
  | some w => some w.id
  | none => match (s.core c).lmeHead with
    | some e => if s.walkDue c e then some (s.core c).se.nextId else none
    | none => none

/-- Issue the next transfer of the walk, which opens if none is open. -/
def State.walkIssue (s : State) (c : Nat) : Option State :=
  match (s.core c).se.walk, (s.core c).lmeHead with
  | some w, _ => s.walkNext c w
  | none, some e =>
    let s1 := s.openWalk c e
    match (s1.core c).se.walk with
    | some w => s1.walkNext c w
    | none => none
  | none, none => none

/-! ### Issue and completion -/

/-- The numbers of what issues transfers on a core, in the round-robin order of R343: from the one after the last that
issued. -/
def State.turnOrder (s : State) (c : Nat) : List Nat :=
  let se := (s.core c).se
  let acts := se.active.map (·.id)
  let ids := match s.walkId c with
    | some w => acts.filter (fun i => decide (i < w)) ++ [w] ++ acts.filter (fun i => decide (w < i))
    | none => acts
  ids.filter (fun i => decide (se.turn < i)) ++ ids.filter (fun i => decide (i ≤ se.turn))

/-- The state after number `id` has issued its next transfer, if it has one to issue. -/
def State.issueOf (s : State) (c id : Nat) : Option State :=
  if s.walkId c = some id then s.walkIssue c else ((s.core c).actOf id).bind (s.nextOf c)

/-- TRANSFER_ISSUE (R340 to R344, R349): active instruction `id`, or the walk for an LMM, issues its next transfer. It is the
first in the round-robin order that has one to issue (R343). -/
def execTransferIssue (c : Fin 64) (id : Nat) (s : State) : Host.Outcome State Fault Refusal :=
  .next (if s.coreAlive c = false ∨ s.dutyOf c 0 = 0 ∨ (s.turnOrder c).find? (fun j => (s.issueOf c j).isSome) ≠ some id then s
    else match s.issueOf c id with
      | some t => t.modCore c (fun k => { k with se := { k.se with turn := id } })
      | none => s)

/-- The instruction that a transfer of core `c` belongs to, and the transfer. -/
def Core.xferOf (k : Core) (num : Nat) : Option (SeAct × Xfer) :=
  k.se.active.findSome? (fun a => (a.xfers.find? (fun x => x.num == num)).map (fun x => (a, x)))

/-- Transfer `num` of the walk. -/
def Core.walkXfer (k : Core) (num : Nat) : Option (Walk × Xfer) :=
  k.se.walk.bind (fun w => (w.xfers.find? (fun x => x.num == num)).map (fun x => (w, x)))

/-- The accesses of indices u to u + n − 1 of an index tensor. -/
def Desc.indexAccs (d : Desc) (n u : Nat) : List Acc := (List.range n).map (fun i => d.acc .single (u + i))

/-- Indices u to u + n − 1 arrive. -/
def State.landWalker (s : State) (c id : Nat) (found : List (Nat × EccFind)) (n u : Nat) : State × Option (BitVec 8) :=
  match (s.core c).actOf id with
  | none => (s, none)
  | some a =>
    let l := (a.desc 2).indexAccs n u
    match s.readAll c l found with
    | (s1, false) => (s1, some fEcc)
    | (s1, true) => (s1.modAct c id (fun a => { a with index := a.index ++ l.map (fun x => leNat (s.accData c x)) }), none)

/-- A walk that no LMM waits for any more is over once it has no transfer. -/
def State.closeWalk (s : State) (c : Nat) : State :=
  s.modCore c (fun k => { k with se := { k.se with
    walk := k.se.walk.filter (fun w => w.xfers != [] || k.lmeHead == some w.ent) } })

/-- A transfer of the walk ends: its indices arrive, or a fault ends the walk. -/
def State.landWalk (s : State) (c : Nat) (w : Walk) (x : Xfer) (found : List (Nat × EccFind)) : State :=
  let gone (w : Walk) : Walk := { w with xfers := w.xfers.filter (fun y => y.num != x.num) }
  let l := (Desc.mk w.desc).indexAccs x.n x.u0
  let r := s.readAll c l found
  (r.1.modWalk c (fun w =>
    if w.fault.isSome then gone w
    else if r.2 then { gone w with got := w.got ++ l.map (fun y => (leNat (s.accData c y), s.cycle)) }
    else { gone w with fault := some fEcc })).closeWalk c

/-- What a local transfer does when it completes. -/
def State.landXfer (s : State) (c id : Nat) (x : Xfer) (found : List (Nat × EccFind)) : State × Option (BitVec 8) :=
  if x.kind = .walker then s.landWalker c id found x.n x.u0
  else if x.pool = 1 then s.landWrites c id found x.n x.u0
  else s.landReads c id found x.n x.u0

/-- A transfer must wait for an earlier one of its instruction: a write for a write to the same line (R344), the walker's for
the indices before its own. -/
def SeAct.mustWait (a : SeAct) (x : Xfer) : Bool :=
  if x.kind = .walker then a.fault.isNone && a.index.length != x.u0
  else x.pool == 1 && a.xfers.any (fun y => y.pool == 1 && y.blk == x.blk && decide (y.num < x.num))

/-- TRANSFER_COMPLETE (R341): a local transfer of data or indices ends within its time; `found` is what the check bits of the
memory show. Remote transfers end by their response frames, and the key header by KEXP_HEADER_ARRIVAL. -/
def execTransferComplete (c : Fin 64) (x : Nat) (found : List (Nat × EccFind)) (s : State) : Host.Outcome State Fault Refusal :=
  .next (match (s.core c).xferOf x, (s.core c).walkXfer x with
    | some (a, t), _ =>
      if s.coreAlive c = false ∨ t.pool = 2 ∨ t.kind = .header ∨ a.mustWait t = true ∨ s.inTime c t = false then s
      else
        let (s1, bad) := s.landXfer c a.id t found
        let s2 := s1.endXfer c a.id x
        match bad with
        | some code => s2.seFault c a.id code
        | none => s2.settle c a.id
    | none, some (w, t) =>
      if s.coreAlive c = false ∨ (w.fault.isNone ∧ w.got.length ≠ t.u0) ∨ s.inTime c t = false then s
      else s.landWalk c w t found
    | none, none => s)

/-- TRANSFER_TIMEOUT (R357, R358): a transfer exceeds its timer. A local write may still land; a remote one may have. -/
def execTransferTimeout (c : Fin 64) (x : Nat) (s : State) : Host.Outcome State Fault Refusal :=
  .next (match (s.core c).xferOf x, (s.core c).walkXfer x with
    | some (a, t), _ =>
      if s.coreAlive c = false ∨ s.inTime c t = true then s
      else
        let late := t.kind == .data && (t.pool == 1 || (t.pool == 2 && a.ent.op.remoteWrite))
        let (s0, coin) := s.freeBytes 1
        let s1 := if late && t.pool == 1 && bitAt (coin.getD 0 0) 0 then (s0.landWrites c a.id [] t.n t.u0).1 else s0
        let second := a.ent.op.code == 0x7F && decide (a.bUnits ≤ t.u0)
        let s2 := if late then s1.modAct c a.id (fun a =>
            { a with landed := a.landed || !second, landed2 := a.landed2 || second }) else s1
        (s2.endXfer c a.id x).seFault c a.id fTimeout
    | none, some (_, t) =>
      if s.coreAlive c = false ∨ s.inTime c t = true then s
      else (s.modWalk c (fun w => { w with
        xfers := w.xfers.filter (fun y => y.num != x), fault := if w.fault.isNone then some fTimeout else w.fault })).closeWalk c
    | none, none => s)

/-- The message of a CKSUM (R321): its units in order. -/
def SeAct.message (s : State) (a : SeAct) : List Byte :=
  (List.range a.total).flatMap (fun u => match a.readNeed s u with
    | .acc x => a.unitData s u x.len
    | _ => [])

/-- The tiles of which an LDT covers every element (R100). The two columns that share a cell of a B tile in column pairing must
both be there. -/
def SeAct.coversTiles (k : Core) (a : SeAct) : List Nat :=
  let o := a.ent.op
  if isB o.tgt then
    (if o.f 10 10 = 0 ∧ o.f 0 10 = 0 ∧ (tileRect o (a.desc 0)).1 * bRows (a.desc 0).fmt = 512 ∧
        (tileRect o (a.desc 0)).2 = (if slots2 (a.desc 0).fmt = 1 then 1024 else 512) then [o.tgt] else [])
  else k.coveredTiles (a.allRuns k)

/-- What an LDT's completion leaves: VALID of what it covers, and BMAG (R100, R115, R158, R207). -/
def Core.ldtDone (k : Core) (a : SeAct) : Core :=
  let t := a.ent.op.tgt
  if a.total = 0 then k
  else if isV t || isTb t then k.coverSegs (a.allRuns k)
  else
    let k1 := (a.coversTiles k).foldl (fun k u => k.modTile u (fun x => { x with valid := true })) k
    if isB t then (k1.bmags t).foldl (fun k m => k.modTile m.1 (fun x => { x with mag := Sparse.set 0 x.mag m.2.1 m.2.2 })) k1
    else k1

/-- SE_INSTRUCTION_COMPLETE (R260, R302 to R306): every write has landed. Loads of registers, slots and chain entries take
effect, and the token and the post are made. -/
def execSeInstructionComplete (c : Fin 64) (id : Nat) (s : State) : Host.Outcome State Fault Refusal :=
  .next (match (s.core c).actOf id with
    | none => s
    | some a =>
      if s.coreAlive c = false ∨ a.fault.isSome ∨ a.moved s c = false ∨ a.owesPost = true ∨ a.posted = 1 then s
      else
        let o := a.ent.op
        let code := o.code
        let s1 :=
          if code = 0x71 then
            s.modThread c o.thread (fun t => t.setReg (o.f 32 5) (BitVec.ofNat 64 (leNat (a.unitGot 0 o.szBytes))))
          else if code = 0x7E then
            s.modThread c o.thread (fun t => t.setReg (o.f 22 5)
              (if a.total = 0 then 0 else (crc32c (a.message s)).setWidth 64))
          else if code = 0x72 then s.modCore c (fun k => k.setSlot (o.f 27 10) 0 (a.unitGot 0 128))
          else if code = 0x73 then
            s.modCore c (fun k => k.modRec (fun r => { r with ctab := writeBytes r.ctab (64 * o.f 32 5) (a.unitGot 0 64) }))
          else if code = 0x76 then s.modCore c (fun k => k.ldtDone a)
          else if code = 0x77 ∧ a.stale = true then s.modCore c (fun k => k.setPoison (o.f 23 10))
          else s
        let s2 := ((s1.spoil c a).modCore c (fun k => (k.dropAct id).produce o)).unbusy a.ent
        let s3 := if o.x 23 1 = 1 ∧ o.remoteWrite = false then
            s2.postTo (s.viewOf c) (o.x 8 6) (o.x 14 8) (o.x 22 1 == 1) 1 else s2
        s3.progress c)

/-- The header of a key passes check 5 of Table 7-6. -/
def headerOk (h : List Byte) (key : Desc) (ch : Chain) : Bool :=
  leAt h 0 4 == 0x474E4B48 && leAt h 4 2 == 1 && (bytesAt h 80 176).all (· == 0) && leAt h 39 1 == 0 &&
  leAt h 38 1 == ch.k && leAt h 37 1 == ch.l && leAt h 36 1 == key.dnum && leAt h 7 1 == key.keyLogn &&
  leAt h 40 8 == 256 + 4 * 2 ^ key.keyLogn * (key.dnum * (ch.l + ch.k))

/-- Checks 5 to 8 of Table 7-6. -/
def headerCheck (h : List Byte) (key ct : Desc) (ch : Chain) : Option (BitVec 8) :=
  if !headerOk h key ch then some fDescFormat
  else if leAt h 8 8 ≠ ct.ksid then some fKeySet
  else if bytesAt h 16 16 ≠ ch.fprint then some fKeySet
  else if leAt h 6 1 ≠ key.ktype ∨ leAt h 32 4 ≠ key.galois then some fGalois
  else none

/-- The cocoon logs the key set of a KEXP that passes its checks (R525). -/
def State.logKsid (s : State) (k : Word) : State :=
  if s.sec.ksids.contains k then s
  else if 256 ≤ s.sec.ksids.length then { s with sec := { s.sec with ksovf := true } }
  else { s with sec := { s.sec with ksids := s.sec.ksids ++ [k] } }

/-- KEXP_HEADER_ARRIVAL (R197, R198): the header of a KEXP arrives and is checked; its data stream may begin. -/
def execKexpHeaderArrival (c : Fin 64) (id : Nat) (found : List (Nat × EccFind)) (s : State) : Host.Outcome State Fault Refusal :=
  .next (match (s.core c).actOf id with
    | none => s
    | some a =>
      match a.xfers.find? (fun x => x.kind == .header) with
      | none => s
      | some x =>
        if s.coreAlive c = false ∨ s.inTime c x = false then s
        else
          match s.readAll c [a.headerAcc] found with
          | (s1, false) => (s1.endXfer c id x.num).seFault c id fEcc
          | (s1, true) =>
            let h := s.accData c a.headerAcc
            let s2 := s1.endXfer c id x.num
            match s.chain (a.desc 1).chain with
            | none => s2.seFault c id fDescFormat
            | some ch =>
              match headerCheck h (a.desc 0) (a.desc 1) ch with
              | some code => s2.seFault c id code
              | none =>
                if a.fault.isSome then s2.settle c id
                else (s2.logKsid (BitVec.ofNat 64 (leAt h 8 8))).modAct c id (fun a =>
                  { a with checked := true, descs := a.descs.take 4 ++ [h] }))

end Sys2Proof.Machine
end

