-- ==== Sys2Proof/Machine/Reset.lean ====
section
/-! DEFINITION. Zeroing of memory, powering of bank groups, the twiddle and prime tables, and cores at their pour-start
state. -/

namespace Sys2Proof.Machine

/-! ### Zeroing -/

/-- Write zeros with valid check bits to bytes [lo, lo + len), in every version: no lost mark stays (R362,
R391, R410). -/
def State.zeroSpan (s : State) (lo len : Nat) : State :=
  let out (k u : Nat) : Bool := !(decide (lo < k + u) && decide (k < lo + len))
  { s with
    mem := s.mem.filter (fun e => out e.1 1)
    work := s.work.filter (fun e => out e.1 1)
    lost := s.lost.filter (fun e => out (64 * e.1) 64)
    workLost := s.workLost.filter (fun e => out (64 * e.1) 64)
    foreign := s.foreign.filter (fun e => out (64 * e.1) 64) }

/-- Zero bank group `g` of physical core `c`. -/
def State.zeroGroup (s : State) (c g : Nat) : State := s.zeroSpan (memKey 3 (c * 2 ^ 25 + g * 2 ^ 21)) (2 ^ 21)

/-- Zero the bank groups of physical core `c` whose kind is in a list (0 CODE, 1 WORK, 2 RETAINED, 3 UNUSED). -/
def State.zeroKinds (s : State) (c : Nat) (kinds : List Nat) : State :=
  (List.range 16).foldl (fun t g => if kinds.contains (s.group c g).1 then t.zeroGroup c g else t) s

/-- Zero every bank group of a physical core. -/
def State.zeroSpad (s : State) (c : Nat) : State := s.zeroSpan (memKey 3 (c * 2 ^ 25)) (2 ^ 25)

/-- Zero a whole space. -/
def State.zeroSpace (s : State) (sp : Nat) : State := s.zeroSpan (memKey sp 0) (2 ^ 48)

/-- Zero the groups of the slot image of a parked logical core whose kind is in a list (R501, log 9). -/
def State.zeroParked (s : State) (f l : Nat) (kinds : List Nat) : State :=
  (List.range 16).foldl (fun t g =>
    if kinds.contains ((s.flaskDef f).map (fun d => (d.part l g).1) |>.getD 3) then
      t.zeroSpan (memKey 9 ((64 * f + l) * 2 ^ 25 + g * 2 ^ 21)) (2 ^ 21) else t) s

/-! ### Power of bank groups (R361, R604, SPAD_STATUS) -/

/-- The bank groups of a list of kinds, as bits. -/
def State.groupBits (s : State) (c : Nat) (kinds : List Nat) : BitVec 16 :=
  BitVec.ofNat 16 ((List.range 16).foldl (fun v g => if kinds.contains (s.group c g).1 then v + 2 ^ g else v) 0)

/-- Power the bank groups that the partition map of core `c` assigns. -/
def State.repower (s : State) (c : Nat) : State := s.modCore c (fun k => { k with pwr := s.groupBits c [0, 1, 2] })

/-- Power down every bank group of a core: its contents are lost (R495). -/
def State.darken (s : State) (c : Nat) : State := (s.zeroSpad c).modCore c (fun k => { k with pwr := 0 })

/-! ### Tables and cores -/

/-- The chains whose tables the stores of core `c` hold: those of its flask (R161, R162, R210). -/
def State.tablesOf (s : State) (c : Nat) : BitVec 8 :=
  match s.coreRole c with
  | some (f, _) => ((s.flaskDef f).map (·.chains)).getD 0
  | none => 0

/-- Write the twiddle store and prime table of core `c` (R162). -/
def State.loadTables (s : State) (c : Nat) : State := s.modCore c (fun k => { k with loaded := s.tablesOf c })

/-- A core with nothing in its engines, at the start of a pour (R99, R158, R213, R244, R257, R266). -/
def Core.fresh (k : Core) : Core :=
  { k with arch := Arch.init, lme := Engine.init, te := Engine.init, ve := Engine.init,
           se := { k.se with queue := [], ticket := 0, active := [], walk := none }, lastIssued := 15, issueAt := 0 }

/-- Clear the fault registers and saturation counters of a core (R282, R578). -/
def Core.clearSeq (k : Core) : Core :=
  { k with faultCode := 0, faultUnit := 0, faultThread := 0, faultPc := 0, faultWord := 0, satSe := 0, satVe := 0 }

/-- Zero the general counters [lo, lo + n) with their controls. -/
def State.dropCounters (s : State) (lo n : Nat) : State :=
  let keep {α : Type} (m : Sparse α) : Sparse α := m.filter (fun e => !(decide (lo ≤ e.1) && decide (e.1 < lo + n)))
  { s with cnt := { s.cnt with ctl := keep s.cnt.ctl, val := keep s.cnt.val } }

/-- A core at its defaults under a flask, warm or module reset (R569, R570, Table 18-8), its tables rewritten when a mould
is committed; its counters return to their defaults. -/
def State.defaultCore (s : State) (c : Nat) : State :=
  ((s.modCore c (fun k =>
    { k.fresh.clearSeq with remoteTok := [], haltreq := false, hazchk := false, serves := none })).loadTables c).dropCounters
      (16 * c) 16

end Sys2Proof.Machine
end

