-- ==== Sys2Proof/Machine/Pour.lean ====
section
/-! DEFINITION. Pours: stages 3 to 10, hosts and spares, the commit barrier and its flip, the end of a pour, starvation and
timers (chapters 1, 9 and 16). -/

namespace Sys2Proof.Machine

/-! ### Working versions (R274, R276, R372, R373) -/

/-- Discard the working versions of flask `f`; with `keep`, blocks last written by a remote transaction stay (R504). -/
def State.discardWork (s : State) (f : Nat) (keep : Bool) : State :=
  let gone (blk : Nat) : Bool := s.vbOwner (64 * blk) == some f && !(keep && Sparse.get false s.foreign blk)
  { s with
    work := s.work.filter (fun e => !gone (e.1 / 64))
    workLost := s.workLost.filter (fun e => !gone e.1)
    foreign := s.foreign.filter (fun e => !gone e.1) }

/-- The working bytes of flask `f` become the committed ones. -/
def State.flipBytes (s : State) (f : Nat) : Sparse (Option Byte) → State
  | [] => s
  | (key, b) :: r =>
    State.flipBytes (if s.vbOwner key = some f then { s with mem := Sparse.set 0 s.mem key (b.getD 0) } else s) f r

/-- Lost marks of the committed version after a flip: a block that was written whole is no longer lost, one that was lost in
the working version is. -/
def State.flipLost (s : State) (f : Nat) : State :=
  let mine (blk : Nat) : Bool := s.vbOwner (64 * blk) == some f
  let whole (blk : Nat) : Bool := (List.range 64).all (fun i => (Sparse.get none s.work (64 * blk + i)).isSome)
  let l1 := s.lost.filter (fun e => !(mine e.1 && whole e.1))
  { s with lost := (s.workLost.filter (fun e => mine e.1)).foldl (fun m e => Sparse.set false m e.1 true) l1 }

/-- The atomic flip of R276 over memory. -/
def State.flipWork (s : State) (f : Nat) : State := ((s.flipLost f).flipBytes f s.work).discardWork f false

/-! ### Hosts, spares and time-sharing (R403, R409, R413, R496, R501) -/

/-- The unfenced physical cores among a flask's core and spare lists. -/
def State.unfencedCores (s : State) (d : FlaskDef) : List Nat :=
  (d.coreList ++ d.spareList).filter (fun c => !s.fenced c)

/-- The logical cores of flask `f` whose physical core is fenced. -/
def State.orphansOf (s : State) (f : Nat) : List Nat :=
  (List.range (s.hosts f).length).filter (fun l => s.fenced ((s.hosts f).getD l 0))

/-- Time-share slots of a flask's commit-record region (R501). -/
def State.slotCount (s : State) (d : FlaskDef) : Nat :=
  match s.mould.bind (fun m => m.regions[d.crreg]?) with
  | some r => (r.size - d.ncores * 144 * 2 ^ 10) / (36 * 2 ^ 20)
  | none => 0

/-- The lowest-numbered unfenced core that hosts exactly one logical core of the flask (R501). -/
def State.survivor (s : State) (f : Nat) : Option Nat :=
  (List.range 64).find? (fun c => !s.fenced c && (s.hosts f).count c == 1)

/-- Give logical core `l` of flask `f` a host: the first unused unfenced spare, else a time-share slot. None when neither
exists. -/
def State.giveHost (s : State) (f : Nat) (d : FlaskDef) (l : Nat) : Option State :=
  let x := s.flask f
  match x.spares.find? (fun c => !s.fenced c) with
  | some c =>
    let rest := x.spares.erase c
    let s1 := s.modFlask f (fun x => { x with map := x.map.set l c, spares := rest })
    some ((if rest.all s.fenced then s1.setSticky sSpareExhausted else s1).reroute f l)
  | none =>
    if x.shares.length < s.slotCount d then
      match s.survivor f with
      | some c => some ((s.modFlask f (fun x =>
          { x with map := x.map.set l c, shares := x.shares ++ [⟨c, l, Arch.init, false, s.now⟩] })).reroute f l)
      | none => none
    else none

/-- Drop the shares that a fence of core `c` ends: the logical core that was parked there is an orphan too. -/
def State.dropShares (s : State) (f c : Nat) : State :=
  s.modFlask f (fun x => { x with shares := x.shares.filter (fun y => y.host != c) })

/-- Give hosts to a list of orphans, one after another; the flag is false when one finds none. -/
def State.giveHosts (f : Nat) (d : FlaskDef) : List Nat → State → State × Option Nat
  | [], s => (s, none)
  | l :: r, s =>
    match s.giveHost f d l with
    | some s1 => State.giveHosts f d r s1
    | none => (s, some l)

/-- A pour that the flask cannot serve ends with F_FENCED (R413, R492, R509 to R511). -/
def State.fencedEnd (s : State) (f l : Nat) : State := (s.setSticky sSpareExhausted).bareFault f l fFenced

/-! ### Stages 3 to 6 (Table 1-9) -/

/-- Logical core `l` of flask `f` lies on its physical core as it is at a pour's start, thread 0 not yet running. -/
def State.seat (s : State) (f l : Nat) : State :=
  if (s.flask f).shares.any (fun x => x.parked == l) then
    (s.modFlask f (fun x => { x with shares := x.shares.map (fun y => if y.parked = l then { y with image := Arch.init } else y) })).zeroParked f l [1]
  else
    let c := (s.hosts f).getD l 0
    let s1 := s.modCore c (fun k => { k.fresh with serves := some (f, l) })
    ((s1.repower c).loadTables c).zeroKinds c [1]

/-- Seat every logical core of a flask. -/
def State.seatAll (s : State) (f : Nat) : State := (List.range (s.hosts f).length).foldl (fun s l => s.seat f l) s

/-- Stage 3: the core map, with spares for fenced cores (R496), and the WORK partitions zeroed (R362). -/
def State.stage3 (s : State) (f : Nat) : State :=
  match s.flaskDef f with
  | none => s
  | some d =>
    if s.err.meshDead then s.bareFault f 0 fFenced
    else if (s.unfencedCores d).length < d.mincores then s.fencedEnd f 0
    else
      match State.giveHosts f d (s.orphansOf f) s with
      | (s1, some _) => s1.fencedEnd f 0
      | (s1, none) => (s1.seatAll f).modFlask f (fun x => { x with stage := .loading })

/-- Copy the code of a pour into the CODE partition of core `c` (stage 4); false when it cannot be read or written. -/
def State.copyCode (s : State) (f c : Nat) (found : List (Nat × EccFind)) : State × Bool :=
  let x := s.flask f
  match s.readSpans .other found 0 c [(memKey (fld x.code 48 4) (fld x.code 0 48), x.codelen)] with
  | (s1, none) => (s1, false)
  | (s1, some data) => s1.writeSpans .other found 0 c [(memKey 3 (c * 2 ^ 25), data)]

/-- Copy the code to a list of cores, each with the logical core that a failure names (R280). -/
def State.copyCodes (f : Nat) (found : List (Nat × EccFind)) : List (Nat × Nat) → State → State
  | [], s => s
  | (c, l) :: r, s =>
    match s.copyCode f c found with
    | (s1, true) => State.copyCodes f (found.filter (fun e => decide (3 * 2 ^ 48 ≤ e.1))) r s1
    | (s1, false) => s1.bareFault f l fEcc

/-- The cores that receive the code: those of the flask by logical index, then its unfenced unused spares (R604). -/
def State.codeCores (s : State) (f : Nat) : List (Nat × Nat) :=
  let m := s.hosts f
  (List.range m.length).map (fun l => (m.getD l 0, l)) ++ ((s.flask f).spares.filter (fun c => !s.fenced c)).map (fun c => (c, 0))

/-- Logical core `l` starts thread 0 at the entry point (stage 6, R244, R245). -/
def State.startCore (s : State) (f l : Nat) : State :=
  let x := s.flask f
  let t := s.freshThread f l 0 x.entry 0
  if x.shares.any (fun y => y.parked == l) then
    s.modFlask f (fun x => { x with shares := x.shares.map (fun y =>
      if y.parked = l then { y with image := { Arch.init with rcd := { Arch.init.rcd with threads := Sparse.set Thread.idle [] 0 t } } } else y) })
  else s.modCore ((s.hosts f).getD l 0) (fun k => k.setThread 0 t)

/-- The record of logical core `l` of flask `f`. -/
def State.recordOf (s : State) (f l : Nat) : Rec :=
  match (s.flask f).shares.find? (fun x => x.parked == l) with
  | some x => x.image.rcd
  | none => (s.core ((s.hosts f).getD l 0)).arch.rcd

/-- Put a token into queue `q` of logical core `l`, resident or parked; the flag is false when it has no place (R257). -/
def State.putToken (s : State) (f l q : Nat) : State × Bool :=
  if (s.flask f).shares.any (fun x => x.parked == l) then
    let n := Sparse.get ⟨0, 0⟩ (s.recordOf f l).tokq q
    if n.count + n.reserved + 1 ≤ 32 then
      (s.modFlask f (fun x => { x with shares := x.shares.map (fun y =>
        if y.parked = l then { y with image := { y.image with rcd := { y.image.rcd with
          tokq := Sparse.modify ⟨0, 0⟩ y.image.rcd.tokq q (fun q => { q with count := q.count + 1 }) } } } else y) }), true)
    else (s, false)
  else
    let c := (s.hosts f).getD l 0
    if (s.core c).placesFor q 1 ∧ ¬ (s.core c).remoteTok.any (fun t => t.1 + 48 == q && t.2.2.pcore.toNat == l) then
      (s.modCore c (fun k => k.modTokq q (fun x => { x with count := x.count + 1 })), true)
    else (s, false)

/-- Deliver again a post or token that reached the flask from outside to logical core `d.lcore` (R497, step 5). A token
that finds no place waits, as one that has been answered (log 67). -/
def State.redeliver (s : State) (f : Nat) (d : Dest) : State :=
  if d.isSem then s.postTo f d.lcore d.index d.empty 1
  else
    match s.putToken f d.lcore d.index with
    | (s1, true) => s1
    | (s1, false) => s1.modCore ((s.hosts f).getD d.lcore 0) (fun k => { k with remoteTok := k.remoteTok ++
        [(d.index - 48, 33, { FabHdr.zero with pcore := BitVec.ofNat 6 d.lcore })] })

/-- Tokens that a replay gave again and that still wait are forgotten: the next replay gives them once more. -/
def State.dropAgain (s : State) (f : Nat) : State :=
  (s.hosts f).foldl (fun s c => s.modCore c (fun k => { k with remoteTok := k.remoteTok.filter (fun t => t.2.1 != 33) })) s

/-- Stages 5 and 6: every logical core starts. -/
def State.startCores (s : State) (f : Nat) : State :=
  let s1 := (List.range (s.hosts f).length).foldl (fun s l => s.startCore f l) s
  s1.modFlask f (fun x => { x with
    stage := .running, lastProgress := s.now, shares := x.shares.map (fun y => { y with since := s.now }) })

/-- POUR_CODE_LOADED (R64, R244, R245): stage 4 ends: the code lies in every CODE partition, and thread 0 of every core of
the flask starts. -/
def execPourCodeLoaded (f : Fin 16) (found : List (Nat × EccFind)) (s : State) : Host.Outcome State Fault Refusal :=
  .next (if (s.flask f).stage = .loading then
    let s1 := State.copyCodes f found (s.codeCores f) s
    if (s1.flask f).stage = .loading then
      let s2 := (s1.dropAgain f).startCores f
      (s.flask f).ext.foldl (fun s d => s.redeliver f d) s2
    else s1
  else s)

/-! ### Quiet and the end of a pour (R270, R273) -/

/-- No engine of core `c` executes and no transfer of it is outstanding. -/
def Core.quiet (k : Core) : Bool := k.outstanding == [] && k.se.walk.isNone

/-- The flask is quiet (R270). -/
def State.flaskQuietNow (s : State) (f : Nat) : Bool := (s.hosts f).all (fun c => s.fenced c || (s.core c).quiet)

/-- The pour-end event (Table 15-7). -/
def State.sendPourEnd (s : State) (f : Nat) (status : BitVec 8) (x : FaultRec) (cseq : Nat) : State :=
  s.event 0x01 (leBytes 1 f ++ [status] ++ [x.unit, x.thread] ++ leBytes 1 x.lcore ++ [0, 0, 0] ++ leBytes 4 x.pc.toNat ++
    leBytes 4 cseq ++ leBytes 8 x.word.toNat)

/-- An empty fault record. -/
def FaultRec.none : FaultRec := ⟨0, 0, 0, 0, 0, 0, Option.none⟩

/-- Remote tokens that still wait at a core are discarded and answered (R355). -/
def State.dropTokens (s : State) (c : Nat) : State :=
  (s.core c).remoteTok.foldl (fun s t => s.reply t.2.1 t.2.2 0x20 0 []) (s.modCore c (fun k => { k with remoteTok := [] }))

/-- The pour on flask `f` is over: its working versions go, its cores serve nothing (R31, R270). -/
def State.clearPour (s : State) (f : Nat) : State :=
  let s1 := (s.hosts f).foldl (fun s c => (s.dropTokens c).modCore c (fun k => { k with serves := none })) (s.discardWork f false)
  s1.modFlask f (fun x => { x with
    stage := .idle, fault := none, notify := false, records := [], ext := [], delivered := [], suppress := [], orphans := [],
    peers := [], oldPeers := x.oldPeers ++ x.peers, copies := [], waiter := none, shares := x.shares.map (fun y => { y with swapping := false }) })

/-- The banks of fenced cores of the flask that no replay will copy are powered down (R495). -/
def State.darkenFenced (s : State) (f : Nat) : State :=
  ((s.flask f).copies.map (·.1) ++ (s.flask f).orphans.map (·.2) ++ (s.hosts f).filter s.fenced).foldl (fun s c => s.darken c) s

/-- The flask reset of R570: every core and spare of the flask at its defaults, its partitions zeroed. -/
def State.flaskResetCores (s : State) (f : Nat) : State :=
  match s.flaskDef f with
  | none => s
  | some d =>
    let cores := (d.coreList ++ d.spareList ++ s.hosts f).eraseDups.filter (fun c => !s.fenced c)
    let s1 := cores.foldl (fun s c => (s.zeroKinds c [0, 1, 2]).defaultCore c) s
    let s2 := (s1.flask f).shares.foldl (fun s x => s.zeroParked f x.parked [0, 1, 2]) s1
    (s2.modFlask f (fun x => { x with shares := x.shares.map (fun y => { y with image := Arch.init, swapping := false }) })).newNonce

/-- The pour of a quiet flask is over, and the command that waits for it is answered (R476, R477). -/
def State.settlePour (s : State) (f : Nat) : State :=
  let s1 := (s.darkenFenced f).clearPour f
  match (s.flask f).waiter with
  | some (ctag, op) => (if op = 0x32#8 then s1.flaskResetCores f else s1).respond ctag op 0 []
  | none => s1

/-- End the pour of a quiet flask: the command that waits for it is answered first, then POUR_END is sent (R463), and the
end may trigger a snapshot (R583). -/
def State.endPour (s : State) (f : Nat) (status : BitVec 8) (fr : FaultRec) : State :=
  ((s.settlePour f).sendPourEnd f status fr (s.flask f).cseq).trigger 1

/-- A stopping flask is quiet (R270, R280): its pour ends. A flask that stops for recovery goes on by FLASK_RECOVERY; one
that a trip or reset stops ends without an event (R562, R567). -/
def State.quietStep (s : State) (f : Nat) : State :=
  if s.flaskQuietNow f then
    match (s.flask f).stage with
    | .stopping .recover => s
    | .stopping .thermal => s.settlePour f
    | .stopping _ =>
      match (s.flask f).fault with
      | some x => s.endPour f x.code x
      | none => s.endPour f 0xFF FaultRec.none
    | _ => s
  else s

/-- Every thread of every core of the flask, resident or parked, satisfies a condition. -/
def State.allThreads (s : State) (f : Nat) (p : Thread → Bool) : Bool :=
  (s.hosts f).all (fun c => (List.range 16).all (fun t => p (s.thread c t))) &&
  (s.flask f).shares.all (fun x => (List.range 16).all (fun t => p (Sparse.get Thread.idle x.image.rcd.threads t)))

/-- No issued instruction of the flask is incomplete and no transfer outstanding. -/
def State.flaskDone (s : State) (f : Nat) : Bool :=
  (s.hosts f).all (fun c => (s.core c).quiet) && (s.flask f).shares.all (fun x => !x.swapping)

/-- The thread is HALTED. -/
def Thread.isHalted (x : Thread) : Bool := x.run == .halted

/-- The thread waits at a COMMIT. -/
def Thread.atCommit (x : Thread) : Bool := x.held.any (fun h => h.why == .commit)

/-- The COMMIT_DONE event (Table 15-7). -/
def State.sendCommitDone (s : State) (f cseq : Nat) : State := s.event 0x02 (leBytes 1 f ++ [0, 0, 0] ++ leBytes 4 cseq)

/-- Commit numbers and records after a flip (R276, R505): what arrived and left since the last commit is settled. -/
def State.committed (s : State) (f : Nat) (records : List Rec) : State :=
  (s.modFlask f (fun x => { x with
    cseq := (x.cseq + 1) % 2 ^ 32, records := records, notify := false, ext := [], delivered := [], suppress := [],
    lastProgress := s.now })).hubEvent 0x1D f

/-- The commit record takes its place in the region that the mould reserves, 144 KiB for each logical core; its layout is
open (R277, log 29). -/
def State.writeRecords (s : State) (f : Nat) : State :=
  match s.flaskDef f, s.mould with
  | some d, some m =>
    match m.regions[d.crreg]? with
    | some r => s.putOpen (memKey r.space r.off) (d.ncores * 147456)
    | none => s
  | _, _ => s

/-- POUR_NORMAL_END (R273, R276): every thread is HALTED and every instruction complete: an implicit commit and its event,
then the end of the pour. -/
def execPourNormalEnd (f : Fin 16) (s : State) : Host.Outcome State Fault Refusal :=
  .next (if (s.flask f).stage = .running ∧ s.flaskDone f = true ∧ s.allThreads f Thread.isHalted = true then
    let s1 := ((s.flipWork f).writeRecords f).committed f []
    (s1.sendCommitDone f (s1.flask f).cseq).endPour f 0 FaultRec.none
  else s)

/-- A thread that waits at a COMMIT resumes with the next instruction (R276). -/
def Thread.resumed (x : Thread) : Thread :=
  if x.atCommit then { x with run := .run, held := none, pc := x.pc + 8 } else x

/-- The state that a commit record holds (Table 9-7), as the threads resume. -/
def Rec.resumed (r : Rec) : Rec := { r with threads := r.threads.map (fun e => (e.1, e.2.resumed)) }

/-- Resume every thread of a core; a PC past the code partition faults at fetch (R248). -/
def State.resumeCore (s : State) (c : Nat) : State :=
  let s1 := s.modCore c (fun k => k.modRec Rec.resumed)
  (List.range 16).foldl (fun s1 t =>
    if (s.thread c t).atCommit ∧ s1.pcOk c (s1.thread c t).pc = false then
      s1.pourFault c 0 t (s1.thread c t).pc 0 fWindow
    else s1) s1

/-- COMMIT_FLIP (R275 to R277): every thread has issued COMMIT or halted and everything before is complete: memory and
records flip, and the threads go on. -/
def execCommitFlip (f : Fin 16) (s : State) : Host.Outcome State Fault Refusal :=
  .next (if (s.flask f).stage = .running ∧ s.flaskDone f = true ∧
      s.allThreads f (fun x => x.isHalted || x.atCommit) = true ∧ s.allThreads f Thread.isHalted = false ∧
      (s.hosts f).all (fun c => !(s.core c).haltreq) = true then
    let notify := (s.flask f).notify
    let recs := (List.range (s.hosts f).length).map (fun l => (s.recordOf f l).resumed)
    let s1 := ((s.flipWork f).writeRecords f).committed f recs
    let s2 := if notify then s1.sendCommitDone f (s1.flask f).cseq else s1
    let s3 := s2.modFlask f (fun x => { x with shares := x.shares.map (fun y =>
      { y with image := { y.image with rcd := y.image.rcd.resumed } }) })
    (s.hosts f).eraseDups.foldl (fun s c => s.resumeCore c) s3
  else s)

/-! ### Tokens and timers (R264, R265, R272) -/

/-- A remote token or post from outside reaches flask `f` (R497, step 5). -/
def State.noteExt (s : State) (f : Nat) (d : Dest) : State := s.modFlask f (fun x => { x with ext := x.ext ++ [d] })

/-- REMOTE_TOKEN_DELIVER (R264): a remote token that waits at inbound queue `q` of core `c` takes a place that has freed,
and its request is answered. -/
def execRemoteTokenDeliver (c : Fin 64) (q : Fin 16) (s : State) : Host.Outcome State Fault Refusal :=
  .next (match s.serving c with
    | none => s
    | some (f, l) =>
    match (s.core c).remoteTok.find? (fun t => t.1 == q.val && t.2.2.pcore.toNat == l) with
    | none => s
    | some t =>
      if (s.core c).placesFor (48 + q) 1 ∧ s.coreAlive c = true then
        let s1 := s.modCore c (fun k => { k.modTokq (48 + q) (fun x => { x with count := x.count + 1 }) with
          remoteTok := k.remoteTok.erase t })
        (if t.2.1 = 33 ∨ s.fromFlask t.2.1 t.2.2 f = true then s1
          else s1.noteExt f ⟨0, l, false, 48 + q, false⟩).reply t.2.1 t.2.2 0x20 0 []
      else s)

/-- The thread waits for a token of a queue from 0 to 47 or for a full engine queue. -/
def Thread.starving (x : Thread) : Bool :=
  x.held.any (fun h => match h.why with
    | .tokenWait q _ => decide (q < 48)
    | .queueFull => true
    | _ => false)

/-- The wait of thread `t` can end as things stand: its queue holds enough tokens and serves it first (R263), or the engine
queue has a place. -/
def Core.waitOver (k : Core) (t : Nat) : Bool :=
  (k.thread t).held.any (fun h => match h.why with
    | .tokenWait q n => decide (n ≤ (k.tokq q).count) && k.servedFirst q h.ticket (4 + t)
    | .queueFull =>
      let u := unitOf h.op.code
      decide ((if u = 4 then k.se.queue else (k.engine u).queue).length < 32)
    | _ => false)

/-- The heads of the engine queues of a core. -/
def Core.heads (k : Core) : List (Nat × QEnt) :=
  [(1, k.lme.queue), (2, k.te.queue), (3, k.ve.queue), (4, k.se.queue)].filterMap (fun x => x.2.head?.map (fun e => (x.1, e)))

/-- The core is token-starved (R265). -/
def Core.starved (k : Core) : Bool :=
  (List.range 16).all (fun t => (k.thread t).isHalted || ((k.thread t).starving && !k.waitOver t)) &&
  k.lme.flights == [] && k.te.flights == [] && k.ve.flights == [] && k.se.active == [] &&
  k.heads.all (fun x => x.2.op.wen && decide (x.2.op.wq < 48) && !k.tokenReady x.1 x.2) &&
  ((List.range 16).any (fun t => !(k.thread t).isHalted) || k.heads != [])

/-- TOKEN_STARVED (R265): a starved core faults against its lowest-numbered waiting thread; when every thread has halted,
against the lowest that issued a waiting head. -/
def execTokenStarved (c : Fin 64) (s : State) : Host.Outcome State Fault Refusal :=
  .next (let k := s.core c
    if s.coreIssues c ∧ k.starved = true then
      match (List.range 16).find? (fun t => (k.thread t).starving) with
      | some t =>
        s.pourFault c 0 t (k.thread t).pc (((k.thread t).held.map (fun h => h.op.word)).getD 0) fTokenUnderflow
      | none =>
        match (List.range 16).findSome? (fun t => (k.heads.find? (fun x => x.2.op.thread == t)).map (·.2)) with
        | some e => s.pourFault c 0 e.op.thread e.pc e.op.word fTokenUnderflow
        | none => s
    else s)

/-- Units of the fixed-latency engines. -/
def unitIndex : FixedEngine → Nat
  | .lme => 1
  | .te => 2
  | .ve => 3

/-- ENGINE_WATCHDOG_EXPIRY (R272): the instruction that engine `u` executes has been in it for longer than the watchdog: it
aborts with F_TIMEOUT. -/
def execEngineWatchdogExpiry (c : Fin 64) (u : FixedEngine) (s : State) : Host.Outcome State Fault Refusal :=
  .next (match firstFlight ((s.core c).engine (unitIndex u)).flights with
    | some fl =>
      let limit := ((s.flaskOf c).map (·.wdog)).getD 10000 * 700
      if s.coreAlive c = true ∧ fl.start + limit < s.cycle then s.abortFlight c (unitIndex u) fl fTimeout ((unitIndex u) != 3) else s
    | none => s)

/-- POUR_NO_PROGRESS_TIMEOUT (R272, R542): nothing of the flask has completed or issued for the no-progress time. -/
def execPourNoProgressTimeout (f : Fin 16) (s : State) : Host.Outcome State Fault Refusal :=
  .next (let limit := ((s.flaskDef f).map (·.noprog)).getD 1000000 * 1400
    if (s.flask f).stage = .running ∧ (s.flask f).lastProgress + limit ≤ s.now ∧
        (s.hosts f).all (fun c => !(s.core c).haltreq) = true then s.bareFault f 0 fTimeout
    else s)

end Sys2Proof.Machine
end

