-- ==== Sys2Proof/Machine/Fabric.lean ====
section
/-! DEFINITION. The fabric (chapter 14): port states, received frames, link state and routes, remote transactions at their
target and their answers at the originating core. -/

namespace Sys2Proof.Machine

/-! ### Link state that the module advertises (R433, Table 14-5) -/

/-- The link entries of the module: each port whose neighbour is known. -/
def State.ownLinks (s : State) : List LinkEnt :=
  ((List.range 32).filter (fun p => (s.port p).peerSerial != 0)).map (fun p =>
    let k := s.port p
    ⟨p, k.st == 4, k.naddr, k.nport.toNat, if k.st = 4 then 0 else k.lastseq⟩)

/-- A link entry as an LSA carries it: 12 bytes. -/
def LinkEnt.bytes (e : LinkEnt) : List Byte :=
  leBytes 1 e.port ++ [if e.up then 1 else 0] ++ leBytes 2 e.naddr.toNat ++ leBytes 1 (e.nport % 32) ++ [0, 0, 0] ++
    leBytes 4 e.lastseq.toNat

/-- The payload of an LSA. -/
def Lsa.bytes (a : Lsa) : List Byte :=
  leBytes 8 a.serial.toNat ++ leBytes 2 (a.addr.toNat + (if a.addrv then 0x8000 else 0)) ++ leBytes 1 a.links.length ++ [0] ++
    leBytes 4 a.seq.toNat ++ a.links.flatMap LinkEnt.bytes

/-- The advertisement of the module now. -/
def State.ownLsa (s : State) : Lsa := ⟨s.sec.serial, s.fab.addr, s.fab.addrv, s.fab.lsaSeq, s.ownLinks⟩

/-- Send an LSA on every UP port but one. -/
def State.floodBut (s : State) (a : Lsa) (but : Option Nat) : State :=
  (s.upPorts.filter (fun p => some p != but)).foldl (fun s p => s.portSend p ⟨0x04, FabHdr.zero, a.bytes, none⟩) s

/-- Flood the module's link state (R433). -/
def State.flood (s : State) : State :=
  let s1 := { s with fab := { s.fab with lsaSeq := s.fab.lsaSeq + 1 } }
  s1.floodBut s1.ownLsa none

/-- Read the link entries of an LSA payload. -/
def parseLinks (d : List Byte) : Nat → List LinkEnt
  | 0 => []
  | n + 1 =>
    let o := 16 + 12 * n
    parseLinks d n ++
      [⟨leAt d o 1, leAt d (o + 1) 1 % 2 == 1, BitVec.ofNat 12 (leAt d (o + 2) 2), leAt d (o + 4) 1 % 32, BitVec.ofNat 32 (leAt d (o + 8) 4)⟩]

/-- Read an LSA payload: none when its length does not fit. -/
def parseLsa (d : List Byte) : Option Lsa :=
  let n := leAt d 10 1
  if d.length < 16 ∨ 32 < n ∨ d.length ≠ 16 + 12 * n then none
  else some ⟨BitVec.ofNat 64 (leAt d 0 8), BitVec.ofNat 12 (leAt d 8 2), 0x8000 ≤ leAt d 8 2, BitVec.ofNat 32 (leAt d 12 4), parseLinks d n⟩

/-! ### Ports going up and down (R425, R434, R439, R440) -/

/-- Send an unsequenced management frame on port `p`. -/
def State.sendMgmt (s : State) (p : Nat) (type : BitVec 8) (payload : List Byte) : State :=
  s.onWire p ⟨type, { FabHdr.zero with hack := (s.port p).rxSeq }, payload, none⟩

/-- An IDLE frame: credits and the RTRY flag (Table 14-3). -/
def State.sendIdle (s : State) (p : Nat) (rtry : Bool) : State :=
  s.sendMgmt p 0x01 ((List.range 17).map (fun i => BitVec.ofNat 8 ((s.port p).freedHere.getD i 0)) ++ [if rtry then 1 else 0])

/-- Port `p` enters UP: its counts start anew, and the module floods its link state. -/
def State.portUp (s : State) (p : Nat) : State :=
  State.flood (s.modPort p (fun k => { k with
    st := 4, since := s.now, heard := s.now, enc := k.encNow, txCount := 0, rxSeq := 0, rxCount := 0, hackRx := 0, replay := [], creditUsed := [], creditGot := [],
    freedHere := [], queue := [], tagFails := [], lastseq := 0 }))

/-- Remove port `p` from every next-hop set (R439). -/
def State.unroute (s : State) (p : Nat) : State :=
  let gone := (s.fab.routes.filter (fun e => e.2 == [p])).map (·.1)
  { s with fab := { s.fab with
      routes := (s.fab.routes.map (fun e => (e.1, e.2.filter (· != p)))).filter (fun e => e.2 != []),
      emptied := s.fab.emptied ++ gone } }

/-- The big-number job belongs to the key exchange of port `p`. -/
def BneJob.ofPort (j : BneJob) (p : Nat) : Bool := j.purpose == .keyxCa p || j.purpose == .keyxId p || j.purpose == .keyxCurve p

/-- Withdraw the queued jobs of port `p`'s key exchange; a running job of the security processor runs on (R527). -/
def Sec.dropPort (k : Sec) (p : Nat) : Sec :=
  { k with
    sp := k.sp.take 1 ++ (k.sp.drop 1).filter (· != .ecdh p)
    bne := k.bne.filter (fun j => !j.ofPort p)
    bneShort := k.bneShort.filter (fun j => !j.ofPort p) }

/-- A frame of a remote transaction, which a management frame is not. -/
def FabFrame.carries (f : FabFrame) : Bool := decide (0x10 ≤ f.type.toNat)

/-- A frame without the buffer of port `p` that it holds. -/
def FabFrame.unbuffer (p : Nat) (f : FabFrame) : FabFrame :=
  if f.inBuf.any (fun b => b.1 == p) then { f with inBuf := none } else f

/-- The link of port `p` is gone, and its receive buffers with it: frames that go on hold none of them. -/
def State.dropBuffers (s : State) (p : Nat) : State :=
  let s1 := (List.range 32).foldl (fun s q =>
    if (s.port q).queue = [] then s else s.modPort q (fun k => { k with queue := k.queue.map (FabFrame.unbuffer p) })) s
  { s1 with fab := { s1.fab with waiting := s1.fab.waiting.map (FabFrame.unbuffer p) } }

/-- Port `p` leaves the state it is in for state `st` (0 DOWN, 5 MISMATCH, 6 AUTH_FAIL, 7 DISABLED): its keys are
destroyed. From UP, its unacknowledged frames are held for the neighbour's LSA (R440), the frames that wait for credit
take another way, and the module floods. -/
def State.portLeave (s : State) (p st : Nat) : State :=
  let k := s.port p
  let s1 := State.modPort { s with sec := s.sec.dropPort p } p (fun k => { k with
    st := st, since := s.now, downAt := if k.st = 4 then s.now else k.downAt, enc := false, keyTx := [], keyRx := [], ecdh := false, lastseq := if k.st = 4 then k.rxSeq else k.lastseq,
    caught := if k.st = 4 then k.replay else k.caught, replay := [], queue := [] })
  if k.st = 4 then
    (k.queue.filter FabFrame.carries).foldl (fun s f => s.sendOut f) (((s1.dropBuffers p).unroute p).flood)
  else s1

/-- Port `p` goes DOWN: S_LINK_DOWN and the link capture (R434, R514). -/
def State.portDown (s : State) (p : Nat) : State := ((s.portLeave p 0).captureLink 0 p).setSticky sLinkDown

/-- Port `p` starts its bring-up: the ENCRYPT setting of now holds for it (R425, R448). -/
def State.portTrain (s : State) (p : Nat) : State := s.modPort p (fun k => { k with st := 1, since := s.now, encNow := k.encrypt })

/-- The hub control domain runs. -/
def State.hubRuns (s : State) : Bool :=
  match s.pwr.boot with
  | .training => true
  | .ready | .resetHeld | .warmPending | .warming => s.pwr.state == .run || s.pwr.state == .idle || s.pwr.state == .doze
  | _ => false

/-- HELLO payload (R426). -/
def State.helloBytes (s : State) (p : Nat) : List Byte :=
  leBytes 8 s.sec.serial.toNat ++ leBytes 2 (s.fab.addr.toNat + (if s.fab.addrv then 0x8000 else 0)) ++ leBytes 1 p ++
    [if (s.port p).encNow then 1 else 0] ++ [0x00, 0x01] ++
    (if s.sec.lifecycle = 0 then List.replicate 64 0 else bytesAt s.sec.ownerHash 0 64) ++ List.replicate 50 0

/-- FAB_TRAIN_DONE (R416, R425, R426): all eight lanes of a training port are aligned: it sends its HELLO. -/
def execFabTrainDone (p : Fin 32) (s : State) : Host.Outcome State Fault Refusal :=
  .next (if (s.port p).st = 1 then
    (s.modPort p (fun k => { k with st := 2, since := s.now, laneFail := 0 })).sendMgmt p 0x02 (s.helloBytes p)
  else s)

/-- FAB_TRAIN_TIMEOUT (R416, R425): training has failed after 200 ms; `lanes` are the lanes that failed. -/
def execFabTrainTimeout (p : Fin 32) (lanes : BitVec 8) (s : State) : Host.Outcome State Fault Refusal :=
  .next (if (s.port p).st = 1 ∧ lanes ≠ 0 ∧ (s.port p).since + 280000000 ≤ s.now then
    s.modPort p (fun k => { k with st := 0, since := s.now, laneFail := lanes }) else s)

/-- FAB_PORT_RETRY_TIMER (R425): an enabled port that has been DOWN, MISMATCH or AUTH_FAIL for 1 s trains again. -/
def execFabPortRetryTimer (p : Fin 32) (s : State) : Host.Outcome State Fault Refusal :=
  .next (let k := s.port p
    if k.en = true ∧ (k.st = 0 ∨ k.st = 5 ∨ k.st = 6) ∧ s.hubRuns = true ∧ k.since + 1400000000 ≤ s.now then s.portTrain p else s)

/-- A HELLO payload is valid. -/
def helloOk (d : List Byte) : Bool :=
  decide (d.length = 128) && decide (leAt d 10 1 < 32) && decide (leAt d 11 1 ≤ 1) && decide (leAt d 8 2 / 4096 % 8 = 0) &&
    (bytesAt d 78 50).all (· == 0)

/-- HELLO (R427): the far end's HELLO arrives: the port enters KEYX, UP or MISMATCH. Under KEYX both modules must be Owned
with equal owner key hashes (R428), and the port sends its certificate chain and a nonce. -/
def execHello (p : Fin 32) (d : List Byte) (s : State) : Host.Outcome State Fault Refusal :=
  .next (if (s.port p).st = 2 ∧ helloOk d = true then
    let s1 := (s.crossed (96 + p) 178).modPort p (fun k => { k with
      peerSerial := BitVec.ofNat 64 (leAt d 0 8), naddr := BitVec.ofNat 12 (leAt d 8 2), naddrv := 0x8000 ≤ leAt d 8 2,
      nport := BitVec.ofNat 5 (leAt d 10 1), peerHash := bytesAt d 14 64, peerCert := [], peerNonce := [] })
    let peerEnc := leAt d 11 1 == 1
    if peerEnc ≠ (s.port p).encNow then s1.portLeave p 5
    else if peerEnc = false then s1.portUp p
    else if s.sec.lifecycle = 1 ∧ bytesAt d 14 64 = bytesAt s.sec.ownerHash 0 64 then
      let (s2, v) := s1.draw
      let nonce := leBytes 32 v
      (s2.modPort p (fun k => { k with st := 3, since := s.now, myNonce := nonce })).sendMgmt p 0x03 ((List.range 1024).map Config.cert ++ nonce)
    else s1.portLeave p 6
  else s)

/-- FAB_LOSS_OF_LOCK (R434): the lanes of a port past training lose lock. -/
def execFabLossOfLock (p : Fin 32) (s : State) : Host.Outcome State Fault Refusal :=
  .next (let k := s.port p
    if k.st = 2 ∨ k.st = 3 ∨ k.st = 4 then s.portDown p else s)

/-- FAB_LIVENESS_EXPIRY (R434): no valid frame for 1 ms on a port that is UP. -/
def execFabLivenessExpiry (p : Fin 32) (s : State) : Host.Outcome State Fault Refusal :=
  .next (if (s.port p).st = 4 ∧ (s.port p).heard + 1400000 ≤ s.now then s.portDown p else s)

/-- KEYX_TIMEOUT (R528, Table 14-4): the port's ECDH job has run for 5 s. -/
def execKeyxTimeout (p : Fin 32) (s : State) : Host.Outcome State Fault Refusal :=
  .next (if (s.port p).st = 3 ∧ s.sec.sp.head? = some (.ecdh p) ∧ s.sec.spAt + 7000000000 ≤ s.now then s.portLeave p 6 else s)

/-- A write of FAB_PORT_CTRL's EN (R448): 0 takes the port to DISABLED, 1 starts its bring-up. -/
def State.writePortEn (s : State) (p : Nat) (en : Bool) : State :=
  let s1 := s.modPort p (fun k => { k with en := en })
  if en = false then (if (s.port p).st = 7 then s1 else s1.portLeave p 7)
  else if (s.port p).st = 7 then (if s.hubRuns then s1.portTrain p else s1.modPort p (fun k => { k with st := 0, since := s.now }))
  else s1

/-- PORT_EN_WRITE (R425, R448). -/
def execPortEnWrite (p : Fin 32) (en : Bool) (s : State) : Host.Outcome State Fault Refusal := .next (s.writePortEn p en)

/-! ### Frames that arrive (R420 to R424, R430, R431) -/

/-- The other end has accepted frames up to `hack` (R422): they leave the replay buffer, and waiting frames may follow. -/
def State.acked (s : State) (p : Nat) (hack : BitVec 32) : State :=
  let n := ((s.port p).replay.findIdx? (fun f => f.hdr.hseq == hack)).map (· + 1) |>.getD 0
  State.drain (s.modPort p (fun k => { k with hackRx := hack, replay := k.replay.drop n })) p

/-- After a discard the receiver asks for a resend (R421). -/
def State.askResend (s : State) (p : Nat) : State := (s.sendIdle p true).setSticky sLinkRetry

/-- Count a discard (R420, R431); the eighth tag failure within 1 s takes the port DOWN. -/
def State.discardFrame (s : State) (p : Nat) (why : DiscardCause) : State :=
  let recent := (s.port p).tagFails.filter (fun t => decide (s.now < t + 1400000000)) ++ [s.now]
  let s1 := s.modPort p (fun k => match why with
    | .crc => { k with crcerr := satAdd 0xFFFF k.crcerr 1 }
    | .invalid => { k with crcerr := satAdd 0xFFFF k.crcerr 1 }
    | .codeword => { k with fecunc := satAdd 0xFFFF k.fecunc 1 }
    | .tagFailed => { k with authfail := satAdd 0xFFFF k.authfail 1, tagFails := recent })
  if why = .tagFailed ∧ 8 ≤ recent.length ∧ (s.port p).st = 4 then s1.portDown p
  else if (s.port p).st = 4 then s1.askResend p
  else s1

/-- FABRIC_FRAME_DISCARD (R420, R421, R431). -/
def execFabricFrameDiscard (p : Fin 32) (why : DiscardCause) (s : State) : Host.Outcome State Fault Refusal :=
  .next (if (s.port p).st = 2 ∨ (s.port p).st = 3 ∨ (s.port p).st = 4 then s.discardFrame p why else s)

/-- A sequenced frame arrives on port `p` (R421): accepted only in HSEQ order, and with ENC as the port's encryption has
it, and, where it is encrypted, with the right tag. What it gives is the payload in clear, none when the frame was
discarded. Port 32 is the loopback, which has no link. -/
def State.receive (s : State) (p : Nat) (f : FabFrame) : State × Option (List Byte) :=
  if p = 32 then (s, some f.payload)
  else if (s.port p).st ≠ 4 then (s, none)
  else
    let k := s.port p
    let s0 := (s.crossed (96 + p) f.size).modPort p (fun k => { k with corr := satAdd (2 ^ 64 - 1) k.corr f.hdr.fec })
    let heard (s : State) : State := s.modPort p (fun k => { k with heard := s.now })
    let iv := fabIv (k.rxCount + 1)
    if f.hdr.enc ≠ k.enc then (s0.discardFrame p .tagFailed, none)
    else if f.hdr.hseq ≠ k.rxSeq + 1 then (((heard s0).acked p f.hdr.hack).askResend p, none)
    else if k.enc && BitVec.ofNat 96 (leNat (gcmTag k.keyRx iv f.aad f.payload)) != f.hdr.gtag then
      (s0.discardFrame p .tagFailed, none)
    else
      ((((heard s0).hubEvent 0x02 p).modPort p (fun k => { k with rxSeq := f.hdr.hseq, rxCount := k.rxCount + 1 })).acked p f.hdr.hack,
       some (if k.enc then gcmCrypt k.keyRx iv f.payload else f.payload))

/-- The channel of a request or response. -/
def reqChan (h : FabHdr) : Nat := (if h.response then 8 else 0) + h.hop.toNat

/-- Frames that wait in the module and hold a buffer of receive channel `ch` of port `p`. -/
def State.buffered (s : State) (p ch : Nat) : Nat :=
  (((List.range 32).flatMap (fun q => (s.port q).queue) ++ s.fab.waiting).filter (fun f => f.inBuf == some (p, ch))).length

/-- IDLE (R421, R422, R424): HACK, credits, and a resend when RTRY is set: the frames go out again as they were (R430). -/
def execIdle (p : Fin 32) (hack : BitVec 32) (d : List Byte) (s : State) : Host.Outcome State Fault Refusal :=
  .next (if (s.port p).st = 4 ∧ d.length = 18 then
    let s1 := (((s.crossed (96 + p) 68).hubEvent 0x02 p).modPort p (fun k => { k with
      heard := s.now, creditGot := (List.range 17).map (fun i => leAt d i 1) })).acked p hack
    if bitAt (d.getD 17 0) 0 then
      let k := s1.port p
      (List.range k.replay.length).foldl (fun s i => match k.replay[i]? with
          | some f => ({ s with fab := { s.fab with
              sent := s.fab.sent ++ [(p.val, s.wireForm p f (k.txCount - k.replay.length + 1 + i))] } }.crossed (96 + p) f.size).hubEvent 0x03 p
          | none => s)
        (s1.modPort p (fun k => { k with retry := satAdd 0xFFFF k.retry 1 }))
    else s1
  else s)

/-- FAB_IDLE_TIMER (R424). -/
def execFabIdleTimer (p : Fin 32) (s : State) : Host.Outcome State Fault Refusal :=
  .next (if (s.port p).st = 4 then s.sendIdle p false else s)

/-! ### Frames caught by a link loss (R440, R441) -/

/-- Send a held frame again along current routes; too long a way loses it (R441). Without a next hop it waits for the
recomputation, which looks again. -/
def State.resendHeld (s : State) (f : FabFrame) : State :=
  let dst := f.hdr.dst.toNat
  if s.hops dst ≠ [] ∧ 8 < f.hdr.hop.toNat + Sparse.get 0 s.fab.dist dst then s.loseFrame f
  else if s.routable dst then s.sendOut f
  else s.loseFrame f

/-- The neighbour's LSA gives LASTSEQ for the link of port `p`: frames up to it were accepted, the rest are sent again. LSAs
took numbers too, and are not sent again. -/
def State.catchUp (s : State) (p : Nat) (lastseq : BitVec 32) : State :=
  let held := (s.port p).caught
  let n := match held with
    | f :: _ => (lastseq + 1 - f.hdr.hseq).toNat
    | [] => 0
  let rest := if n ≤ held.length then held.drop n else held
  (rest.filter FabFrame.carries).foldl State.resendHeld (s.modPort p (fun k => { k with caught := [] }))

/-- LASTSEQ_TIMEOUT (R440): no such LSA within 1 ms: every held frame is discarded and a LOST sent for it. -/
def execLastseqTimeout (p : Fin 32) (s : State) : Host.Outcome State Fault Refusal :=
  .next (if s.now < (s.port p).downAt + 1400000 then s
    else ((s.port p).caught.filter FabFrame.carries).foldl State.loseFrame (s.modPort p (fun k => { k with caught := [] })))

/-! ### Link state of others and routes (R433, R435, R437, R439) -/

/-- The module's address is also advertised by another module (R435). -/
def State.checkDup (s : State) : State :=
  { s with fab := { s.fab with dup := s.fab.addrv && s.fab.db.any (fun a => a.addrv && a.addr == s.fab.addr) } }

/-- LSA (R433, R440): newer link state is kept and forwarded, and gives LASTSEQ for frames held behind a lost link. -/
def execLsa (p : Fin 32) (h : FabHdr) (d : List Byte) (s : State) : Host.Outcome State Fault Refusal :=
  .next (match s.receive p ⟨0x04, h, d, none⟩ with
    | (s1, none) => s1
    | (s0, some clear) =>
      let s1 := s0.freeBuffer (some (p, 16))
      match parseLsa clear with
      | none => s1
      | some a =>
        if a.serial = s.sec.serial then s1
        else if s.fab.db.any (fun (b : Lsa) => b.serial == a.serial && decide (a.seq.toNat ≤ b.seq.toNat)) then s1
        else
          let s2 := { s1 with fab := { s1.fab with db := s1.fab.db.filter (fun (b : Lsa) => b.serial != a.serial) ++ [a], ages := Sparse.set 0 s1.fab.ages a.serial.toNat s.now } }
          let s3 := (List.range 32).foldl (fun s q =>
            let k := s.port q
            if k.peerSerial = a.serial then
              let s' := s.modPort q (fun k => { k with naddr := a.addr, naddrv := a.addrv })
              match a.links.find? (fun e => e.port == k.nport.toNat && e.nport == q && !e.up) with
              | some e => if k.st ≠ 4 ∧ k.caught ≠ [] then s'.catchUp q e.lastseq else s'
              | none => s'
            else s) s2
          (s3.floodBut a (some p)).checkDup)

/-- LSA_TIMER (R433): the module floods at least once a second. -/
def execLsaTimer (s : State) : Host.Outcome State Fault Refusal := .next (if s.hubRuns then s.flood else s)

/-- LSA_AGE_OUT (R433): no LSA of a module for 4 s. -/
def execLsaAgeOut (serial : BitVec 64) (s : State) : Host.Outcome State Fault Refusal :=
  .next (if s.now < Sparse.get 0 s.fab.ages serial.toNat + 5600000000 then s
    else State.checkDup { s with fab := { s.fab with db := s.fab.db.filter (fun (a : Lsa) => a.serial != serial) } })

/-- Link entries x of module a and y of module b are the two ends of one link, both advertised as up (R437). -/
def linkMatch (a b : Lsa) (x y : LinkEnt) : Bool :=
  x.up && y.up && x.nport == y.port && y.nport == x.port && (x.naddr == b.addr || !b.addrv) && (y.naddr == a.addr || !a.addrv)

/-- Modules a and b are linked. -/
def linked (a b : Lsa) : Bool := a.serial != b.serial && a.links.any (fun x => b.links.any (fun y => linkMatch a b x y))

/-- The modules within n hops of a set, by index. -/
def grow (mods : List Lsa) : Nat → List Nat → List Nat
  | 0, l => l
  | n + 1, l =>
    let near (i : Nat) : Bool := l.contains i || l.any (fun j => match mods[i]?, mods[j]? with
      | some a, some b => linked a b
      | _, _ => false)
    grow mods n ((List.range mods.length).filter near)

/-- Hop count between two modules, at most 8. -/
def hopCount (mods : List Lsa) (i j : Nat) : Option Nat := (List.range 9).find? (fun n => (grow mods n [j]).contains i)

/-- Next-hop ports of the module (index 0) towards module j: at most four, the lowest-numbered of equal cost (R437). -/
def nextHops (mods : List Lsa) (j : Nat) : Option (Nat × List Nat) :=
  match hopCount mods 0 j, mods[0]? with
  | some n, some own =>
    if n = 0 then none
    else
      some (n, ((own.links.filter (fun x => (List.range mods.length).any (fun i => match mods[i]? with
        | some b => b.serial != own.serial && b.links.any (fun y => linkMatch own b x y) && hopCount mods i j == some (n - 1)
        | none => false))).map (·.port)).mergeSort (fun a b => decide (a ≤ b)) |>.take 4)
  | _, _ => none

/-- The routes of the link state held now: destination, hops and next-hop ports. A duplicate address has none
(R435). Address 0xFFF has one, by which its answers reach a module that issues remote transactions under it (R27). -/
def State.computeRoutes (s : State) : List (Nat × Nat × List Nat) :=
  let mods := s.ownLsa :: s.fab.db
  (List.range mods.length).filterMap (fun j => match mods[j]? with
    | some a =>
      if j = 0 ∨ a.addrv = false ∨ mods.any (fun b => b.serial != a.serial && b.addrv && b.addr == a.addr) = true then none
      else (nextHops mods j).map (fun r => (a.addr.toNat, r.1, r.2))
    | none => none)

/-- Abort every instruction with a transfer outstanding to a module that cannot be reached (R356). -/
def State.loseTransfers (s : State) : State :=
  (List.range 64).foldl (fun s c =>
    (s.core c).se.active.foldl (fun s a =>
      let bad := a.xfers.filter (fun x => x.pool == 2 && !s.reachable (x.blk / 2 ^ 64))
      let postBad := a.xfers.any (fun x => x.kind == .post) && !s.reachable (a.desc 0).module
      let gone := bad.filter (fun x => x.kind != .post) ++ (if postBad then a.xfers.filter (fun x => x.kind == .post) else [])
      if gone = [] then s
      else
        let s1 := gone.foldl (fun s x => s.endXfer c a.id x.num) s
        let s2 := if gone.any (fun x => x.kind == .data && a.ent.op.remoteWrite) then
          s1.modAct c a.id (fun a => { a with landed := true }) else s1
        s2.seFault c a.id fLinkLost) s) s

/-- ROUTE_RECOMPUTE_DONE (R356, R437, R439): new routes hold; frames that waited leave, or are lost with what is
unreachable. -/
def execRouteRecomputeDone (s : State) : Host.Outcome State Fault Refusal :=
  .next (let r : List (Nat × Nat × List Nat) := s.computeRoutes
    let s1 := { s with fab := { s.fab with
      routes := (r.filter (fun (e : Nat × Nat × List Nat) => e.2.2 != [])).foldl
        (fun m (e : Nat × Nat × List Nat) => Sparse.set [] m e.1 e.2.2) [],
      dist := r.foldl (fun m (e : Nat × Nat × List Nat) => Sparse.set 0 m e.1 e.2.1) [],
      nreach := 1 + r.length, emptied := [], waiting := [] } }
    (s.fab.waiting.foldl State.resendHeld s1).loseTransfers)

/-! ### Forwarding (R423, R436, R441) -/

/-- An accepted request or response frame is for this module, or it goes on to another. No peer can address a request to
0xFFF (R27). -/
def State.forMe (s : State) (p : Nat) (h : FabHdr) : Bool :=
  p == 32 || (s.isMine h.dst.toNat && (h.response || h.dst != 0xFFF))

/-- Forward a frame for a peer: HOP increments; beyond the last hop index, or without a route, it is lost. -/
def State.forward (s : State) (p : Nat) (f : FabFrame) : State :=
  let g : FabFrame := { f with hdr := { f.hdr with hop := f.hdr.hop + 1, gtag := 0 } }
  if f.hdr.response = false ∧ (s.fab.oldAddr = some f.hdr.dst ∨ f.hdr.dst = 0xFFF) then s.loseFrame f
  else if f.hdr.hop = 7 ∨ s.routable f.hdr.dst.toNat = false then s.loseFrame f
  else (s.hubEvent 0x05 p).sendOut g

/-- A request or response frame arrives: it is received, forwarded, or handed to `act` with its payload in clear. One for this
module frees its buffer at once; one for a peer holds it until it leaves (R423, R424). -/
def State.arriveFrame (s : State) (p : Nat) (type : BitVec 8) (h : FabHdr) (d : List Byte)
    (act : List Byte → State → State) : State :=
  let buf := some (p, reqChan h)
  if 2048 < d.length ∨ (p < 32 ∧ 8 ≤ s.buffered p (reqChan h)) then
    (if p < 32 ∧ (s.port p).st = 4 then s.discardFrame p .invalid else s)
  else
    match s.receive p ⟨type, h, d, none⟩ with
    | (s1, none) => s1
    | (s1, some clear) =>
      if s1.forMe p h then act clear (if p = 32 then s1 else s1.freeBuffer buf)
      else s1.forward p ⟨type, h, clear, buf⟩

/-- CROSSBAR_PARITY_ERROR (R447): an accepted frame is discarded in the router and a LOST sent for it. Its payload and tag
have passed their checks before (R420, R431). -/
def execCrossbarParityError (p : Fin 33) (h : FabHdr) (s : State) : Host.Outcome State Fault Refusal :=
  .next (let lose (s : State) : State := ((s.captureLink 3 p).setSticky sLinkRetry).loseFrame ⟨0x10, h, [], none⟩
    if p.val = 32 then lose s
    else if (s.port p).st ≠ 4 then s
    else if h.enc ≠ (s.port p).enc then s.discardFrame p .tagFailed
    else if h.hseq ≠ (s.port p).rxSeq + 1 then ((s.modPort p (fun k => { k with heard := s.now })).acked p h.hack).askResend p
    else lose ((((s.hubEvent 0x02 p).modPort p (fun k => { k with
      rxSeq := h.hseq, rxCount := k.rxCount + 1, heard := s.now, freedHere := bumpCount k.freedHere (reqChan h) })).acked p h.hack).crossed (96 + p) 50))

/-! ### Remote transactions at the target (R303, R318, R319, R354, R390, R444) -/

/-- A span of a space's offsets lies in a window of flask `f`, whose scratchpad offsets are logical (R19, R319). -/
def State.inFlask (s : State) (f sp off len : Nat) : Bool :=
  match s.flaskDef f with
  | some d => inWindow d.windows (memKey sp off) len && (sp != 3 || decide (off / 2 ^ 25 < d.ncores))
  | none => false

/-- The flask whose view a request takes: the owner of a version-buffered region, else the lowest-numbered running flask
whose windows contain the span, else the lowest-numbered with such windows (R303, R319). -/
def State.targetFlask (s : State) (sp off len : Nat) : Option Nat :=
  let fs := (List.range 16).filter (fun f => s.inFlask f sp off len)
  match s.vbOwner (memKey sp off) with
  | some o => if fs = [] then none else some o
  | none => (fs.find? (fun f => s.pourOn f)).or fs.head?

/-- The tier or scratchpad answers in the power state (R390). -/
def State.powered (s : State) (sp : Nat) : Bool :=
  (sp == 2 && s.pwr.state != .chrysalis) || s.pwr.state == .run || s.pwr.state == .idle

/-- The checks of a remote request before any byte lands (R319, R354, R390, R409): the flask it takes, or the fault. -/
def State.remoteCheck (s : State) (h : FabHdr) (len : Nat) (write : Bool) : Except (BitVec 8) Nat :=
  let sp := fld h.addr 48 4
  let off := fld h.addr 0 48
  if s.mouldStatus.stage = 4 then .error fWindow
  else if sp = 4 ∨ sp = 8 then .error fPrivilege
  else if spaceSize sp = 0 ∨ spaceSize sp < off + len ∨ s.powered sp = false then .error fWindow
  else match s.targetFlask sp off len with
    | none => .error fWindow
    | some f =>
      if write = true ∧ (s.vbOwner (memKey sp off)).isSome ∧ s.pourOn f = false then .error fWindow else .ok f

/-- Who a remote write is: the flask's own pour by the loopback, or a remote transaction (R274, R504). -/
def State.writerOf (s : State) (p : Nat) (h : FabHdr) (f : Nat) : Viewer := if s.fromFlask p h f then .pour f else .remote

/-- The instruction that a request belongs to: module, core, and its number there. -/
def insOf (h : FabHdr) : BitVec 12 × BitVec 6 × Nat := (h.src, h.orig, h.ins)

/-- Remember the instruction whose request was checked while the pour of flask `f` runs (R355). -/
def State.notePeer (s : State) (h : FabHdr) (f : Nat) : State :=
  if s.pourOn f ∧ ¬ (s.flask f).peers.contains (insOf h) ∧ ¬ (s.flask f).oldPeers.contains (insOf h) then
    s.modFlask f (fun x => { x with peers := x.peers ++ [insOf h] }) else s

/-- Bytes of a remote access cross the port of a stack or of a core's stream port (R584). -/
def State.targetCross (s : State) (sp off n : Nat) : State :=
  match stackOf (memKey sp off) with
  | some (st, _) => s.crossed (64 + st) n
  | none => s

/-- PUT at its target (R444): every byte is checked, then the data land. -/
def State.putAct (p : Nat) (h : FabHdr) (d : List Byte) (found : List (Nat × EccFind)) (s : State) : State :=
  match s.remoteCheck h d.length true with
  | .error code => s.reply p h 0x21 code []
  | .ok f =>
    let sp := fld h.addr 48 4
    let off := fld h.addr 0 48
    let s1 := (s.notePeer h f).targetCross sp off d.length
    match s1.writeSpans (s.writerOf p h f) found 0 h.orig.toNat (spread (s1.pieces f sp off d.length) d) with
    | (s2, true) => s2.reply p h 0x20 0 []
    | (s2, false) => s2.reply p h 0x21 fEcc []

/-- The prime of an ADD frame at the target (R317, R318). -/
def State.addPrime (s : State) (h : FabHdr) : Option Nat :=
  (s.chain h.chain.toNat).bind (fun ch => (ch.primes[h.sel.toNat]?).map (·.q))

/-- The sums of the words of an ADD: none when a destination word is not below the prime. -/
def addWords (q : Nat) (old d : List Byte) : Nat → Option (List Byte)
  | 0 => some []
  | n + 1 =>
    match addWords q old d n with
    | none => none
    | some l =>
      let a := leAt old (4 * n) 4
      if q ≤ a then none else some (l ++ leBytes 4 ((a + leAt d (4 * n) 4) % q))

/-- ADD at its target (R317, R318, R444): each word is read, added and written. -/
def State.addAct (p : Nat) (h : FabHdr) (d : List Byte) (found : List (Nat × EccFind)) (s : State) : State :=
  match s.remoteCheck h d.length true with
  | .error code => s.reply p h 0x21 code []
  | .ok f =>
    let sp := fld h.addr 48 4
    let off := fld h.addr 0 48
    match s.addPrime h with
    | none => s.reply p h 0x21 fModulus []
    | some q =>
      let s1 := (s.notePeer h f).targetCross sp off (2 * d.length)
      let v := s.writerOf p h f
      match s1.readSpans v found 0 h.orig.toNat (s1.pieces f sp off d.length) with
      | (s2, none) => s2.reply p h 0x21 fEcc []
      | (s2, some old) =>
        match addWords q old d (d.length / 4) with
        | none => s2.reply p h 0x21 fModulus []
        | some sums =>
          match s2.writeSpans v [] 0 h.orig.toNat (spread (s2.pieces f sp off d.length) sums) with
          | (s3, true) => s3.reply p h 0x20 0 []
          | (s3, false) => s3.reply p h 0x21 fEcc []

/-- GET_REQ at its target (R443, R444): the data go back; a version-buffered region gives its committed version. -/
def State.getAct (p : Nat) (h : FabHdr) (d : List Byte) (found : List (Nat × EccFind)) (s : State) : State :=
  let n := leAt d 0 4
  match if 2048 < n then .error fWindow else s.remoteCheck h n false with
  | .error code => s.reply p h 0x21 code []
  | .ok f =>
    let sp := fld h.addr 48 4
    let off := fld h.addr 0 48
    let s1 := (s.notePeer h f).targetCross sp off n
    match s1.readSpans .other found 0 h.orig.toNat (s1.pieces f sp off n) with
    | (s2, none) => s2.reply p h 0x21 fEcc []
    | (s2, some l) => s2.reply p h 0x22 0 l

/-- POST at its target (R264, R303, R304, R354, R355, R446): the semaphore half and the inbound queue of the receiving
core. Without a running flask it is refused. Of an instruction whose first request was checked for a pour that has ended
since, post and token are discarded. -/
def State.postAct (p : Nat) (h : FabHdr) (s : State) : State :=
  match s.remoteCheck h 1 false with
  | .error code => s.reply p h 0x21 code []
  | .ok f =>
    if (List.range 16).any (fun g => (s.flask g).oldPeers.contains (insOf h)) then
      ((List.range 16).foldl (fun s g => s.modFlask g (fun x => { x with oldPeers := x.oldPeers.erase (insOf h) })) s).reply p h 0x20 0 []
    else if s.pourOn f = false then s.reply p h 0x21 fWindow []
    else
      let n := ((s.flaskDef f).map (·.ncores)).getD 0
      let l := h.pcore.toNat
      if n ≤ l then s.reply p h 0x21 fWindow []
      else
        let s0 := s.notePeer h f
        let own := s.fromFlask p h f
        let s1 := if h.spen then
            let s' := s0.postTo f l h.spair.toNat h.shalf 1
            if own then s' else s'.noteExt f ⟨0, l, true, h.spair.toNat, h.shalf⟩
          else s0
        if h.rten then
          let q := 48 + h.rtq.toNat
          match s1.putToken f l q with
          | (s2, true) => (if own then s2 else s2.noteExt f ⟨0, l, false, q, false⟩).reply p h 0x20 0 []
          | (s2, false) =>
            s2.modCore ((s.hosts f).getD l 0) (fun k => { k with remoteTok := k.remoteTok ++ [(h.rtq.toNat, p, h)] })
        else s1.reply p h 0x20 0 []

/-- PUT (R444). -/
def execPut (p : Fin 33) (h : FabHdr) (d : List Byte) (found : List (Nat × EccFind)) (s : State) : Host.Outcome State Fault Refusal :=
  .next (s.arriveFrame p 0x10 h d (fun d s => s.putAct p h d found))
/-- ADD (R317, R444). -/
def execAddFrame (p : Fin 33) (h : FabHdr) (d : List Byte) (found : List (Nat × EccFind)) (s : State) : Host.Outcome State Fault Refusal :=
  .next (s.arriveFrame p 0x11 h d (fun d s => s.addAct p h d found))
/-- GET_REQ (R443, R444). -/
def execGetReq (p : Fin 33) (h : FabHdr) (d : List Byte) (found : List (Nat × EccFind)) (s : State) : Host.Outcome State Fault Refusal :=
  .next (s.arriveFrame p 0x12 h d (fun d s => s.getAct p h d found))
/-- POST (R446). -/
def execPost (p : Fin 33) (h : FabHdr) (d : List Byte) (s : State) : Host.Outcome State Fault Refusal :=
  .next (s.arriveFrame p 0x13 h d (fun _ s => s.postAct p h))

/-! ### Answers at the originating core (R442, R443, R446) -/

/-- The instruction and transfer of core `c` that hold a remote tag. -/
def Core.tagOf (k : Core) (tag : Nat) : Option (SeAct × Xfer) :=
  k.se.active.findSome? (fun a => (a.xfers.find? (fun x => x.pool == 2 && x.tag == tag)).map (fun x => (a, x)))

/-- Handle the answer of a remote transfer: nothing when its core is cut off (R495), holds no such tag, or the transfer has
exceeded its time (R357). -/
def State.answer (s : State) (h : FabHdr) (act : State → Nat → SeAct → Xfer → State) : State :=
  let c := h.orig.toNat
  match (s.core c).tagOf h.tag.toNat with
  | some (a, x) => if s.coreAlive c && s.inTime c x then act s c a x else s
  | none => s

/-- The post of an instruction goes to the flask that issued it. -/
def State.postsHome (s : State) (c : Nat) (a : SeAct) : Bool :=
  let x := rawAcc (BitVec.ofNat 64 (a.desc 0).base) 1
  s.isLocal (a.desc 0).module && s.targetFlask x.space x.off.toNat 1 == (s.serving c).map (·.1)

/-- ACK at the originating core. -/
def State.ackAct (h : FabHdr) (s : State) : State :=
  s.answer h (fun s c a x =>
    let s1 := if x.kind = .post then
        let s' := s.modAct c a.id (fun a => { a with posted := 2 })
        if s.postsHome c a then s'
        else s'.modFlask (s.viewOf c) (fun f => { f with delivered := f.delivered ++ a.dests s })
      else s.modAct c a.id (fun a => { a with landed := true })
    (s1.endXfer c a.id x.num).settle c a.id)

/-- NACK at the originating core: the instruction aborts with the fault that the target raised (R443). -/
def State.nackAct (h : FabHdr) (s : State) : State :=
  s.answer h (fun s c a x => (s.endXfer c a.id x.num).seFault c a.id h.status)

/-- LOST at the originating core: the transfer's writes may have landed (R442). -/
def State.lostAct (h : FabHdr) (s : State) : State :=
  s.answer h (fun s c a x =>
    let s1 := if x.kind = .data ∧ a.ent.op.remoteWrite = true then s.modAct c a.id (fun a => { a with landed := true }) else s
    (s1.endXfer c a.id x.num).seFault c a.id fLinkLost)

/-- The data of units u to u + n − 1 of a remote read arrive, in order. -/
def State.arriveRun (c id : Nat) : Nat → Nat → List Byte → State → State
  | 0, _, _, s => s
  | n + 1, u, d, s =>
    match (s.core c).actOf id with
    | none => s
    | some a =>
      match a.readNeed s u with
      | .acc x => State.arriveRun c id n (u + 1) (d.drop x.len) (s.arrive c id u (bytesAt d 0 x.len))
      | _ => State.arriveRun c id n (u + 1) d s

/-- GET_RESP at the originating core. -/
def State.getRespAct (h : FabHdr) (d : List Byte) (s : State) : State :=
  s.answer h (fun s c a x =>
    let s1 := State.arriveRun c a.id x.n x.u0 d (s.crossed c d.length)
    (s1.endXfer c a.id x.num).settle c a.id)

/-- ACK (R443). -/
def execAck (p : Fin 33) (h : FabHdr) (d : List Byte) (s : State) : Host.Outcome State Fault Refusal :=
  .next (s.arriveFrame p 0x20 h d (fun _ s => s.ackAct h))
/-- NACK (R443). -/
def execNack (p : Fin 33) (h : FabHdr) (d : List Byte) (s : State) : Host.Outcome State Fault Refusal :=
  .next (s.arriveFrame p 0x21 h d (fun _ s => s.nackAct h))
/-- GET_RESP (R443). -/
def execGetResp (p : Fin 33) (h : FabHdr) (d : List Byte) (s : State) : Host.Outcome State Fault Refusal :=
  .next (s.arriveFrame p 0x22 h d (fun d s => s.getRespAct h d))
/-- LOST (R442). -/
def execLost (p : Fin 33) (h : FabHdr) (d : List Byte) (s : State) : Host.Outcome State Fault Refusal :=
  .next (s.arriveFrame p 0x23 h d (fun _ s => s.lostAct h))

end Sys2Proof.Machine
end

