-- ==== Sys2Proof/Machine/Link.lean ====
section
/-! DEFINITION. The control link: lock, SYNC exchange, acknowledgement, credit, resends and event timers (R451 to R460,
R485). -/

namespace Sys2Proof.Machine

/-- Change the control port. -/
def State.modCp (s : State) (f : Cp → Cp) : State := { s with cp := f s.cp }

/-- An unsequenced frame of the module. -/
def plainFrame (type : BitVec 8) (payload : List Byte) : CpFrame := ⟨type, false, 0, 0, 0, 0, 0, 0, payload⟩

/-- The module's SYNC payload (Table 15-6): serial, 256 buffers, role 1, version 1. -/
def State.syncBytes (s : State) : List Byte := [0, 1, 0, 1] ++ leBytes 2 256 ++ [0, 0] ++ leBytes 8 s.sec.serial.toNat

/-- Send a SYNC. -/
def State.sendSync (s : State) : State := (s.laneOut (plainFrame 0x03 s.syncBytes)).modCp (fun k => { k with syncAt := s.now })

/-- The port enters the SYNC exchange. -/
def State.enterSync (s : State) : State :=
  (s.modCp (fun k => { k with st := .sync, gotSync := false, gotAck := false })).sendSync

/-- CP_LOCK (R451): the port has locked and aligned, and enters the SYNC exchange. -/
def execCpLock (s : State) : Host.Outcome State Fault Refusal :=
  .next (if (s.cp.st = .down ∨ s.cp.st = .locking) ∧ s.hubRuns = true then s.enterSync else s)

/-- Both ends have finished the exchange: SEQ, ACKSEQ and CREDIT restart at 0, and what was held is sent again under new
numbers (R460). -/
def State.linkUp (s : State) : State :=
  State.pump (s.modCp (fun k => { k with
    st := .up, rxSeq := 0, txSeq := 0, txCount := 0, freed := 0, peerCredit := 0, nakAt := none, ready := k.held ++ k.ready, held := [] }))

/-- Finish the exchange when both halves of it are done. -/
def State.trySync (s : State) : State := if s.cp.gotSync ∧ s.cp.gotAck then s.linkUp else s

/-- A SYNC or SYNC_ACK payload of a control node is valid (Table 15-6, R457). -/
def syncOk (p : List Byte) : Bool :=
  decide (p.length = 16) && p.getD 0 0 == 0 && decide (leAt p 1 2 = 1) && p.getD 3 0 == 0 && decide (16 ≤ leAt p 4 2) &&
    decide (leAt p 6 2 = 0) && decide (leAt p 8 8 = 0)

/-- A valid control frame arrives. -/
def State.cpArrives (s : State) (n : Nat) : State :=
  ((s.crossed 128 (38 + n)).hubEvent 0x11 256).modCp (fun k => { k with heard := s.now })

/-- A frame is discarded under R453 or R454. -/
def State.discard (s : State) : State := s.modCp (fun k => { k with discards := satAdd 0xFFFF k.discards 1 })

/-- A SYNC or SYNC_ACK payload has a nonzero RSV field: the frame is discarded (R453). -/
def syncRsv (p : List Byte) : Bool := p.getD 0 0 != 0 || (p.getD 3 0).toNat / 2 != 0 || leAt p 6 2 != 0

/-- CP_SYNC (R457, R460): the control node's SYNC is acknowledged. On a link that is up it begins a new exchange. -/
def execCpSync (p : List Byte) (s : State) : Host.Outcome State Fault Refusal :=
  .next (if syncRsv p = true ∧ (s.cp.st = .sync ∨ s.cp.st = .up) then s.discard
  else if syncOk p = true ∧ (s.cp.st = .sync ∨ s.cp.st = .up) then
    let s0 := s.cpArrives 16
    let s1 := if s.cp.st = .up then s0.enterSync else s0
    let s2 := s1.modCp (fun k => { k with gotSync := true, peerBufs := leAt p 4 2 })
    (s2.laneOut (plainFrame 0x04 s2.syncBytes)).trySync
  else s)

/-- CP_SYNC_ACK (R460): the module's own SYNC is acknowledged. -/
def execCpSyncAck (p : List Byte) (s : State) : Host.Outcome State Fault Refusal :=
  .next (if syncRsv p = true ∧ (s.cp.st = .sync ∨ s.cp.st = .up) then s.discard
  else if syncOk p = true ∧ s.cp.st = .sync then
    ((s.cpArrives 16).modCp (fun k => { k with gotAck := true, peerBufs := leAt p 4 2 })).trySync
  else s)

/-- CP_SYNC_TIMER (R460): the module repeats its SYNC every 100 µs. -/
def execCpSyncTimer (s : State) : Host.Outcome State Fault Refusal :=
  .next (if s.cp.st = .sync ∧ s.cp.syncAt + 140000 ≤ s.now then s.sendSync else s)

/-- Take the ACKSEQ and CREDIT that a frame carries (R456, R457), and send what they make room for. -/
def State.takeAck (s : State) (h : CpHdr) : State :=
  let n := match s.cp.held with
    | [] => 0
    | f :: _ => (h.ackseq - f.seq).toNat
  let more := (h.credit - BitVec.ofNat 16 s.cp.peerCredit).toNat
  State.pump (s.modCp (fun k => { k with
    held := if n ≤ k.held.length then k.held.drop n else k.held, ackAt := if 0 < n ∧ n ≤ k.held.length then s.now else k.ackAt
    peerCredit := if more < 2 ^ 15 then k.peerCredit + more else k.peerCredit }))

/-- Resend every held frame in order (R456). -/
def State.resendHeldCp (s : State) : State :=
  (s.cp.held.foldl (fun s f => (s.laneOut f).hubEvent 0x13 256)
    (s.modCp (fun k => { k with resends := satAdd 0xFFFF k.resends 1, ackAt := s.now }))).setSticky sLinkRetry

/-- CP_IDLE (R453): an IDLE frame delivers ACKSEQ and CREDIT. -/
def execCpIdle (h : CpHdr) (s : State) : Host.Outcome State Fault Refusal :=
  .next (if s.cp.st = .up then (s.cpArrives 0).takeAck h else s)

/-- CP_NAK (R456): the other end asks for the frames from ACKSEQ on. -/
def execCpNak (h : CpHdr) (s : State) : Host.Outcome State Fault Refusal :=
  .next (if s.cp.st = .up then
    let s1 := (s.cpArrives 0).takeAck h
    if s1.cp.held = [] then s1 else s1.resendHeldCp
  else s)

/-- CP_RESEND_TIMEOUT (R456): ACKSEQ has not advanced for 50 µs while frames are held. -/
def execCpResendTimeout (s : State) : Host.Outcome State Fault Refusal :=
  .next (if s.cp.st = .up ∧ s.cp.held ≠ [] ∧ s.cp.ackAt + 70000 ≤ s.now then s.resendHeldCp else s)

/-- CP_IDLE_TIMER (R458). -/
def execCpIdleTimer (s : State) : Host.Outcome State Fault Refusal :=
  .next (if s.cp.st = .up then s.laneOut (plainFrame 0x01 []) else s)

/-- The control link goes down (R459): S_LINK_DOWN, the link capture, and bring-up anew. -/
def State.cpDown (s : State) : State :=
  ((s.modCp (fun k => { k with st := .locking, downs := satAdd 0xFFFF k.downs 1 })).captureLink 1 0).setSticky sLinkDown

/-- CP_LOSS_OF_LOCK (R459). -/
def execCpLossOfLock (s : State) : Host.Outcome State Fault Refusal :=
  .next (if s.cp.st = .sync ∨ s.cp.st = .up then s.cpDown else s)

/-- CP_LIVENESS_EXPIRY (R459): no valid frame for 1 ms. -/
def execCpLivenessExpiry (s : State) : Host.Outcome State Fault Refusal :=
  .next (if s.cp.st = .up ∧ s.cp.heard + 1400000 ≤ s.now then s.cpDown else s)

/-- A sequenced frame with SEQ `q` is not the next one (R454, R455): it is discarded; one ahead of ACKSEQ makes the module
send a NAK, and while the gap lasts another once 10 µs have passed. -/
def State.outOfOrder (s : State) (q : BitVec 32) : State :=
  let s1 := s.discard
  let ahead := (q - s.cp.rxSeq).toNat
  if 0 < ahead ∧ ahead < 2 ^ 31 ∧ s.cp.nakAt.all (fun n => decide (n + 14000 ≤ s.now)) = true then
    ((s1.modCp (fun k => { k with nakAt := some s.now, naks := satAdd 0xFFFF k.naks 1 })).laneOut (plainFrame 0x02 [])).setSticky sLinkRetry
  else s1

/-- CP_FRAME_DISCARD (R453 to R455): a frame fails its checks, or a sequenced frame whose SEQ is known is out of order. -/
def execCpFrameDiscard (seq : Option (BitVec 32)) (s : State) : Host.Outcome State Fault Refusal :=
  .next (if s.cp.st = .sync ∨ s.cp.st = .up then
    match seq with
    | some q => if s.cp.st = .up ∧ q ≠ s.cp.rxSeq then s.outOfOrder q
        else s.discard
    | none => s.discard
  else s)

/-- STICKY_EVENT_TIMER (R485): the sticky bits that went to 1 since the last STICKY event are reported, at most once in
1 ms. -/
def execStickyEventTimer (s : State) : Host.Outcome State Fault Refusal :=
  .next (if s.err.raised = 0 ∨ 512 - 16 ≤ s.eventsShared ∨ s.cp.stickyAt.any (fun n => decide (s.now < n + 1400000)) = true then s
    else State.event { s with err := { s.err with raised := 0 }, cp := { s.cp with stickyAt := some s.now } } 0x03
      (leBytes 8 s.err.sticky.toNat ++ leBytes 8 s.err.raised.toNat))

/-- The control port stops with its session, the CTAG record and the event queue (Table 18-8). -/
def State.cpReset (s : State) : State :=
  s.modCp (fun k => { Cp.init with lane := k.lane, downs := k.downs, resends := k.resends, naks := k.naks, discards := k.discards })

/-- A warm reset of the control port: the session, the CTAG record and queued events go, and the responses that the control
node has not acknowledged are sent again after the SYNC exchange (R460, R463, R483). -/
def State.cpWarm (s : State) : State :=
  s.cpReset.modCp (fun k => { k with ready := (s.cp.held ++ s.cp.ready).filter (fun f => f.type == 0x11#8) })

end Sys2Proof.Machine
end

