-- ==== Sys2Proof/Machine/MouldOps.lean ====
section
/-! DEFINITION. The mould: the parts of an image, the checks of Table 13-12 in their order, the committed structure an image
gives, and the steps that apply it (chapter 13). -/

namespace Sys2Proof.Machine

/-! ### Sections of an image (R393, R394) -/

/-- Why an image is rejected: reason, section TYPE and INDEX, and the entry within it (R406). -/
structure MvReject where
  reason : Nat
  sectype : Nat
  secidx : Nat
  entry : Nat
deriving DecidableEq, Repr

/-- A directory entry (Table 13-2) with the bytes of its section. -/
structure Sect where
  type : Nat
  index : Nat
  off : Nat
  size : Nat
  data : List Byte
deriving DecidableEq, Repr

/-- Every byte of bytes [lo, hi) is zero. -/
def zeroIn (l : List Byte) (lo hi : Nat) : Bool := ((l.drop lo).take (hi - lo)).all (· == 0)

/-- The directory of an image. -/
def imgSects (img : List Byte) : List Sect :=
  (List.range (leAt img 12 2)).map (fun e =>
    let b := 256 + 16 * e
    let off := leAt img (b + 8) 4
    let size := leAt img (b + 12) 4
    ⟨leAt img b 1, leAt img (b + 1) 1, off, size, bytesAt img off (min size img.length)⟩)

/-- The section of a type and index. -/
def findSect (ss : List Sect) (type index : Nat) : Option Sect := ss.find? (fun x => x.type == type && x.index == index)

/-- The bytes of the section of a type and index; none of them when it is absent. -/
def sectData (ss : List Sect) (type index : Nat) : List Byte := ((findSect ss type index).map (·.data)).getD []

/-- A number rounded up to a multiple of 256. -/
def up256 (n : Nat) : Nat := ceilDiv n 256 * 256

/-- L and K of a chain section (Table 13-6). -/
def chainL (d : List Byte) : Nat := leAt d 1 1 % 128
/-- K of a chain section. -/
def chainK (d : List Byte) : Nat := leAt d 2 1 % 16
/-- LOGN of a chain section. -/
def chainLogn (d : List Byte) : Nat := leAt d 0 1 % 32
/-- Offset of the first root table of a chain section (Table 13-3). -/
def chainT0 (d : List Byte) : Nat := up256 (64 + 64 * (chainL d + chainK d) + 2 * chainL d * (chainL d - 1))

/-- SIZE that Table 13-3 requires of a section. -/
def sectSize (ss : List Sect) (x : Sect) : Nat :=
  match x.type with
  | 0x01 => 256
  | 0x02 => chainT0 x.data + 6144 * (chainL x.data + chainK x.data)
  | 0x03 => up256 (256 + 32 * leAt x.data 0 2)
  | 0x04 => 2048
  | 0x05 => let n := leAt (sectData ss 0x04 x.index) 0 1
            up256 (8 * n * (n - 1))
  | _ => 512

/-- The directory entry is well formed by itself but for its SIZE: a listed TYPE, an INDEX it allows, RSV zero, OFFSET
aligned, and the section inside the image. -/
def sectOk (img : List Byte) (ss : List Sect) (e : Nat) (x : Sect) : Bool :=
  zeroIn img (256 + 16 * e + 2) (256 + 16 * e + 8) && x.off % 256 == 0 && decide (x.off + x.size ≤ img.length) &&
  (match x.type with
    | 0x01 => x.index == 0
    | 0x02 => decide (x.index < 8)
    | 0x03 => x.index == 0
    | 0x04 => decide (x.index < 16)
    | 0x05 => decide (x.index < 16) && (findSect ss 0x04 x.index).isSome
    | 0xFF => x.index == 0 && e + 1 == ss.length && x.off + x.size == img.length
    | _ => false)

/-- The end of what precedes directory entry `e`: the directory, or the section before. -/
def gapStart (ss : List Sect) (e : Nat) : Nat :=
  if e = 0 then 256 + 16 * ss.length else ((ss[e - 1]?).map (fun x => x.off + x.size)).getD 0

/-- Entry `e` breaks R394. -/
def dirBad (img : List Byte) (ss : List Sect) (e : Nat) (x : Sect) : Bool :=
  !(sectOk img ss e x) || decide (x.off < gapStart ss e) || !(zeroIn img (gapStart ss e) x.off) ||
    (ss.take e).any (fun y => y.type == x.type && y.index == x.index)

/-- Check 6: the directory by R394, then the sizes of Table 13-3. -/
def checkDirectory (img : List Byte) : Option MvReject :=
  let n := leAt img 12 2
  if n < 3 ∨ 43 < n ∨ img.length < 256 + 16 * n then some ⟨0x05, 0, 0, 0⟩
  else
    let ss := imgSects img
    match (List.range n).find? (fun e => (ss[e]?).any (dirBad img ss e)) with
    | some e => some ⟨0x05, ((ss[e]?).map (·.type)).getD 0, ((ss[e]?).map (·.index)).getD 0, e⟩
    | none =>
      if (findSect ss 0xFF 0).isNone then some ⟨0x05, 0xFF, 0, 0⟩
      else if (findSect ss 0x01 0).isNone then some ⟨0x05, 0x01, 0, 0⟩
      else if ss.all (fun x => x.type != 0x04) = true then some ⟨0x05, 0x04, 0, 0⟩
      else (List.range n).findSome? (fun e => (ss[e]?).bind (fun x =>
        if x.size = sectSize ss x then none else some ⟨0x05, x.type, x.index, e⟩))

/-- Checks 1 to 6 of Table 13-12. -/
def State.checksEarly (s : State) : Option MvReject :=
  let img := s.staged
  if s.sec.lifecycle = 2 then some ⟨0x09, 0, 0, 0⟩
  else if img = [] ∨ leAt img 8 4 % 256 ≠ 0 ∨ 2 ^ 26 < leAt img 8 4 ∨ leAt img 8 4 ≠ img.length then some ⟨0x01, 0, 0, 0⟩
  else if leAt img 0 4 ≠ 0x474E4D4C ∨ leAt img 4 2 ≠ 1 ∨ zeroIn img 6 8 = false ∨ zeroIn img 14 16 = false ∨
      zeroIn img 18 24 = false ∨ zeroIn img 32 256 = false then some ⟨0x02, 0, 0, 0⟩
  else if 0x0100 < leAt img 16 2 then some ⟨0x03, 0, 0, 0⟩
  else if leAt img 24 8 ≠ 0 ∧ leAt img 24 8 ≠ s.sec.serial.toNat then some ⟨0x04, 0, 0, 0⟩
  else checkDirectory img

/-! ### The signature (R404, R405) -/

/-- The mould digest (R404). -/
def mouldDigest (img : List Byte) : List Byte := sha512 (img.take (img.length - 512))

/-- The SIGNATURE section: the last 512 bytes. -/
def sigBytes (img : List Byte) : List Byte := img.drop (img.length - 512)

/-- The edge-input checks of Table 17-4: r and s in range, both coordinates below p and not both zero. -/
def edgeOk (x y r v : Nat) : Bool :=
  decide (0 < r) && decide (r < ecN) && decide (0 < v) && decide (v < ecN) && decide (x < ecP) && decide (y < ecP) &&
    !(x == 0 && y == 0)

/-- Checks 7 and 8 of Table 13-12. -/
def State.checksSignature (s : State) : Option MvReject :=
  let g := sigBytes s.staged
  let x := beNat (bytesAt g 0 66)
  let y := beNat (bytesAt g 66 66)
  if edgeOk x y (beNat (bytesAt g 132 66)) (beNat (bytesAt g 198 66)) = false ∨ zeroIn g 264 512 = false then
    some ⟨0x06, 0xFF, 0, 0⟩
  else if s.sec.lifecycle = 1 then
    if sha512 (bytesAt g 0 132) = bytesAt s.sec.ownerHash 0 64 then none else some ⟨0x07, 0xFF, 0, 0⟩
  else if s.sec.lifecycle = 0 ∧ (x, y) = Config.factoryKey then none
  else some ⟨0x07, 0xFF, 0, 0⟩

/-- The verification of a staged image (check 9). -/
def State.mouldJob (s : State) : BneJob :=
  let g := sigBytes s.staged
  ⟨.mould, beNat (bytesAt g 0 66), beNat (bytesAt g 66 66), beNat (bytesAt g 132 66), beNat (bytesAt g 198 66),
    beNat (mouldDigest s.staged)⟩

/-! ### Module and chains (checks 10 to 14) -/

/-- Check 10: Table 13-4 and R395. -/
def moduleOk (d : List Byte) : Bool :=
  decide (leAt d 0 2 < 4096) && leAt d 1 1 / 16 == 0 && decide (8 ≤ leAt d 2 1) && decide (leAt d 2 1 ≤ 64) &&
  leAt d 3 1 == 0 && decide (800 ≤ leAt d 4 2) && decide (leAt d 4 2 ≤ 2400) && decide (leAt d 6 1 ≤ 8) &&
  decide (leAt d 7 1 ≤ 4) && decide (leAt d 8 1 ≤ 2) && zeroIn d 9 16 && zeroIn d 32 256 &&
  decide (leAt d 16 16 / 2 ^ 96 = 15)

/-- Check 11: the shape of a chain (R130). -/
def chainShapeOk (d : List Byte) : Bool :=
  decide (12 ≤ chainLogn d) && decide (chainLogn d ≤ 17) && decide (1 ≤ chainL d) && decide (chainK d ≤ 8) &&
    decide (chainL d + chainK d ≤ 64)

/-- Q of prime `r` of a chain section (Table 13-7). -/
def primeQ (d : List Byte) (r : Nat) : Nat := leAt d (64 + 64 * r) 4

/-- Check 12: prime `r` of a chain (R52), distinct from those before it. -/
def primeOk (d : List Byte) (r : Nat) : Bool :=
  let q := primeQ d r
  decide (2 ^ 20 < q) && decide (q % 2 ^ (chainLogn d + 1) = 1) && decide (Nat.Prime q) &&
    (List.range r).all (fun i => primeQ d i != q)

/-- The primes of a chain section, by index. -/
def primesOf (d : List Byte) : List Nat := List.range (chainL d + chainK d)

/-- Montgomery form of a residue (R51). -/
def toMont (v q : Nat) : Nat := v % q * 2 ^ 32 % q

/-- LOGQ: log2 q rounded down to a multiple of 1/256 (Table 5-1). -/
def logqOf (q : Nat) : Nat := Nat.log2 (q ^ 256)

/-- The product of the special primes of a chain. -/
def specialProduct (d : List Byte) : Nat :=
  (List.range (chainK d)).foldl (fun v i => v * primeQ d (chainL d + i)) 1

/-- Check 13 for prime record `r`: RSV, OFF_q (R57), PINV, LOGQ, NINV (R155) and MSQ. -/
def constOk (d : List Byte) (r : Nat) : Bool :=
  let b := 64 + 64 * r
  let q := primeQ d r
  leAt d (b + 4) 4 == 2 ^ 64 % q &&
  leAt d (b + 8) 4 == toMont (invMod (2 ^ chainLogn d) q) q &&
  leAt d (b + 12) 2 == logqOf q &&
  zeroIn d (b + 14) (b + 16) && zeroIn d (b + 36) (b + 64) &&
  leAt d (b + 16) 4 == (if r < chainL d then toMont (invMod (specialProduct d) q) q else 0) &&
  leAt d (b + 20) 16 == ceilDiv (2 ^ 127) q * q

/-- QINV(l, i) as the section holds it (R396). -/
def qinvAt (d : List Byte) (l i : Nat) : Nat := leAt d (64 + 64 * (chainL d + chainK d) + 4 * (l * (l - 1) / 2 + i)) 4

/-- Check 13 for the header of a chain section and its padding. -/
def chainHeadOk (d : List Byte) : Bool :=
  leAt d 0 1 / 32 == 0 && leAt d 1 1 / 128 == 0 && leAt d 2 1 / 16 == 0 && zeroIn d 3 12 && zeroIn d 36 64 &&
  leAt d 12 2 == ((List.range (chainK d)).map (fun i => logqOf (primeQ d (chainL d + i)))).sum &&
  zeroIn d (64 + 64 * (chainL d + chainK d) + 2 * chainL d * (chainL d - 1)) (chainT0 d)

/-- Check 13 for the QINV table: the first word that differs (R396). -/
def qinvBad (d : List Byte) : Option Nat :=
  ((List.range (chainL d)).flatMap (fun l => (List.range l).map (fun i => (l, i)))).findSome? (fun p =>
    if qinvAt d p.1 p.2 = toMont (invMod (primeQ d p.1) (primeQ d p.2)) (primeQ d p.2) then none
    else some (p.1 * (p.1 - 1) / 2 + p.2))

/-- Check 13 for a chain section: its failing entry (a prime record, a word of the QINV table, or 0 for the rest). -/
def constsBad (d : List Byte) : Option Nat :=
  ((primesOf d).find? (fun r => !constOk d r)).or ((qinvBad d).or (if chainHeadOk d then none else some 0))

/-- The root table of prime `r`: FH, FL, IH and IL (R161, R396). -/
def rootWords (d : List Byte) (r : Nat) : List Nat := (List.range 1536).map (fun i => leAt d (chainT0 d + 6144 * r + 4 * i) 4)

/-- Consecutive powers: word i is REDC(word i − 1 × step), from the Montgomery form of 1. -/
def powersOk (q step : Nat) : Nat → List Nat → Bool
  | _, [] => true
  | want, w :: r => w == want && powersOk q step (montMul want step q) r

/-- Check 14: FL[1] is the Montgomery form of a ψ with ψ^N ≡ −1, and every entry is its power of ψ. -/
def rootsOk (d : List Byte) (r : Nat) : Bool :=
  let q := primeQ d r
  let t := rootWords d r
  let m := t.getD 257 0                  -- FL[1]
  let psi := redc m q
  let inv := invMod psi q
  let one := toMont 1 q
  decide (m < q) && powMod psi (2 ^ chainLogn d) q 18 == q - 1 &&
  powersOk q (toMont (powMod psi 512 q 10) q) one (t.take 256) &&
  powersOk q m one ((t.drop 256).take 512) &&
  powersOk q (toMont (powMod inv 512 q 10) q) one ((t.drop 768).take 256) &&
  powersOk q (toMont inv q) one (t.drop 1024)

/-- The first chain section and entry that a check rejects. -/
def chainReject (ss : List Sect) (reason : Nat) (bad : List Byte → Option Nat) : Option MvReject :=
  (ss.filter (fun x => x.type == 0x02)).findSome? (fun x => (bad x.data).map (fun e => ⟨reason, 0x02, x.index, e⟩))

/-- Checks 10 to 14. -/
def checksModule (ss : List Sect) : Option MvReject :=
  (if moduleOk (sectData ss 0x01 0) then none else some (⟨0x10, 0x01, 0, 0⟩ : MvReject)).or
  ((chainReject ss 0x11 (fun d => if chainShapeOk d then none else some 0)).or
  ((chainReject ss 0x12 (fun d => (primesOf d).find? (fun r => !primeOk d r))).or
  ((chainReject ss 0x13 constsBad).or
  (chainReject ss 0x14 (fun d => (primesOf d).find? (fun r => !rootsOk d r))))))

/-! ### Regions, flasks, windows and routes (checks 15 to 19) -/

/-- A run of bytes of a tier or of logical scratchpad space: space, first offset, length. -/
structure Span where
  space : Nat
  lo : Nat
  len : Nat
deriving DecidableEq, Repr

/-- Two runs share a byte. -/
def Span.meets (a b : Span) : Bool :=
  a.space == b.space && decide (max a.lo b.lo < min (a.lo + a.len) (b.lo + b.len))

/-- The stacks of a tier: first clock domain, count, margin field of the MODULE section and channel capacity. -/
def tierShape (sp : Nat) : Nat × Nat × Nat × Nat :=
  if sp = 0 then (64, 16, 6, 2 ^ 29) else if sp = 1 then (80, 12, 7, 2 ^ 31) else (92, 4, 8, 2 ^ 32)

/-- Runs of a tier that neither a region nor a window may touch: margins (R375) and stacks whose controller domain is
disabled (R395, R399). -/
def barred (modl : List Byte) (sp : Nat) : List Span :=
  let g := tierShape sp
  let m := leAt modl g.2.2.1 1 * g.2.2.2
  (List.range g.2.1).map (fun k =>
    if leAt modl 16 16 / 2 ^ (g.1 + k) % 2 = 0 then ⟨sp, k * 2 ^ 37, 2 ^ 37⟩ else ⟨sp, k * 2 ^ 37 + (2 ^ 37 - m), m⟩)

/-- A run touches a barred run of its tier. -/
def Span.isBarred (modl : List Byte) (a : Span) : Bool := (barred modl a.space).any a.meets

/-- Region entry `e` (Table 13-8). -/
def regionOf (d : List Byte) (e : Nat) : Region :=
  let b := 256 + 32 * e
  { space := leAt d b 1, off := leAt d (b + 8) 8, size := leAt d (b + 16) 8, weight := leAt d (b + 1) 1 == 1,
    vb := leAt d (b + 2) 1 % 2 == 1, conf := leAt d (b + 2) 1 / 2 % 2 == 1, owner := leAt d (b + 3) 1,
    shadow := leAt d (b + 24) 6 }

/-- The regions of an image. -/
def regionsOf (ss : List Sect) : List Region :=
  let d := sectData ss 0x03 0
  (List.range (leAt d 0 2)).map (regionOf d)

/-- The run of a region, and that of its shadow. -/
def Region.span (r : Region) : Span := ⟨r.space, r.off, r.size⟩
/-- The run of a region's shadow. -/
def Region.shadowSpan (r : Region) : Span := ⟨r.space, r.shadow, r.size⟩

/-- The runs of a region and, when it is version-buffered, of its shadow. -/
def Region.spans (r : Region) : List Span := if r.vb then [r.span, r.shadowSpan] else [r.span]

/-- Check 15 for region entry `e`: R398, R399, and the values of Table 13-8. -/
def regionOk (ss : List Sect) (modl d : List Byte) (e : Nat) : Bool :=
  let b := 256 + 32 * e
  let r := regionOf d e
  decide (r.space < 3) && decide (leAt d (b + 1) 1 < 2) && decide (leAt d (b + 2) 1 < 4) && zeroIn d (b + 4) (b + 8) &&
  zeroIn d (b + 30) (b + 32) && r.off % 2 ^ 16 == 0 && r.size % 2 ^ 16 == 0 && r.size != 0 && r.shadow % 2 ^ 16 == 0 &&
  (if r.vb then decide (r.owner < 16) && (findSect ss 0x04 r.owner).isSome else r.owner == 0 && r.shadow == 0) &&
  r.spans.all (fun x => decide (x.lo + x.len ≤ spaceSize x.space) && !x.isBarred modl) &&
  !(r.vb && r.span.meets r.shadowSpan) &&
  (List.range e).all (fun i => let o := regionOf d i
    o.spans.all (fun x => !x.meets r.span) && r.spans.all (fun y => !y.meets o.span))

/-- Check 15. -/
def checkRegions (ss : List Sect) : Option MvReject :=
  match findSect ss 0x03 0 with
  | none => none
  | some x =>
    let d := x.data
    let n := leAt d 0 2
    if 256 < n ∨ zeroIn d 2 256 = false ∨ zeroIn d (256 + 32 * n) d.length = false then some ⟨0x20, 0x03, 0, 0⟩
    else ((List.range n).find? (fun e => !regionOk ss (sectData ss 0x01 0) d e)).map (fun e => ⟨0x20, 0x03, 0, e⟩)

/-- A timer field: 0, or in its range. -/
def timerOk (v lo hi : Nat) : Bool := v == 0 || (decide (lo ≤ v) && decide (v ≤ hi))

/-- A timer field with its default. -/
def timerOf (v dflt : Nat) : Nat := if v = 0 then dflt else v

/-- Core list and spare list of a flask section. -/
def flaskCores (d : List Byte) : List Nat :=
  (List.range (leAt d 0 1)).map (fun i => leAt d (256 + i) 1) ++ (List.range (leAt d 2 1)).map (fun i => leAt d (320 + i) 1)

/-- Nibble `g` of partition entry `l`. -/
def nibble (d : List Byte) (l g : Nat) : Nat := leAt d (384 + 8 * l) 8 / 16 ^ g % 16

/-- Check 16 for the fields of a flask section outside its core lists and its partition map: the ranges and reserved fields of
Table 13-9, and the chains it names (R402). -/
def flaskFieldsOk (ss : List Sect) (d : List Byte) : Bool :=
  let n := leAt d 0 1
  let sp := leAt d 2 1
  let chains := leAt d 5 1
  decide (1 ≤ n) && decide (n ≤ 64) && decide (1 ≤ leAt d 1 1) && decide (leAt d 1 1 ≤ n) && decide (sp ≤ 64 - n) &&
  decide (1 ≤ leAt d 3 1) && decide (leAt d 3 1 ≤ 4) && decide (leAt d 4 1 < 4) && decide (leAt d 6 1 ≤ 64) &&
  timerOk (leAt d 8 4) 1000 1000000 && timerOk (leAt d 12 4) 10000 60000000 && timerOk (leAt d 16 4) 10 10000 &&
  timerOk (leAt d 20 4) 3000 1000000 && zeroIn d 24 256 && zeroIn d 1920 2048 &&
  (bytesAt d (256 + n) (64 - n)).all (· == 0xFF) && (bytesAt d (320 + sp) (64 - sp)).all (· == 0xFF) &&
  zeroIn d (896 + 16 * leAt d 6 1) 1920 && (List.range 8).all (fun c => chains / 2 ^ c % 2 == 0 || (findSect ss 0x02 c).isSome) &&
  decide (((List.range 8).map (fun c =>
    if chains / 2 ^ c % 2 = 1 then chainL (sectData ss 0x02 c) + chainK (sectData ss 0x02 c) else 0)).sum ≤ 128)

/-- Check 16 for the cores and spares of a flask section: the first that is no core, whose domain is disabled, or that an
earlier place or flask lists (R402). -/
def coresBad (ss : List Sect) (x : Sect) : Option Nat :=
  let cores := flaskCores x.data
  let clken := leAt (sectData ss 0x01 0) 16 16
  let others := (ss.filter (fun y => y.type == 0x04 && decide (y.index < x.index))).flatMap (fun y => flaskCores y.data)
  (List.range cores.length).find? (fun j =>
    let c := cores.getD j 0
    decide (64 ≤ c) || clken / 2 ^ c % 2 == 0 || others.contains c || (cores.take j).contains c)

/-- Check 16 for the partition map of a flask section: the first entry with a reserved bit, or nonzero from NCORES on. -/
def partsBad (d : List Byte) : Option Nat :=
  (List.range 64).find? (fun l =>
    if l < leAt d 0 1 then (List.range 16).any (fun g => decide (8 ≤ nibble d l g)) else leAt d (384 + 8 * l) 8 != 0)

/-- Check 16 for a flask section: its failing entry (a place in the core lists, an entry of the partition map, or 0 for the
rest). -/
def flaskBad (ss : List Sect) (x : Sect) : Option Nat :=
  if !flaskFieldsOk ss x.data then some 0 else (coresBad ss x).or (partsBad x.data)

/-- The flask sections of an image, in directory order. -/
def flaskSects (ss : List Sect) : List Sect := ss.filter (fun x => x.type == 0x04)

/-- BASE of window entry `w` of a flask section. -/
def winBase (d : List Byte) (w : Nat) : Nat := leAt d (896 + 16 * w) 8
/-- SIZE of window entry `w`. -/
def winSize (d : List Byte) (w : Nat) : Nat := leAt d (896 + 16 * w + 8) 8
/-- The run of window entry `w`. -/
def winSpan (d : List Byte) (w : Nat) : Span := ⟨winBase d w / 2 ^ 48 % 16, winBase d w % 2 ^ 48, winSize d w⟩

/-- The runs of a tier that no window may touch besides margins: shadows, and regions that hold commit records (R400). -/
def windowBars (ss : List Sect) : List Span :=
  let rs := regionsOf ss
  (rs.filter (·.vb)).map Region.shadowSpan ++ (flaskSects ss).filterMap (fun x => (rs[leAt x.data 7 1]?).map Region.span)

/-- The bank groups that a run of logical scratchpad space covers are WORK or RETAINED groups of cores of the flask. -/
def padOk (d : List Byte) (a : Span) : Bool :=
  let g0 := a.lo / 2 ^ 21
  let g1 := (a.lo + a.len - 1) / 2 ^ 21
  (List.range (g1 - g0 + 1)).all (fun i =>
    let g := g0 + i
    decide (g / 16 < leAt d 0 1) && (let k := nibble d (g / 16) (g % 16) % 4; k == 1 || k == 2))

/-- Check 17 for window entry `w` of a flask section (Table 13-10, R400). -/
def windowOk (ss : List Sect) (x : Sect) (w : Nat) : Bool :=
  let d := x.data
  let a := winSpan d w
  winSize d w != 0 && winSize d w % 4096 == 0 && winBase d w % 4096 == 0 && winBase d w / 2 ^ 52 == 0xFFF &&
  decide (a.space < 4) && decide (a.lo + a.len ≤ spaceSize a.space) &&
  (if a.space = 3 then padOk d a
    else !a.isBarred (sectData ss 0x01 0) && !(windowBars ss).any a.meets) &&
  (flaskSects ss).all (fun y => decide (x.index ≤ y.index) || (List.range (leAt y.data 6 1)).all (fun v =>
    let b := winSpan y.data v
    !((regionsOf ss).any (fun r => r.vb &&
      a.space == r.space && b.space == r.space &&
      decide (max (max a.lo b.lo) r.off < min (min (a.lo + a.len) (b.lo + b.len)) (r.off + r.size))))))

/-- Check 17 for a flask section: the CODE nibbles of R400, then its windows. The answer is the failing entry. -/
def windowsBad (ss : List Sect) (x : Sect) : Option Nat :=
  let d := x.data
  if (List.range (leAt d 0 1)).any (fun l => (List.range 16).any (fun g =>
      decide (nibble d l g % 4 = 0) != decide (g < leAt d 3 1))) then some 0
  else (List.range (leAt d 6 1)).find? (fun w => !windowOk ss x w)

/-- Check 18 for a flask section (R401). -/
def recordOk (ss : List Sect) (x : Sect) : Bool :=
  match (regionsOf ss)[leAt x.data 7 1]? with
  | some r => r.vb && r.owner == x.index && decide (leAt x.data 0 1 * 144 * 2 ^ 10 ≤ r.size)
  | none => false

/-- A path leads from a core to another, crossing dies at most once. -/
def pathOk (word : Nat) (goal : Nat) : Nat → Nat → Nat → Bool → Bool
  | 0, _, c, _ => c == goal
  | n + 1, i, c, crossed =>
    match moveFrom c (word / 16 ^ i % 16) with
    | none => false
    | some (c', x) => !(x && crossed) && pathOk word goal n (i + 1) c' (crossed || x)

/-- The words of a route section. -/
def routeWords (d : List Byte) (n : Nat) : List Nat := (List.range (n * (n - 1))).map (fun i => leAt d (8 * i) 8)

/-- Check 19 for a route section: its failing entry, if any (R403). -/
def routesBad (ss : List Sect) (x : Sect) : Option Nat :=
  let f := sectData ss 0x04 x.index
  let n := leAt f 0 1
  let core (i : Nat) : Nat := leAt f (256 + i) 1
  ((List.range (n * (n - 1))).find? (fun e =>
    let a := e / (n - 1)
    let b0 := e % (n - 1)
    let b := if a ≤ b0 then b0 + 1 else b0
    let w := leAt x.data (8 * e) 8
    !pathOk w (core b) (w / 2 ^ 60) 0 (core a) false)).or
  (if zeroIn x.data (8 * n * (n - 1)) x.data.length then none else some 0)

/-- Check 20: each flask keeps at least MINCORES unfenced cores. -/
def State.keepsCores (s : State) (x : Sect) : Bool :=
  decide (leAt x.data 1 1 ≤ ((flaskCores x.data).filter (fun c => !s.fenced c)).length)

/-- The first flask section that a check rejects. -/
def flaskReject (ss : List Sect) (reason : Nat) (bad : Sect → Option Nat) : Option MvReject :=
  (flaskSects ss).findSome? (fun x => (bad x).map (fun e => ⟨reason, 0x04, x.index, e⟩))

/-- Checks 10 to 20 of Table 13-12. -/
def State.checksLate (s : State) : Option MvReject :=
  let ss := imgSects s.staged
  (checksModule ss).or ((checkRegions ss).or
  ((flaskReject ss 0x21 (flaskBad ss)).or
  ((flaskReject ss 0x22 (windowsBad ss)).or
  ((flaskReject ss 0x23 (fun x => if recordOk ss x then none else some 0)).or
  (((ss.filter (fun x => x.type == 0x05)).findSome? (fun x => (routesBad ss x).map (fun e => ⟨0x24, 0x05, x.index, e⟩))).or
  (flaskReject ss 0x25 (fun x => if s.keepsCores x then none else some 0)))))))

/-! ### What an image gives -/

/-- A chain of an image (Tables 13-6, 13-7), with its fingerprint (R185). -/
def chainOf (d : List Byte) : Chain :=
  let l := chainL d
  { logn := chainLogn d, l := l, k := chainK d,
    primes := (primesOf d).map (fun r =>
      let b := 64 + 64 * r
      let k := primeConsts (primeQ d r)
      { qneg := k.1, f1 := k.2.1, f3 := k.2.2.1, f4 := k.2.2.2, q := primeQ d r, off := leAt d (b + 20) 16, pinv := leAt d (b + 16) 4, logq := leAt d (b + 12) 2,
        ninv := leAt d (b + 8) 4, msq := leAt d (b + 4) 4, roots := rootWords d r }),
    qinv := (List.range (l * (l - 1) / 2)).map (fun i => leAt d (64 + 64 * (l + chainK d) + 4 * i) 4),
    logp := leAt d 12 2, noiseLimit := leAt d 14 2, vbound := leAt d 16 2, rndnoise := leAt d 18 2,
    ksnoise := (List.range 8).map (fun i => leAt d (20 + 2 * i) 2), fprint := (sha512 d).take 16 }

/-- A flask of an image (Table 13-9), its timers with their defaults. -/
def flaskOfImage (ss : List Sect) (x : Sect) : FlaskDef :=
  let d := x.data
  let n := leAt d 0 1
  { ncores := n, mincores := leAt d 1 1, codeg := leAt d 3 1, declared := leAt d 4 1 % 2 == 1, mark := leAt d 4 1 / 2 % 2 == 1,
    chains := BitVec.ofNat 8 (leAt d 5 1), crreg := leAt d 7 1, wdog := timerOf (leAt d 8 4) 10000,
    noprog := timerOf (leAt d 12 4) 1000000, ltmo := timerOf (leAt d 16 4) 100, rtmo := timerOf (leAt d 20 4) 5000,
    coreList := (List.range n).map (fun i => leAt d (256 + i) 1),
    spareList := (List.range (leAt d 2 1)).map (fun i => leAt d (320 + i) 1),
    parts := (List.range n).map (fun l => (List.range 16).map (nibble d l)),
    windows := (List.range (leAt d 6 1)).map (fun w => (winBase d w % 2 ^ 52, winSize d w)),
    routes := (findSect ss 0x05 x.index).map (fun r => routeWords r.data n) }

/-- The mould that an image gives. -/
def mouldOf (img : List Byte) : Mould :=
  let ss := imgSects img
  let m := sectData ss 0x01 0
  { fabaddr := BitVec.ofNat 12 (leAt m 0 2), mnear := leAt m 6 1, mmid := leAt m 7 1, mfar := leAt m 8 1, pcap := leAt m 4 2,
    slew := leAt m 2 1, clken := BitVec.ofNat 128 (leAt m 16 16),
    chains := (List.range 8).filterMap (fun c => (findSect ss 0x02 c).map (fun x => (c, some (chainOf x.data)))),
    regions := regionsOf ss,
    flasks := (List.range 16).filterMap (fun f => (findSect ss 0x04 f).map (fun x => (f, some (flaskOfImage ss x)))) }

/-! ### Applying an image (R409 to R411) -/

/-- The ECC class of a tier byte under a list of regions: weight, or not (R365). -/
def weightIn (rs : List Region) (key : Nat) : Bool :=
  ((rs.find? (fun r => decide (memKey r.space r.off ≤ key) && decide (key < memKey r.space r.off + r.size))).map (·.weight)).getD false

/-- A tier byte keeps its contents in a commit (R410, R411): its class stays. -/
def State.tierKept (s : State) (new : Mould) (key : Nat) : Bool :=
  let sp := key / 2 ^ 48
  if 3 ≤ sp then true
  else match s.mould with
    | some old => weightIn old.regions key == weightIn new.regions key
    | none => sp == 2 && s.farClass.any (fun rs => weightIn rs key == weightIn new.regions key)

/-- Zero the tier blocks whose class changes. -/
def State.zeroTiers (s : State) (new : Mould) : State :=
  { s with
    mem := s.mem.filter (fun e => s.tierKept new e.1)
    work := s.work.filter (fun e => s.tierKept new e.1)
    lost := s.lost.filter (fun e => s.tierKept new (64 * e.1))
    workLost := s.workLost.filter (fun e => s.tierKept new (64 * e.1))
    foreign := s.foreign.filter (fun e => s.tierKept new (64 * e.1)) }

/-- Zero the bank groups of core `c` that a commit does not keep (R364, R411): `old` is their kind and class before, none
with no mould. -/
def State.zeroPad (s : State) (old : Option (List (Nat × Bool))) (c : Nat) : State :=
  (List.range 16).foldl (fun t g =>
    let keep := old.any (fun l => l[g]? == some (s.group c g))
    if keep then t else t.zeroGroup c g) s

/-- The core map of a flask with spares in list order for fenced cores, and the spares that stay unused (R409, step 6). -/
def State.mapCores (s : State) : List Nat → List Nat → List Nat × List Nat
  | [], spares => ([], spares)
  | c :: r, spares =>
    if s.fenced c then
      match spares with
      | x :: rest => let (m, u) := s.mapCores r rest; (x :: m, u)
      | [] => let (m, u) := s.mapCores r []; (c :: m, u)
    else let (m, u) := s.mapCores r spares; (c :: m, u)

/-- The moves of a route word (R403). -/
def movesOf (w : Nat) : List Nat := (List.range (w / 2 ^ 60)).map (fun i => w / 16 ^ i % 16)

/-- The route set of a flask comes into force (R180): the paths of the mould, but for those of logical cores that a spare
serves (R182) and those over a failed link (R491). -/
def State.openPaths (s : State) (d : FlaskDef) (x : Flask) : Flask :=
  let y := { x with paths := (d.routes.getD []).map movesOf }
  let z := ((List.range x.map.length).filter (fun l => x.map.getD l 0 != d.coreList.getD l 0)).foldl
    (fun z l => s.repath z (fun a b _ => a == l || b == l)) y
  s.repath z (fun a _ p => (linksOf (x.map.getD a 0) p).any s.err.meshLinks.contains)

/-- The flask of a new mould before its first pour. -/
def State.newFlask (s : State) (d : FlaskDef) : Flask :=
  let (m, u) := s.mapCores d.coreList (d.spareList.filter (fun c => !s.fenced c))
  s.openPaths d { Flask.init with map := m, spares := u }

/-- A flask has taken its last spare at the commit (R409, step 6, R508). -/
def State.sparesSpent (s : State) (f : Nat) : Bool :=
  match s.flaskDef f with
  | some d => (s.flask f).spares == [] && (s.flask f).map != d.coreList
  | none => false

/-- Set the fabric address, or none (R409, step 7, R432, R433, R436). -/
def State.setAddress (s : State) (a : BitVec 12) (v : Bool) : State :=
  if s.fab.addr = a ∧ s.fab.addrv = v then s
  else
    let s1 := { s with fab := { s.fab with addr := a, addrv := v, oldAddr := if s.fab.addrv && v then some s.fab.addr else none } }
    s1.flood.checkDup

/-- The cores of a mould after its commit: powered groups, tables, and nothing resident. A core whose domain is disabled is
powered down (R395). -/
def State.settleCore (s : State) (old : Option (List (Nat × Bool))) (c : Nat) : State :=
  if s.fenced c ∨ s.pwr.clken.getLsbD c = false then (s.darken c).modCore c (fun k => { k with loaded := 0, serves := none })
  else (((s.zeroPad old c).modCore c (fun k => { k with serves := none })).repower c).loadTables c

/-- Apply a validated image (R409, R412). -/
def State.applyMould (s : State) : State :=
  let m := mouldOf s.staged
  let olds := s.mould.map (fun _ => (List.range 64).map (fun c => (List.range 16).map (s.group c)))
  let s1 := { s with pwr := { s.pwr with clken := m.clken.setWidth 100, slew := m.slew, pcap := m.pcap } }
  let s2 := s1.zeroTiers m
  let s3 := { s2 with
    mould := some m
    flasks := (List.range 16).filterMap (fun f => (Sparse.get none m.flasks f).map (fun d => (f, s.newFlask d))) }
  let s4 := (List.range 64).foldl (fun s c => s.settleCore (olds.bind (fun l => l[c]?)) c) s3
  let s5 := (if (List.range 16).any s4.sparesSpent then s4.setSticky sSpareExhausted else s4).setAddress m.fabaddr true
  { s5 with
    digest := mouldDigest s.staged, farClass := some (m.regions.filter (fun r => r.space == 2)), staged := [],
    mouldStatus := { s5.mouldStatus with reason := 0, stage := 0 }, mouldCount := s5.mouldCount + 1,
    sec := { s5.sec with ksids := [], ksovf := false } }

/-! ### MOULD_LOAD and the course of a commit -/

/-- The effect of a MOULD_LOAD that passes its checks (R407): offset 0 discards what was staged. -/
def State.stage (s : State) (off : Nat) (data : List Byte) : State :=
  { s with
    staged := if off = 0 then data else s.staged ++ data
    mouldStatus := { s.mouldStatus with stage := 1 } }

/-- The payload of ST_MOULD_REJECTED (Table 15-8). -/
def MvReject.payload (r : MvReject) : List Byte :=
  leBytes 1 r.reason ++ leBytes 1 r.sectype ++ leBytes 1 r.secidx ++ [0] ++ leBytes 2 r.entry ++ [0, 0]

/-- Reject the staged image (R406): MOULD_STATUS alone changes, and the command is answered. -/
def State.rejectMould (s : State) (ctag : BitVec 16) (r : MvReject) : State :=
  { s with bg := none, mouldStatus :=
      ⟨BitVec.ofNat 16 r.entry, BitVec.ofNat 8 r.sectype, BitVec.ofNat 8 r.secidx, BitVec.ofNat 8 r.reason, 0⟩ }.respond
    ctag 0x21 0x0E r.payload

/-- A MOULD_COMMIT that passes steps 1 to 7 of R464 starts: checks 1 to 6, then the image is hashed (R473). -/
def State.startCommit (s : State) (ctag : BitVec 16) : State :=
  match s.checksEarly with
  | some r => s.rejectMould ctag r
  | none =>
    { s with
      bg := some ⟨0x21, ctag, .hashing, []⟩
      mouldStatus := { s.mouldStatus with stage := 2 }
      sec := { s.sec with sha := s.sec.sha ++ [.mould] } }

/-- The digest of the staged image is ready: checks 7 and 8, then the verification starts (R404, R405). -/
def State.mouldHashed (s : State) (g : Bg) : State :=
  match s.checksSignature with
  | some r => s.rejectMould g.ctag r
  | none => { s with bg := some { g with stage := .verifying }, sec := { s.sec with bne := s.sec.bne ++ [s.mouldJob] } }

/-- The verification of the staged image has ended: checks 9 to 20, then the apply begins, from which point the commit
cannot be rejected (R406, R409, R531). -/
def State.mouldVerified (s : State) (g : Bg) (v : Verdict) : State :=
  match v with
  | .accept =>
    match s.checksLate with
    | some r => s.rejectMould g.ctag r
    | none => { s with bg := some { g with stage := .applying }, mouldStatus := { s.mouldStatus with stage := 4 } }
  | .reject => s.rejectMould g.ctag ⟨0x08, 0xFF, 0, 0⟩
  | .broken => (s.setSticky sBneFault).rejectMould g.ctag ⟨0x08, 0xFF, 0, 0⟩

/-- MOULD_APPLY_DONE (R409): the image holds, and the command is answered. -/
def execMouldApplyDone (s : State) : Host.Outcome State Fault Refusal :=
  .next (match s.bg with
    | some g =>
      if g.opcode = 0x21 ∧ g.stage = .applying then ({ s.applyMould with bg := none }).respond g.ctag 0x21 0 [] else s
    | none => s)

end Sys2Proof.Machine
end

