-- ==== Sys2Proof/Machine/Security.lean ====
section
/-! DEFINITION. Security: attestation, debug levels and tokens, ownership and decommissioning, the jobs of the security
processor, the big-number engine and the SHA-512 engine, and the key exchange of fabric ports (chapter 17, R428, R429). -/

namespace Sys2Proof.Machine

/-! ### Jobs and background commands -/

/-- The background command has passed its point of no return (Table 15-5). -/
def Bg.past (g : Bg) : Bool :=
  match g.stage with
  | .applying | .zeroising | .fusing | .zeroing | .transition => true
  | _ => false

/-- Change the security state. -/
def State.modSec (s : State) (f : Sec → Sec) : State := { s with sec := f s.sec }

/-- The jobs of the security processor become `l`; the first of them starts now unless it ran before (R527, R528). -/
def State.setJobs (s : State) (l : List SpJob) : State :=
  s.modSec (fun k => { k with sp := l, spAt := if k.sp.head? = l.head? ∧ k.sp.length ≤ l.length then k.spAt else s.now })

/-- The background command answers and is over. -/
def State.bgEnd (s : State) (g : Bg) (status : BitVec 8) (payload : List Byte) : State :=
  ({ s with bg := none }).respond g.ctag g.opcode status payload

/-- The purpose belongs to a background command. -/
def BneFor.ofCommand : BneFor → Bool
  | .mould | .attest | .debug | .decommission | .own => true
  | _ => false

/-- Withdraw the jobs of a background command that is abandoned; a running job of the security processor runs on. -/
def Sec.dropCommand (k : Sec) : Sec :=
  { k with
    sp := k.sp.take 1 ++ (k.sp.drop 1).filter (fun j => match j with | .ecdh _ => true | _ => false)
    bne := k.bne.filter (fun j => !j.purpose.ofCommand)
    bneShort := k.bneShort.filter (fun j => !j.purpose.ofCommand)
    sha := [] }

/-- Abandon a background command before its point of no return: it leaves no side effect (R465, R483, R545). -/
def State.abandon (s : State) : State :=
  { s with
    bg := none
    pwr := { s.pwr with
      later := if s.bg.any (fun g => g.opcode == 0x50#8) then s.pwr.later.filter (fun x => x.2 != 0) else s.pwr.later }
    sec := s.sec.dropCommand
    mouldStatus :=
      if s.mouldStatus.stage = 2 ∨ s.mouldStatus.stage = 3 then { s.mouldStatus with stage := 1 } else s.mouldStatus }

/-! ### Debug levels (R535, R539, R540) -/

/-- Set the debug level; a lowering clears HALTREQ and HAZCHK (R539). -/
def State.setLevel (s : State) (v : Nat) : State :=
  let s1 := { s with sec := { s.sec with debug := v } }
  (List.range 64).foldl (fun s c => s.modCore c (fun k => { k with
    haltreq := k.haltreq && decide (v = 2), hazchk := k.hazchk && decide (v ≠ 0) })) s1

/-- Zero the tile registers and the transform and vector buffers of every core, parked logical cores included. -/
def State.zeroBuffers (s : State) : State :=
  let clear (a : Arch) : Arch := { a with tiles := [], bufs := [], latches := [] }
  let s1 := (List.range 64).foldl (fun s c => s.modCore c (fun k => k.modArch clear)) s
  { s1 with flasks := s1.flasks.map (fun e =>
      (e.1, { e.2 with shares := e.2.shares.map (fun x => { x with image := clear x.image }) })) }

/-- Zero the powered bank groups of every core. -/
def State.zeroPowered (s : State) : State :=
  (List.range 64).foldl (fun s c => (List.range 16).foldl (fun s g =>
    if (s.core c).pwr.getLsbD g then s.zeroGroup c g else s) s) s

/-- Zero the tier regions whose CONF flag is set, and parked scratchpads that such a region holds. -/
def State.zeroConf (s : State) : State :=
  match s.mould with
  | none => s
  | some m =>
    let s1 := m.regions.foldl (fun s r => if r.conf then s.zeroSpan (memKey r.space r.off) r.size else s) s
    (List.range 16).foldl (fun s f =>
      if (s.flaskDef f).any (fun d => (m.regions[d.crreg]?).any (·.conf)) then
        (s.flask f).shares.foldl (fun s x => s.zeroParked f x.parked [0, 1, 2, 3]) s
      else s) s1

/-- No mould stays committed (R432): no flask, no working version, nothing loaded, and no fabric address. -/
def State.dropMould (s : State) : State :=
  let s1 := { s with
    work := [], workLost := [], foreign := [], mould := none, flasks := [], err := { s.err with mouldDead := false } }
  let s2 := (List.range 64).foldl (fun s c =>
    if s.fenced c then s else (s.modCore c (fun k => { k with loaded := 0, serves := none })).repower c) s1
  s2.setAddress 0 false

/-- The zeroing of R518 and R520: scratchpads, tile registers, buffers and all tiers; no mould stays committed. -/
def State.zeroAll (s : State) : State := State.dropMould { s.zeroBuffers with mem := [], lost := [] }

/-- The pours that lost the mould's own memory (R487) have ended: the mould goes. -/
def State.settleMould (s : State) : State :=
  if s.err.mouldDead = true ∧ (List.range 16).any s.pourOn = false then s.dropMould else s

/-- Step 2 of R538. -/
def State.zeroise (s : State) : State := (s.zeroPowered.zeroBuffers).zeroConf

/-- A raise to Open passes its point of no return (R526, R538). -/
def State.startZeroise (s : State) (g : Bg) : State :=
  { s with bg := some { g with stage := .zeroising }, sec := { s.sec with dbgSeen := true } }

/-- A DEBUG_LEVEL ends: one that carries a token draws a new DBG_NONCE (R537). -/
def State.debugEnd (s : State) (g : Bg) (status : BitVec 8) : State :=
  ((if g.data.length = 272 then s.newNonce else s)).bgEnd g status []

/-- The fields of a debug token are as R537 requires. -/
def State.tokenOk (s : State) (t : List Byte) : Bool :=
  leAt t 0 4 == 0x474E4454 && leAt t 4 2 == 1 && leAt t 6 1 == 2 && leAt t 7 1 == 0 && leAt t 8 8 == s.sec.serial.toNat &&
    bytesAt t 16 32 == bytesAt s.sec.nonce 0 32 && zeroIn t 48 120 && zeroIn t 252 256

/-- A verification by the owner key. -/
def State.ownerJob (s : State) (purpose : BneFor) (r v : List Byte) (text : List Byte) : BneJob :=
  ⟨purpose, beNat (bytesAt s.sec.ownerKey 0 66), beNat (bytesAt s.sec.ownerKey 66 66), beNat r, beNat v, beNat (sha512 text)⟩

/-- Queue a verification. -/
def State.queueVerify (s : State) (g : Bg) (j : BneJob) : State :=
  { s with bg := some { g with stage := .verifying }, sec := { s.sec with bne := s.sec.bne ++ [j] } }

/-- DEBUG_LEVEL past steps 1 to 7 of R464 (R479, R535 to R539): a level that is not a raise to Open holds at once. -/
def State.startDebug (s : State) (ctag : BitVec 16) (p : List Byte) : State :=
  let g : Bg := ⟨0x41, ctag, .verifying, p⟩
  let v := leAt p 0 1
  let t := p.drop 16
  if v = s.sec.debug then s.debugEnd g 0
  else if v < 2 then (s.setLevel v).debugEnd g 0
  else if s.sec.lifecycle = 0 then s.startZeroise g
  else if p.length = 272 ∧ s.tokenOk t = true then
    s.queueVerify g (s.ownerJob .debug (bytesAt t 120 66) (bytesAt t 186 66) (bytesAt t 0 120))
  else s.debugEnd g 0x10

/-! ### Ownership and decommissioning (R516 to R521, R480, R481) -/

/-- Bits of a fuse bank that a value does not allow are blown. -/
def fuseClash (old new : List Byte) : Bool :=
  (List.range old.length).any (fun i => old.getD i 0 &&& ~~~(new.getD i 0) != 0)

/-- OWN past steps 1 to 7 of R464: the edge-input checks, then the key's on-curve check (R480). PUBX and PUBY stand in the
order of OWNER_KEY. -/
def State.startOwn (s : State) (ctag : BitVec 16) (p : List Byte) : State :=
  let x := beNat (bytesAt p 16 66)
  let y := beNat (bytesAt p 82 66)
  let g : Bg := ⟨0x42, ctag, .checking, p⟩
  if ecP ≤ x ∨ ecP ≤ y ∨ (x = 0 ∧ y = 0) then s.bgEnd g 0x10 []
  else { s with bg := some g, sec := { s.sec with bneShort := s.sec.bneShort ++ [⟨.own, x, y, 0, 0, 0⟩] } }

/-- The text that a DECOMMISSION signature covers (R481): ASCII "GN6400-DECOMMISSION" and the serial number. -/
def State.decomText (s : State) : List Byte :=
  ([0x47, 0x4E, 0x36, 0x34, 0x30, 0x30, 0x2D, 0x44, 0x45, 0x43, 0x4F, 0x4D, 0x4D, 0x49, 0x53, 0x53, 0x49, 0x4F, 0x4E] : List Byte) ++
    leBytes 8 s.sec.serial.toNat

/-- DECOMMISSION past steps 1 to 7 of R464: the owner signature is verified. -/
def State.startDecommission (s : State) (ctag : BitVec 16) (p : List Byte) : State :=
  s.queueVerify ⟨0x43, ctag, .verifying, p⟩ (s.ownerJob .decommission (bytesAt p 16 66) (bytesAt p 82 66) s.decomText)

/-- Fuse programming starts: the point of no return of OWN and of DECOMMISSION. -/
def State.startFuse (s : State) (g : Bg) : State :=
  State.setJobs { s with bg := some { g with stage := .fusing } } (s.sec.sp ++ [.fuse])

/-- FUSE_PROGRAMMING_DONE (R518, R520): the fuses hold and the lifecycle field is blown; the zeroing starts. -/
def execFuseProgrammingDone (s : State) : Host.Outcome State Fault Refusal :=
  .next (match s.sec.sp, s.bg with
    | .fuse :: r, some g =>
      if g.stage ≠ .fusing then s
      else
        let s1 := State.setJobs { s with bg := some { g with stage := .zeroing } } r
        if g.opcode = 0x42#8 then
          let key := bytesAt g.data 16 132
          s1.modSec (fun k => { k with ownerKey := key, ownerHash := sha512 key, lcOwned := 0xFFFF, lifecycle := 1 })
        else
          (s1.modSec (fun k => { k with idKeyBlown := true, lcDecom := 0xFFFF, lifecycle := 2 })).setLevel 0
    | _, _ => s)

/-- Bits of a fuse bank that programming was to blow, as far as a mask of free bytes says it had come. -/
def partBlown (old new mask : List Byte) (i : Nat) : List Byte :=
  (List.range new.length).map (fun j => old.getD j 0 ||| (new.getD j 0 &&& mask.getD (i + j) 0))

/-- A reset or power loss ends fuse programming part-way (R519 to R521, R545): some of the bits are blown, which ones is
open (log 3). The lifecycle field comes last. -/
def State.breakFuse (s : State) : State :=
  match s.bg with
  | some g =>
    if g.stage ≠ .fusing then s
    else
      let (s1, m) := s.freeBytes 198
      let field : BitVec 16 := BitVec.ofNat 16 (leAt m 196 2)
      if g.opcode = 0x42#8 then
        let key := bytesAt g.data 16 132
        let k := partBlown s.sec.ownerKey key m 0
        let h := partBlown s.sec.ownerHash (sha512 key) m 132
        s1.modSec (fun x => { x with
          ownerKey := k, ownerHash := h, lcOwned := if k = key ∧ h = sha512 key then x.lcOwned ||| field else x.lcOwned })
      else
        let none' := (bytesAt m 0 68).all (· == 0)
        let all' := (bytesAt m 0 68).all (· == 0xFF)
        s1.modSec (fun x => { x with
          idKeyOk := x.idKeyOk && none', idKeyBlown := x.idKeyBlown || all', lcDecom := if all' then x.lcDecom ||| field else x.lcDecom })
  | none => s

/-! ### Attestation (R524 to R526, R532) -/

/-- INFO POWER (Table 15-8). -/
def State.powerCode (s : State) : Nat :=
  match s.pwr.state with
  | .run => 0
  | .idle => 1
  | .doze => 2
  | _ => 3

/-- A mask of 64 cores. -/
def coreMask (p : Nat → Bool) : Nat := (List.range 64).foldl (fun v c => if p c then v + 2 ^ c else v) 0

/-- The attestation report up to its signature (Table 17-3), bytes 0 to 3,327. -/
def State.reportHead (s : State) (nonce : List Byte) : List Byte :=
  let committed := s.mould.isSome
  leBytes 4 0x474E4154 ++ leBytes 2 1 ++ leBytes 2 0x0100 ++ [0xA0] ++ leBytes 1 s.sec.lifecycle ++ leBytes 1 s.sec.debug ++
  leBytes 1 (committed.toNat + 2 * s.sec.dbgSeen.toNat + 4 * s.sec.ksovf.toNat) ++ leBytes 1 s.powerCode ++ [0] ++
  leBytes 2 s.sec.ksids.length ++ leBytes 8 s.sec.serial.toNat ++ leBytes 8 s.mouldCount.toNat ++
  leBytes 8 (coreMask s.fenced) ++ leBytes 8 (coreMask (fun c => s.coreFuse.contains c)) ++ bytesAt nonce 0 64 ++
  (if committed then bytesAt s.digest 0 64 else List.replicate 64 0) ++
  (if s.sec.lifecycle = 0 then List.replicate 64 0 else bytesAt s.sec.ownerHash 0 64) ++
  leBytes 8 s.err.sticky.toNat ++ List.replicate 8 0 ++
  bytesAt (s.sec.ksids.flatMap (fun k => leBytes 8 k.toNat)) 0 2048 ++ (List.range 1024).map Config.cert

/-- ATTEST past its checks: the report is assembled, and its hash starts (R478, R524). -/
def State.startAttest (s : State) (ctag : BitVec 16) (p : List Byte) : State :=
  { s with bg := some ⟨0x40, ctag, .hashing, s.reportHead p⟩, sec := { s.sec with sha := s.sec.sha ++ [.report] } }

/-- A signing job runs before every queued ECDH job (R527). -/
def queueSign (l : List SpJob) : List SpJob := l.take 1 ++ .sign :: l.drop 1

/-- A signature of the report with a nonce from the random number generator, and the verification that must release it
(R524, R532). -/
def State.signReport (s : State) (g : Bg) : State :=
  let (s1, v) := s.draw
  let digest := beNat (sha512 (bytesAt g.data 0 3328))
  let sig := ecdsaSign Config.idKey (v % (ecN - 1) + 1) digest
  let pub := ecPublic Config.idKey
  let report := bytesAt g.data 0 3328 ++ beBytes 66 sig.1 ++ beBytes 66 sig.2 ++ List.replicate 124 0
  s1.queueVerify { g with data := report } ⟨.attest, pub.1, pub.2, sig.1, sig.2, digest⟩

/-! ### Key exchange of a fabric port (R428, R429, R523) -/

/-- The fixed fields of a certificate are as Table 17-2 states. -/
def certOk (d : List Byte) (role : Nat) : Bool :=
  leAt d 0 4 == 0x474E4345 && leAt d 4 2 == 1 && leAt d 6 1 == role && leAt d 7 1 == 0 && zeroIn d 157 256 && zeroIn d 388 512

/-- A chain has the fields that R523 requires for a serial number. -/
def chainFieldsOk (d : List Byte) (serial : Nat) : Bool :=
  let id := bytesAt d 0 512
  let ca := bytesAt d 512 512
  certOk id 3 && certOk ca 2 && leAt ca 16 8 == 0 && leAt id 16 8 == leAt ca 8 8 && leAt id 8 8 == serial

/-- Subject key of a certificate. -/
def certKey (d : List Byte) : Nat × Nat := (beNat (bytesAt d 24 66), beNat (bytesAt d 90 66))

/-- Verification of a certificate by an issuer's key. -/
def certJob (purpose : BneFor) (d : List Byte) (key : Nat × Nat) : BneJob :=
  ⟨purpose, key.1, key.2, beNat (bytesAt d 256 66), beNat (bytesAt d 322 66), beNat (sha512 (bytesAt d 0 256))⟩

/-- KEYX (R428): the peer's certificate chain and nonce: a chain whose fields fail leads to AUTH_FAIL, else the peer's key
is checked. -/
def execKeyx (p : Fin 32) (d : List Byte) (s : State) : Host.Outcome State Fault Refusal :=
  .next (if (s.port p).st = 3 ∧ d.length = 1056 ∧ (s.port p).peerCert = [] then
    let s0 := s.crossed (96 + p) (50 + 1056)
    if chainFieldsOk d (s.port p).peerSerial.toNat = false then s0.portLeave p 6
    else
      let key := certKey d
      (s0.modPort p (fun k => { k with peerCert := bytesAt d 0 1024, peerNonce := bytesAt d 1024 32 })).modSec (fun k =>
        { k with bneShort := k.bneShort ++ [⟨.keyxCurve p, key.1, key.2, 0, 0, 0⟩] })
  else s)

/-- The link key of the direction that the module of a serial number sends (R429). -/
def linkKey (z : Nat) (low high : List Byte) (serial : Word) : List Byte :=
  (sha512 (beBytes 66 z ++ ([0x47, 0x4E, 0x36, 0x34, 0x30, 0x30, 0x2D, 0x46, 0x41, 0x42] : List Byte) ++ low ++ high ++
    leBytes 8 serial.toNat)).take 32

/-- The port's ECDH job has ended: the port holds its keys and is UP. -/
def State.keyed (s : State) (p : Nat) : State :=
  let k := s.port p
  if k.st = 3 ∧ k.ecdh = true then
    let z := ecdh Config.idKey (certKey k.peerCert)
    let lower := decide (s.sec.serial.toNat < k.peerSerial.toNat)
    let low := if lower then k.myNonce else k.peerNonce
    let high := if lower then k.peerNonce else k.myNonce
    (s.modPort p (fun k => { k with
      ecdh := false, keyTx := linkKey z low high s.sec.serial, keyRx := linkKey z low high k.peerSerial })).portUp p
  else s

/-! ### The engines -/

/-- SECURITY_JOB_COMPLETE (R527): the running signing or ECDH job completes and the next starts. -/
def execSecurityJobComplete (s : State) : Host.Outcome State Fault Refusal :=
  .next (match s.sec.sp with
    | .sign :: r =>
      let s1 := s.setJobs r
      match s.bg with
      | some g => if g.opcode = 0x40 ∧ g.stage = .signing then s1.signReport g else s1
      | none => s1
    | .ecdh p :: r => (s.setJobs r).keyed p
    | _ => s)

/-- The digest of a report is ready: its signing is queued. -/
def State.reportHashed (s : State) (g : Bg) : State :=
  State.setJobs { s with bg := some { g with stage := .signing } } (queueSign s.sec.sp)

/-- SHA512_DIGEST_DONE (R534): the oldest hash is done. -/
def execSha512DigestDone (s : State) : Host.Outcome State Fault Refusal :=
  .next (match s.sec.sha, s.bg with
    | _ :: r, some g =>
      let s1 := s.modSec (fun k => { k with sha := r })
      if g.stage ≠ .hashing then s1
      else if g.opcode = 0x21#8 then s1.mouldHashed g
      else s1.reportHashed g
    | _, _ => s)

/-- An accepted, rejected or broken verification for a background command (R531, R532). -/
def State.commandVerified (s : State) (g : Bg) (v : Verdict) : State :=
  let t := if v = .broken then s.setSticky sBneFault else s
  if g.opcode = 0x40#8 then (if v = .accept then t.bgEnd g 0 g.data else t.bgEnd g 0x11 [])
  else if g.opcode = 0x41#8 then
    match v with
    | .accept => s.startZeroise g
    | .reject => s.debugEnd g 0x10
    | .broken => t.debugEnd g 0x11
  else
    match v with
    | .accept => s.startFuse g
    | .reject => s.bgEnd g 0x10 []
    | .broken => t.bgEnd g 0x11 []

/-- A verification for port `p`'s key exchange: a failure leads to AUTH_FAIL; the last acceptance asks for the ECDH job. -/
def State.portVerified (s : State) (p : Nat) (last : Bool) (v : Verdict) : State :=
  match v with
  | .accept =>
    if last = true ∧ (s.port p).st = 3 then
      (s.modPort p (fun k => { k with ecdh := true })).setJobs (s.sec.sp ++ [.ecdh p])
    else s
  | .reject => if (s.port p).st = 3 then s.portLeave p 6 else s
  | .broken => let t := s.setSticky sBneFault; if (t.port p).st = 3 then t.portLeave p 6 else t

/-- BNE_VERIFY_COMPLETE (R530, R533): the oldest verification ends. -/
def execBneVerifyComplete (s : State) : Host.Outcome State Fault Refusal :=
  .next (match s.sec.bne with
    | [] => s
    | j :: r =>
      let s1 := s.modSec (fun k => { k with bne := r })
      let v := ecdsaVerify j.x j.y j.r j.sv j.digest
      match j.purpose with
      | .keyxCa p => s1.portVerified p false v
      | .keyxId p => s1.portVerified p true v
      | .keyxCurve _ => s1
      | .mould =>
        match s.bg with
        | some g => s1.mouldVerified g v
        | none => s1
      | _ =>
        match s.bg with
        | some g => s1.commandVerified g v
        | none => s1)

/-- BNE_CURVE_CHECK_DONE (R533): the oldest on-curve check ends. -/
def execBneCurveCheckDone (s : State) : Host.Outcome State Fault Refusal :=
  .next (match s.sec.bneShort with
    | [] => s
    | j :: r =>
      let s1 := s.modSec (fun k => { k with bneShort := r })
      let ok := onCurve j.x j.y
      match j.purpose with
      | .keyxCurve p =>
        if (s.port p).st ≠ 3 then s1
        else if ok = false then s1.portLeave p 6
        else
          let c := (s.port p).peerCert
          s1.modSec (fun k => { k with bne := k.bne ++
            [certJob (.keyxCa p) (bytesAt c 512 512) Config.rootKey, certJob (.keyxId p) (bytesAt c 0 512) (certKey (bytesAt c 512 512))] })
      | _ =>
        match s.bg with
        | some g =>
          let key := bytesAt g.data 16 132
          if ok = false ∨ fuseClash s.sec.ownerKey key = true ∨ fuseClash s.sec.ownerHash (sha512 key) = true then
            s1.bgEnd g 0x10 []
          else s1.startFuse g
        | none => s1)

end Sys2Proof.Machine
end

