-- ==== Sys2Proof/Machine/Reliability.lean ====
section
/-! DEFINITION. Failures: mesh links, scrubbing, channel moves, core fences, replay, time-sharing, and the halting of a core
(chapter 16, R369, R377, R541). -/

namespace Sys2Proof.Machine

/-! ### Moving and copying scratchpad contents (R498, R502) -/

/-- The entries of a table with keys in [lo, lo + n) move to [dst, dst + n), over what was there. -/
def moveKeys {α : Type} [DecidableEq α] (d : α) (m : Sparse α) (lo dst n : Nat) : Sparse α :=
  let mine := m.filter (fun e => decide (lo ≤ e.1) && decide (e.1 < lo + n))
  let rest := m.filter (fun e => !(decide (lo ≤ e.1) && decide (e.1 < lo + n)) && !(decide (dst ≤ e.1) && decide (e.1 < dst + n)))
  mine.foldl (fun m e => Sparse.set d m (dst + (e.1 - lo)) e.2) rest

/-- Move the memory [lo, lo + n) to [dst, dst + n), with its lost marks; n is a multiple of 64. -/
def State.moveSpan (s : State) (lo dst n : Nat) : State :=
  { s with
    mem := moveKeys (0 : Byte) s.mem lo dst n
    lost := moveKeys false s.lost (lo / 64) (dst / 64) (n / 64) }

/-- Reads of [lo, lo + n) by the module's own machinery that find errors: corrected ones are counted, and a block that is
uncorrectable becomes lost (R366, R367). `found` names offsets from `lo`. -/
def State.findErrors (s : State) (lo n source : Nat) (found : List (Nat × EccFind)) : State :=
  (found.filter (fun e => decide (e.1 < n) && !Sparse.get false s.lost ((lo + e.1) / 64))).foldl (fun s e =>
    match e.2 with
    | .clean => s
    | .corrected => s.eccCorrected (lo + e.1)
    | .uncorrectable => s.eccUncorrected .other (lo + e.1) source 0) s

/-- The copy of R498: bytes and lost marks. -/
def State.copySpan (s : State) (lo dst n : Nat) : State :=
  let s3 := s.zeroSpan dst n
  let blocks := (s.lost.filter (fun e => decide (lo / 64 ≤ e.1) && decide (e.1 < (lo + n) / 64))).map (·.1)
  { s3 with
    mem := (s.mem.filter (fun e => decide (lo ≤ e.1) && decide (e.1 < lo + n) && !blocks.contains (e.1 / 64))).foldl
      (fun m e => Sparse.set (0 : Byte) m (dst + (e.1 - lo)) e.2) s3.mem
    lost := blocks.foldl (fun m b => Sparse.set false m (dst / 64 + (b - lo / 64)) true) s3.lost }

/-! ### Fences (R493 to R496) -/

/-- Code of a fence cause (Table 16-3). -/
def fenceCode : FenceCause → BitVec 8
  | .tileWord => 0x01
  | .sequencerWord => 0x02
  | .seedExpander => 0x03
  | .streamPort => 0x04
  | .scratchpadWord => 0x05
  | .selfTest => 0x06
  | .monitor => 0x07

/-- A fence of this cause is fused at once (Table 16-3). -/
def fusedAtOnce : FenceCause → Bool
  | .seedExpander | .streamPort | .selfTest | .monitor => true
  | _ => false

/-- The error record of core `c`. -/
def State.errCore (s : State) (c : Nat) : ErrCore := Sparse.get ⟨false, 0, 0, false⟩ s.err.cores c

/-- Change the error record of core `c`. -/
def State.modErrCore (s : State) (c : Nat) (f : ErrCore → ErrCore) : State :=
  { s with err := { s.err with cores := Sparse.set ⟨false, 0, 0, false⟩ s.err.cores c (f (s.errCore c)) } }

/-- Record a fence in the core fuse bank while it has room (R496). -/
def State.fuseCore (s : State) (c : Nat) : State :=
  if s.coreFuse.contains c ∨ 16 ≤ s.coreFuse.length then s
  else { s with coreFuse := s.coreFuse ++ [c] }

/-- Writes that a fenced core had issued land in part (R495): unit by unit, as free values decide (log 3). -/
def State.partWrites (s : State) (c id : Nat) : Nat → Nat → State
  | 0, _ => s
  | n + 1, u =>
    let (s1, coin) := s.freeBytes 1
    State.partWrites (if bitAt (coin.getD 0 0) 0 then (s1.landWrites c id [] 1 u).1 else s1) c id n (u + 1)

/-- What the outstanding transfers of a fenced core still do: local writes may land in part, posts that have left are
delivered (R495, R505). -/
def State.cutTransfers (s : State) (c : Nat) : State :=
  (s.core c).se.active.foldl (fun s a => a.xfers.foldl (fun s x =>
    if x.kind = .data ∧ x.pool = 1 then s.partWrites c a.id x.n x.u0
    else if x.kind = .post ∧ s.postsHome c a = false then
      s.modFlask (s.viewOf c) (fun f => { f with delivered := f.delivered ++ a.dests s })
    else s) s) s

/-- The logical cores that a fence of core `c` orphans in flask `f`, each with where its RETAINED partitions lie: core `c`,
the core that still holds them for a copy, or 64 for the slot of a parked logical core. -/
def State.newOrphans (s : State) (f c : Nat) : List (Nat × Nat) :=
  let x := s.flask f
  ((List.range x.map.length).filter (fun l => x.map.getD l 64 == c)).map (fun l =>
    match x.orphans.find? (fun o => o.1 == l) with
    | some o => o
    | none => if x.shares.any (fun y => y.parked == l) then (l, 64) else (l, c))

/-- A fence reaches the pour of flask `f` that core `c` serves (R497, R500). -/
def State.fenceFlask (s : State) (f c : Nat) : State :=
  let x := s.flask f
  let fresh := (s.newOrphans f c).filter (fun o => !x.orphans.contains o)
  match x.stage with
  | .idle => s
  | .stopping .recover => s.modFlask f (fun x => { x with orphans := x.orphans ++ fresh })
  | .stopping _ => s
  | _ => (s.modFlask f (fun x => { x with orphans := x.orphans ++ fresh, copies := [] })).stopFlask f .recover

/-- The flask whose pour has core `c` among its hosts. -/
def State.pourOf (s : State) (c : Nat) : Option Nat := (List.range 16).find? (fun f => s.pourOn f && (s.hosts f).contains c)

/-- The core stops and loses what it holds outside its RETAINED partitions (R495, Table 18-8). -/
def State.cutCore (s : State) (c : Nat) : State :=
  let s1 := (s.cutTransfers c).zeroKinds c [0, 1]
  ((s1.modCore c (fun k =>
    { k.fresh.clearSeq with haltreq := false, hazchk := false, loaded := 0, serves := none })).dropCounters (16 * c) 16).newNonce

/-- A fence takes effect (R495 to R497). -/
def State.takeFence (s : State) (c : Nat) (cause : FenceCause) : State :=
  let s1 := s.captureFence c (fenceCode cause)
  let s2 := (s1.modErrCore c (fun e =>
    { e with fenced := true, cause := (fenceCode cause), count := satAdd 255 e.count 1, deferred := false })).setSticky sCoreFenced
  let s2 := if cause = .tileWord ∨ cause = .sequencerWord then s2.setSticky sEccUncorr else s2
  let s3 := if fusedAtOnce cause ∨ 2 ≤ (s2.errCore c).count then s2.fuseCore c else s2
  let s4 := { s3.cutCore c with pwr := { s3.pwr with gatings := s3.pwr.gatings ++ [c] } }
  match s4.pourOf c with
  | some f => s4.fenceFlask f c
  | none => s4.darken c

/-- A DEBUG_LEVEL, OWN or DECOMMISSION past its point of no return runs: fences wait for it (R545). -/
def State.fencesWait (s : State) : Bool := s.bg.any (fun g => g.past && [0x41#8, 0x42, 0x43].contains g.opcode)

/-- A core is to be fenced (R493, R494, R545): cause 0x05 waits for its flask's pour to end. -/
def State.fenceCore (s : State) (c : Nat) (cause : FenceCause) : State :=
  if s.fenced c then s
  else if s.fencesWait then { s with err := { s.err with fencesDue := s.err.fencesDue ++ [(c, cause)] } }
  else if cause = .scratchpadWord ∧ (s.pourOf c).isSome then s.modErrCore c (fun e => { e with deferred := true })
  else s.takeFence c cause

/-- The fences that waited for a command take effect. -/
def State.settleFences (s : State) : State :=
  s.err.fencesDue.foldl (fun s x => s.fenceCore x.1 x.2) { s with err := { s.err with fencesDue := [] } }

/-- DEBUG_ZEROISE_DONE (R538, step 3): zeroisation is complete and the level becomes Open. -/
def execDebugZeroiseDone (s : State) : Host.Outcome State Fault Refusal :=
  .next (match s.bg with
    | some g => if g.opcode = 0x41 ∧ g.stage = .zeroising then ((s.zeroise.setLevel 2).debugEnd g 0).settleFences else s
    | none => s)

/-- LIFECYCLE_ZEROING_DONE (R518, R520). -/
def execLifecycleZeroingDone (s : State) : Host.Outcome State Fault Refusal :=
  .next (match s.bg with
    | some g => if g.stage = .zeroing then (s.zeroAll.bgEnd g 0 []).settleFences else s
    | none => s)

/-- CORE_FENCE (R495). Cause 0x05 needs the second uncorrectable scratchpad word since power-on (Table 16-3). -/
def execCoreFence (c : Fin 64) (cause : FenceCause) (s : State) : Host.Outcome State Fault Refusal :=
  .next (if cause = .scratchpadWord ∧ (s.core c).spadUe < 2 then s else s.fenceCore c cause)

/-- FENCE_DEFERRED_EFFECT (R494): the core's flask has no pour running any more. -/
def execFenceDeferredEffect (c : Fin 64) (s : State) : Host.Outcome State Fault Refusal :=
  .next (if (s.errCore c).deferred = true ∧ s.fenced c = false ∧ (s.pourOf c).isNone = true ∧ s.fencesWait = false then s.takeFence c .scratchpadWord else s)

/-! ### Replay (R497, R498, R500, R505) -/

/-- Bank groups of logical core `l` that are RETAINED. -/
def FlaskDef.retained (d : FlaskDef) (l : Nat) : List Nat := (List.range 16).filter (fun g => (d.part l g).1 == 2)

/-- Give logical core `l` a new host and move there the remote tokens that wait for it. -/
def State.rehost (s : State) (f : Nat) (d : FlaskDef) (l : Nat) : Option State :=
  let old := (s.hosts f).getD l 64
  (s.giveHost f d l).map (fun s1 =>
    let new := (s1.hosts f).getD l 64
    let mine := (s.core old).remoteTok.filter (fun t => t.2.2.pcore.toNat == l)
    (s1.modCore old (fun k => { k with remoteTok := k.remoteTok.filter (fun t => t.2.2.pcore.toNat != l) })).modCore new
      (fun k => { k with remoteTok := k.remoteTok ++ mine }))

/-- Give hosts to the orphans whose physical core is fenced; the flag names one that finds none. -/
def State.rehostAll (f : Nat) (d : FlaskDef) : List Nat → State → State × Option Nat
  | [], s => (s, none)
  | l :: r, s =>
    match s.rehost f d l with
    | some s1 => State.rehostAll f d r s1
    | none => (s, some l)

/-- Move the RETAINED groups of an orphan that was parked from its slot to its new host. -/
def State.unslot (s : State) (f : Nat) (d : FlaskDef) (l : Nat) : State :=
  if (s.flask f).shares.any (fun x => x.parked == l) then s
  else (d.retained l).foldl (fun s g =>
    s.moveSpan (memKey 9 ((64 * f + l) * 2 ^ 25 + g * 2 ^ 21)) (s.spadKey f l (g * 2 ^ 21)) (2 ^ 21)) s

/-- Load the commit record of logical core `l` (R497, step 5). -/
def State.restoreCore (s : State) (f l : Nat) : State :=
  match (s.flask f).records[l]? with
  | none => s
  | some r =>
    if (s.flask f).shares.any (fun x => x.parked == l) then
      s.modFlask f (fun x => { x with shares := x.shares.map (fun y =>
        if y.parked = l then { y with image := { Arch.init with rcd := r } } else y) })
    else s.modCore ((s.hosts f).getD l 0) (fun k => k.modRec (fun _ => r))

/-- Steps 5 and 6 of R497, or stage 4 of a pour that restarts (R500). -/
def State.resumeFlask (s : State) (f : Nat) : State :=
  if (s.flask f).records = [] then s.modFlask f (fun x => { x with stage := .loading, orphans := [], copies := [], notify := false })
  else
    let s1 := (List.range (s.hosts f).length).foldl (fun s l => s.restoreCore f l) (s.dropAgain f)
    let s2 := (s1.flask f).ext.foldl (fun s d => s.redeliver f d) s1
    s2.modFlask f (fun x => { x with
      stage := .running, orphans := [], copies := [], suppress := x.delivered, notify := false, replays := satAdd (2 ^ 32 - 1) x.replays 1,
      lastProgress := s.now, shares := x.shares.map (fun y => { y with since := s.now }) })

/-- Every logical core has a host: the cores are prepared, and the copies of RETAINED partitions begin (R497, step 4). -/
def State.prepare (s : State) (f : Nat) (d : FlaskDef) : State :=
  let slots := (s.flask f).orphans.filter (fun o => o.2 == 64)
  let s1 := slots.foldl (fun s o => s.unslot f d o.1) s
  let s2 := s1.seatAll f
  let due := (s2.flask f).orphans.filter (fun o => o.2 != 64 && d.retained o.1 != [])
  let idle := ((s2.flask f).orphans.filter (fun o => o.2 != 64 && !due.any (fun e => e.2 == o.2))).map (·.2)
  let s3 := idle.eraseDups.foldl (fun s c => s.darken c) s2
  if due = [] then s3.resumeFlask f
  else s3.modFlask f (fun x => { x with
    stage := .copying, orphans := due, copies := due.map (fun o => (o.2, (s.hosts f).getD o.1 0)) })

/-- The logical core whose fence left the flask with fewer than MINCORES cores (R280, R510): the fences of this recovery in
their order. -/
def State.shortBy (s : State) (f : Nat) (d : FlaskDef) : Nat :=
  let fences := ((s.flask f).orphans.map (fun o => (s.hosts f).getD o.1 64)).eraseDups.filter s.fenced
  let c := fences.getD ((s.unfencedCores d).length + fences.length - d.mincores) 64
  ((s.orphansOf f).find? (fun l => (s.hosts f).getD l 64 == c)).getD ((s.orphansOf f).headD 0)

/-- FLASK_RECOVERY (R497, steps 2 to 6): the flask is quiet after a fence. -/
def execFlaskRecovery (f : Fin 16) (s : State) : Host.Outcome State Fault Refusal :=
  .next (match s.flaskDef f with
    | none => s
    | some d =>
      if (s.flask f).stage = .stopping .recover ∧ s.flaskQuietNow f = true then
        let s1 := s.discardWork f true
        let dead := ((s1.hosts f).filter s1.fenced).eraseDups
        let s2 := dead.foldl (fun s c => s.dropShares f c) s1
        if s2.err.meshDead = true then s2.fencedEnd f 0
        else if (s2.unfencedCores d).length < d.mincores then s2.fencedEnd f (s2.shortBy f d)
        else
          match State.rehostAll f d (s2.orphansOf f) s2 with
          | (s3, some l) => s3.fencedEnd f l
          | (s3, none) => s3.prepare f d
      else s)

/-- RETAINED_COPY_DONE (R498): the RETAINED partitions of fenced core `c` lie in the new host, and its banks power down. -/
def execRetainedCopyDone (c : Fin 64) (found : List (Nat × EccFind)) (s : State) : Host.Outcome State Fault Refusal :=
  .next (match (List.range 16).find? (fun f => (s.flask f).stage == .copying && (s.flask f).copies.any (fun x => x.1 == c.val)) with
    | none => s
    | some f =>
      match s.flaskDef f with
      | none => s
      | some d =>
        let mine := (s.flask f).orphans.filter (fun o => o.2 == c.val)
        let groups := mine.flatMap (fun o => d.retained o.1)
        let s0 := s.findErrors (memKey 3 (c * 2 ^ 25)) (2 ^ 25) 4 (found.filter (fun e => groups.contains (e.1 / 2 ^ 21)))
        let s1 := mine.foldl (fun s o => (d.retained o.1).foldl (fun s g =>
          s.copySpan (memKey 3 (c * 2 ^ 25 + g * 2 ^ 21)) (s.spadKey f o.1 (g * 2 ^ 21)) (2 ^ 21)) s) s0
        let s2 := (s1.darken c).modFlask f (fun x => { x with
          orphans := x.orphans.filter (fun o => o.2 != c.val), copies := x.copies.filter (fun y => y.1 != c.val) })
        if (s2.flask f).copies = [] then s2.resumeFlask f else s2)

/-! ### Time-sharing (R502) -/

/-- The share of a running flask whose host is core `c`. -/
def State.shareAt (s : State) (c : Nat) : Option (Nat × Share) :=
  (List.range 16).findSome? (fun f =>
    if (s.flask f).stage = .running then ((s.flask f).shares.find? (fun x => x.host == c)).map (fun x => (f, x)) else none)

/-- A thread that leaves its core idle for a swap (R502): HALTED, or stalled on SEM.WAIT, on TOKEN.WAIT of an inbound queue, or
on COMMIT. -/
def Thread.swappable (t : Thread) : Bool :=
  t.isHalted || t.held.any (fun h => match h.why with
    | .semWait _ _ | .commit => true
    | .tokenWait q _ => decide (48 ≤ q)
    | _ => false)

/-- The resident logical core of a time-shared host is due to be parked (R502): idle for 20 µs, or resident for 2 ms. It has
been idle since it last issued: only an issue brings a thread into such a stall. -/
def State.swapDue (s : State) (c : Nat) (x : Share) : Bool :=
  decide (x.since + 2800000 ≤ s.now) ||
  ((List.range 16).all (fun t => (s.thread c t).swappable) && decide (max x.since (2 * (s.core c).issueAt) + 28000 ≤ s.now))

/-- TIME_SHARE_SWAP (R502): the host stops issuing and lets its queues and transfers complete. -/
def execTimeShareSwap (c : Fin 64) (s : State) : Host.Outcome State Fault Refusal :=
  .next (match s.shareAt c with
    | some (f, x) =>
      if x.swapping = false ∧ s.swapDue c x = true then
        s.modFlask f (fun y => { y with shares := y.shares.map (fun z => if z.host = c.val then { z with swapping := true } else z) })
      else s
    | none => s)

/-- Exchange the resident and the parked logical core of host `c`: scratchpads outside the CODE partition, and everything
else of the core. -/
def State.swapCore (s : State) (f c : Nat) (x : Share) : State :=
  let l := ((s.serving c).getD (f, 0)).2
  let codeg := ((s.flaskDef f).map (·.codeg)).getD 0
  let size := 2 ^ 25 - codeg * 2 ^ 21
  let here := memKey 3 (c * 2 ^ 25 + codeg * 2 ^ 21)
  let slot (i : Nat) : Nat := memKey 9 ((64 * f + i) * 2 ^ 25 + codeg * 2 ^ 21)
  let s1 := (s.moveSpan here (slot l) size).moveSpan (slot x.parked) here size
  let mine := (s1.core c).arch
  let s2 := s1.modCore c (fun k => { k with arch := x.image, serves := some (f, x.parked) })
  s2.modFlask f (fun y => { y with shares := y.shares.map (fun z =>
    if z.host = c then { z with parked := l, image := mine, swapping := false, since := s.now } else z) })

/-- TIME_SHARE_SWAP_DONE (R502): the queues and transfers are complete; the logical cores have changed places. -/
def execTimeShareSwapDone (c : Fin 64) (s : State) : Host.Outcome State Fault Refusal :=
  .next (match s.shareAt c with
    | some (f, x) => if x.swapping = true ∧ (s.core c).quiet = true then s.swapCore f c x else s
    | none => s)

/-! ### Mesh links (R490 to R492) -/

/-- A mesh link fails: S_LINK_DOWN and the link capture; the numbering of mesh links is not stated, so PORT is a free value
(log 3). -/
def State.linkFails (s : State) : State :=
  let (s1, b) := s.freeBytes 1
  let s2 := { s1 with err := { s1.err with meshFailed := satAdd 0xFFFF s1.err.meshFailed 1 } }
  (s2.captureLink 2 (b.getD 0 0).toNat).setSticky sLinkDown

/-- Every pour that is not stopping already ends with a fault that no instruction raised (R280). -/
def State.bareAll (s : State) (code : BitVec 8) : State :=
  (List.range 16).foldl (fun s f => match (s.flask f).stage with
    | .idle => s
    | .stopping .recover => s.bareFault f 0 code
    | .stopping _ => s
    | _ => s.bareFault f 0 code) s

/-- A die bridge or mesh-root link fails a second time: every pour ends (R492). -/
def State.meshDies (s : State) : State :=
  (State.setSticky { s with err := { s.err with meshDead := true } } sSpareExhausted).bareAll fFenced

/-- MESH_PARITY_ERROR (R490, R491): a flit is resent, or its fourth failure fails the link. -/
def execMeshParityError (l : MeshLink) (fourth : Bool) (s : State) : Host.Outcome State Fault Refusal :=
  .next (if fourth = false then
      let s0 := { s with err := { s.err with meshRetries := satAdd (2 ^ 32 - 1) s.err.meshRetries 1 } }
      match l with
      | .corePort c => s0.dieEvent (c / 16) 0x12 256
      | .inDie d _ => s0.dieEvent d 0x12 256
      | .bridge _ => s0
    else
      let s1 := s.linkFails
      match l with
      | .corePort c => s1.fenceCore c .streamPort
      | .inDie d n => s1.dropLink (24 * d + n)
      | .bridge n =>
        let k := Sparse.get 0 s.err.bridgeFails n + 1
        let s2 := { s1 with err := { s1.err with bridgeFails := Sparse.set 0 s1.err.bridgeFails n k } }
        if k = 2 then s2.meshDies else s2)

/-! ### Scrubbing and channel moves (R369, R377 to R382) -/

/-- The memory at a key is being scrubbed in this power state: not in self-refresh, and its bank group powered. -/
def State.scrubbed (s : State) (key : Nat) : Bool :=
  let sp := key / 2 ^ 48
  if sp = 3 then (s.core (key % 2 ^ 48 / 2 ^ 25)).pwr.getLsbD (key % 2 ^ 25 / 2 ^ 21) && s.pwr.state != .chrysalis && s.pwr.state != .off
  else s.powered sp && !(stackOf key).any (fun x => s.stackAsleep x.1)

/-- A block is read for its check bits alone; an uncorrectable error makes it a lost block, without a fault (R369). -/
def State.scrubBlock (s : State) (key : Nat) (v : Viewer) (found : EccFind) : State :=
  if s.scrubbed key = true ∧ s.blockLost v (key / 64) = false ∧ s.deadLine key = false then s.ecc v [(key, found)] 1 0 else s

/-- The core runs its clock: its own words are read. -/
def State.coreLit (s : State) (c : Nat) : Bool := !s.fenced c && s.pwr.clken.getLsbD c && s.hubRuns

/-- The hub's own memory holds a word that SECDED cannot correct (R487, R488): every pour ends, and the mould goes. -/
def State.hubWordLost (s : State) : State :=
  let s1 := (s.setSticky sEccUncorr).bareAll fEcc
  if (List.range 16).any s1.pourOn then { s1 with err := { s1.err with mouldDead := true } } else s1.dropMould

/-- A word of the module's own memory is read and its check bits show `found` (Table 16-1, R488). -/
def State.ownWord (s : State) (m : OwnMem) (found : EccFind) : State :=
  match m, found with
  | _, .clean => s
  | .tiles c, .corrected | .tables c, .corrected => if s.coreLit c then s.setSticky sEccCorr else s
  | .tiles c, .uncorrectable => if s.coreLit c then s.fenceCore c .tileWord else s
  | .tables c, .uncorrectable => if s.coreLit c then s.fenceCore c .sequencerWord else s
  | _, .corrected => if s.hubRuns then s.setSticky sEccCorr else s
  | _, .uncorrectable => if s.hubRuns then s.hubWordLost else s

/-- SCRUB (R369, R487): a block of a committed or working version, or a word of the module's own memories, is read for its
check bits (log 43); `working` says which version of a block. -/
def execScrub (p : ScrubAt) (working : Bool) (found : EccFind) (s : State) : Host.Outcome State Fault Refusal :=
  .next (match p with
    | .own m => s.ownWord m found
    | .block space off =>
      let key := memKey space (off.toNat / 64 * 64)
      if spaceSize space ≤ off.toNat then s
      else if working = false then s.scrubBlock key .other found
      else if s.seesWork .remote key = true ∧ s.inWork (key / 64) = true then s.scrubBlock key .remote found
      else s)

/-- A block lies in a line of channel `ch` of stack `n`. -/
def State.inChannel (s : State) (n ch key : Nat) : Bool :=
  match stackOf key with
  | some (m, c) => m == n && s.channelAt n key c == ch
  | none => false

/-- The next channel that waits for a move of stack `n` starts to move. -/
def State.nextMove (s : State) (n : Nat) : State :=
  match (s.stack n).waiting with
  | [] => s
  | ch :: r => s.modStack n (fun k => { k with moving := some ch, waiting := r })

/-- Record a map-out in the fuse bank while it has room (R382). -/
def State.fuseChannel (s : State) (n ch : Nat) : State :=
  if s.mapFuse.contains (n, ch) ∨ 64 ≤ s.mapFuse.length then s else { s with mapFuse := s.mapFuse ++ [(n, ch)] }

/-- First key of the memory of stack `n`. -/
def stackKey (n : Nat) : Nat :=
  if n < 16 then memKey 0 (n * 2 ^ 37) else if n < 28 then memKey 1 ((n - 16) * 2 ^ 37) else memKey 2 ((n - 28) * 2 ^ 37)

/-- The move of a channel ends (R377, R380, R382): blocks that were unreadable are lost. `found` names offsets in the stack. -/
def State.moveEnds (s : State) (n ch : Nat) (found : List (Nat × EccFind)) : State :=
  let s2 := s.findErrors (stackKey n) (2 ^ 37) 3 (found.filter (fun e => s.inChannel n ch (stackKey n + e.1)))
  let s3 := ((s2.modStack n (fun k => { k with moving := none, mapped := k.mapped ++ [ch], used := k.used + 1 })).setSticky
    sChannelMappedOut).fuseChannel n ch
  (if (s3.stack n).used = s3.margin n then s3.setSticky sSpareExhausted else s3).nextMove n

/-- CHANNEL_MOVE_DONE (R377). -/
def execChannelMoveDone (st : Fin 32) (found : List (Nat × EccFind)) (s : State) : Host.Outcome State Fault Refusal :=
  .next (match (s.stack st).moving with
    | some ch => s.moveEnds st ch found
    | none => s)

/-! ### Halting a core (R541) -/

/-- A write of HALTREQ, which needs level Open; in Doze it has no effect (R535, Table 17-10). -/
def State.writeHaltreq (s : State) (c : Nat) (v : Bool) : State :=
  if s.sec.debug = 2 ∧ (s.pwr.state = .run ∨ s.pwr.state = .idle) then s.modCore c (fun k => { k with haltreq := v }) else s

/-- HALTREQ (R541): the bit of core `c` is written. The no-progress timer of its flask stands still while any bit is set
(R542), so time up to a clearing does not count. -/
def execHaltreq (c : Fin 64) (v : Bool) (s : State) : Host.Outcome State Fault Refusal := .next (s.writeHaltreq c v)

end Sys2Proof.Machine
end

