-- ==== Sys2Proof/Machine/Power.lean ====
section
/-! DEFINITION. Power, clocks and reset: the governor, thermal levels and trips, power states, resets and what survives them
(chapter 18, R384 to R391). -/

namespace Sys2Proof.Machine

/-- Change the power state of the cocoon. -/
def State.modPwr (s : State) (f : Pwr → Pwr) : State := { s with pwr := f s.pwr }

/-! ### What runs -/

/-- The cocoon runs: power-on has passed the charging of the bulk capacitance. -/
def State.cocoonRuns (s : State) : Bool := s.pwr.boot != .off && s.pwr.boot != .charging

/-- Clock domain `d` runs now (Tables 13-5, 18-5, R565). -/
def State.domainRuns (s : State) (d : Nat) : Bool :=
  let on := s.pwr.clken.getLsbD d && s.hubRuns
  if d < 64 then on && s.pwr.state == .run && !(s.core d).gated
  else if d < 92 then on && (s.pwr.state == .run || s.pwr.state == .idle)
  else if d < 98 then on
  else s.cocoonRuns

/-- Core `c` is powered and enabled and not fenced: it can hold load (R551, R555). -/
def State.holdsLoad (s : State) (c : Nat) : Bool :=
  s.pwr.clken.getLsbD c && !s.fenced c && !(s.core c).gated && (s.pwr.state == .run || s.pwr.state == .idle)

/-! ### The governor (R550 to R557) -/

/-- The accesses that an active instruction is about to make or is making. -/
def SeAct.wants (s : State) (c : Nat) (a : SeAct) : List Acc :=
  let at' (write : Bool) (u : Nat) : List Acc := if u < a.total then
      (match a.phaseNeed s c write u with | .acc x => [x] | _ => []) else []
  at' false (a.front s c false) ++ at' true (a.front s c true) ++
  (if a.ent.op.code = 0x7F ∧ a.checked = false then [a.headerAcc] else []) ++
  (if a.ent.op.walks then [(a.desc 2).acc .single a.walked] else []) ++
  a.xfers.flatMap (fun x => at' (x.pool == 1) x.u0)

/-- The stacks that hold work: some active instruction wants or makes an access to them. -/
def State.busyStacks (s : State) : List Nat :=
  ((List.range 64).flatMap (fun c => (s.core c).se.active.flatMap (fun a => (a.wants s c).filterMap Acc.stack))).eraseDups

/-- A governed activity: its duty key (State.pwr), full-duty weight in mW (Table 18-2), floor in sixteenths (R552), and
whether it has work. -/
structure Activity where
  key : Nat
  weight : Nat
  floor : Nat
  work : Bool
deriving DecidableEq, Repr

/-- Weight of a stack's traffic. -/
def stackWeight (n : Nat) : Nat := if n < 16 then 12000 else if n < 28 then 10000 else 8000

/-- The activities in the order in which duties are raised (R553), class by class: stream engines and stacks, transform
engines, vector engines, limb matrix engines. -/
def State.activities (s : State) : List (List Activity) :=
  let busy := s.busyStacks
  let live (c : Nat) : Bool := s.holdsLoad c && s.pwr.state == .run
  let cores (cls weight floor : Nat) (p : Core → Bool) : List Activity :=
    (List.range 64).map (fun c => ⟨4 * c + cls, weight, floor, live c && p (s.core c)⟩)
  [cores 0 3000 4 (fun k => k.se.queue != [] || k.se.active != []) ++
      (List.range 32).map (fun n => ⟨256 + n, stackWeight n, 4, busy.contains n && !(s.stack n).gated⟩),
   cores 1 6000 1 (fun k => k.te.queue != [] || k.te.flights != []),
   cores 2 8000 1 (fun k => k.ve.queue != [] || k.ve.flights != []),
   cores 3 16000 1 (fun k => k.lme.queue != [] || k.lme.flights != [])]

/-- Power of an activity at a duty. -/
def Activity.power (a : Activity) (d : Nat) : Nat := a.weight * d / 16

/-- Power that a duty table admits. -/
def admittedPower (as : List Activity) (duty : Sparse Nat) : Nat :=
  (as.map (fun a => a.power (Sparse.get 0 duty a.key))).sum

/-- Power of the fabric ports that hold transfers; they are always admitted in full. -/
def State.fabricPower (s : State) : Nat :=
  2000 * ((List.range 32).filter (fun p => (s.port p).replay != [] || (s.port p).queue != [])).length

/-- Demanded power of the activities that have work (R550). -/
def State.demand (s : State) (as : List Activity) : Nat :=
  ((as.filter (·.work)).map (·.weight)).sum + s.fabricPower

/-- The duty one step above `d`: from 0 to the floor, else by one (R552). -/
def Activity.up (a : Activity) (d : Nat) : Nat := if d = 0 then a.floor else d + 1

/-- The next activity of a class that can be raised, from a cursor on, round-robin. -/
def nextRaise (as : List Activity) (duty : Sparse Nat) (cursor : Nat) : Option (Nat × Activity) :=
  let n := as.length
  (List.range n).findSome? (fun i =>
    let j := (cursor + i) % (if n = 0 then 1 else n)
    match as[j]? with
    | some a => if a.work && decide (Sparse.get 0 duty a.key < 16) then some (j, a) else none
    | none => none)

/-- Raise duties (R553, R556): at most `n` steps and, beyond that, as many as the power of load-hold covers; never past
the budget. `free` is what load-hold gives, `left` what the budget leaves. The counter bounds the steps. -/
def raiseDuties (classes : List (List Activity)) : Nat → Nat → Nat → Nat → Nat → Sparse Nat → Sparse Nat × Nat
  | 0, _, _, _, cursor, duty => (duty, cursor)
  | fuel + 1, n, free, left, cursor, duty =>
    match classes.find? (fun as => as.any (fun a => a.work && decide (Sparse.get 0 duty a.key < 16))) with
    | none => (duty, cursor)
    | some as =>
      match nextRaise as duty cursor with
      | none => (duty, cursor)
      | some (j, a) =>
        let d := Sparse.get 0 duty a.key
        let cost := a.power (a.up d) - a.power d
        if left < cost then (duty, cursor)
        else if cost ≤ free then
          raiseDuties classes fuel n (free - cost) (left - cost) (j + 1) (Sparse.set 0 duty a.key (a.up d))
        else if n = 0 then (duty, cursor)
        else raiseDuties classes fuel (n - 1) free (left - cost) (j + 1) (Sparse.set 0 duty a.key (a.up d))

/-- Lower one class until the power fits: passes in descending order, one step per activity down to the floor, then to 0. -/
def lowerClass (as : List Activity) (budget : Nat) (all : List Activity) (toZero : Bool) (duty : Sparse Nat) : Sparse Nat :=
  (List.range (if toZero then 1 else 16)).foldl (fun duty _ => as.reverse.foldl (fun duty a =>
    let d := Sparse.get 0 duty a.key
    if admittedPower all duty ≤ budget then duty
    else if toZero then Sparse.set 0 duty a.key 0
    else if a.floor < d then Sparse.set 0 duty a.key (d - 1) else duty) duty) duty

/-- Lower duties in the reverse order of R553 until the power fits. -/
def lowerDuties (classes : List (List Activity)) (budget : Nat) (duty : Sparse Nat) : Sparse Nat :=
  let all := classes.flatten
  classes.reverse.foldl (fun duty as => lowerClass as budget all true (lowerClass as budget all false duty)) duty

/-- The gatings of one tick (R557): at most two, and one for a tripped thermal group; a trip's entries are 256 above the
domain. -/
def State.gateSome (s : State) : State :=
  let g := s.pwr.gatings
  let n := if (g.headD 0) ≥ 256 ∨ (g.getD 1 0) ≥ 256 then 1 else 2
  (g.take n).foldl (fun s d =>
    let dom := d % 256
    if dom < 64 then s.modCore dom (fun k => { k with gated := true })
    else s.modStack (dom - 64) (fun k => { k with gated := true })) (s.modPwr (fun p => { p with gatings := g.drop n }))

/-- Input current in µA at a power in mW and a voltage in mV. -/
def microAmps (mw mv : Nat) : Nat := if mv = 0 then 0 else mw * 10 ^ 6 / mv

/-- The formula of R551 at a measured voltage and power. -/
def State.govern (s : State) (mv mw : Nat) : State :=
  let classes := s.activities
  let all := classes.flatten
  -- activities without work hold no duty
  let duty0 := (all.filter (fun a => !a.work)).foldl (fun m a => Sparse.set 0 m a.key 0) s.pwr.duty
  let running := admittedPower all s.pwr.duty + s.fabricPower + s.pwr.hold
  let base := ((mw - running) :: s.pwr.pbase).take 1000
  let pb := base.sum / base.length
  let pd := s.demand all
  let h := ((List.range 64).filter s.holdsLoad).length
  let d := microAmps (pb + pd) mv
  let cap := microAmps (min (s.pwr.pcap * 1000) (pb + 34000 * h)) mv
  let step := s.pwr.slew * 125
  let ia := max (s.pwr.iAdm - step) (min d (min (s.pwr.iAdm + step) cap))
  let budget := ia * mv / 10 ^ 6 - pb - s.fabricPower
  let duty1 := lowerDuties classes budget duty0
  let left := budget - admittedPower all duty1
  let (duty2, cur) := raiseDuties classes 4096 4 s.pwr.hold left s.pwr.cursor duty1
  let lim := decide (cap < d) && decide (ia < d) && decide (cap ≤ s.pwr.iAdm + step)
  s.modPwr (fun p => { p with
    pbase := base, iAdm := ia, admitted := ia * mv / 10 ^ 6, pDem := pb + pd, duty := duty2, cursor := cur % 4096
    hold := min (budget - admittedPower all duty2) (if s.pwr.state = .run then 34000 * h else 0)
    capLim := lim, capAt := if p.capLim && lim then p.capAt else s.now })

/-! ### What resets and Chrysalis drop (Table 18-8) -/

/-- Drop the jobs and background command of the cocoon's engines. -/
def State.dropJobs (s : State) : State :=
  { s.breakFuse with bg := none, err := { s.breakFuse.err with fencesDue := [] }, sec := { s.breakFuse.sec with sp := [], spAt := 0, bne := [], bneShort := [], sha := [] } }

/-- The counters of the dies and the hub, the window counters and the snapshot buffer at their defaults. -/
def State.dropDieHub (s : State) : State :=
  { s with cnt := { s.cnt with
      ctl := s.cnt.ctl.filter (fun e => decide (e.1 < 1024)), val := s.cnt.val.filter (fun e => decide (e.1 < 1024)), trig := 0,
      freeze := false, frzTime := 0, snapBusy := false, snapStart := 0, snapSeq := 0, snap := [], clearDue := false, live := [],
      wlog := 0x14, winAt := s.now, winSkip := decide (s.now % 2 ^ 20 ≠ 0), wins := [] } }

/-- A core after a module reset or Chrysalis: everything at its default but its counts since power-on; a fence stays. -/
def State.blankCore (s : State) (c : Nat) : State :=
  (s.setCore c { Core.init with
    spadCe := (s.core c).spadCe
    spadUe := (s.core c).spadUe
    gated := s.fenced c
    pwr := if s.fenced c then 0 else 0xFFFF }).dropCounters (16 * c) 16

/-- Everything that a module reset and Chrysalis both lose: mould and settings, staging, pours, working versions,
scratchpads, cores, counters, the fabric, the control-port session. -/
def State.dropVolatile (s : State) : State :=
  let s0 := s.dropJobs
  let s1 : State := { s0 with
    mould := none, flasks := [], staged := [], mouldStatus := ⟨0, 0, 0, 0, 0⟩, work := [], workLost := [], foreign := [],
    sec := { s0.sec with debug := 0 },
    fab := { ports := [], addr := 0, addrv := false, oldAddr := none, lsaSeq := s0.fab.lsaSeq, dup := false, nreach := 0, db := [], ages := [],
             routes := [], dist := [], emptied := [], waiting := [], sent := s0.fab.sent },
    pwr := { s0.pwr with
      slew := 0x20, pcap := 0x960, clken := BitVec.allOnes 100, duty := [], cursor := 0, gatings := [], hold := 0,
      iAdm := 0, admitted := 0, pDem := 0, capLim := false, capAt := 0 } }
  let s2 := (List.range 32).foldl (fun s n => s.modStack n (fun k => { k with gated := false })) ((s1.zeroSpace 3).zeroSpace 9)
  ((List.range 64).foldl (fun s c => s.blankCore c) s2).dropDieHub.cpReset

/-- Stack states of a list of stacks. A stack that has failed training (4) keeps that state until it is off or trained
anew. -/
def State.setStacks (s : State) (l : List Nat) (st : Nat) : State :=
  l.foldl (fun s n => s.modStack n (fun k => { k with st := if k.st = 4 ∧ 2 ≤ st then 4 else st })) s

/-- The near and mid stacks. -/
def nearMid : List Nat := List.range 28
/-- The far stacks. -/
def farStacks : List Nat := (List.range 4).map (· + 28)

/-- Stop every flask without a fault and without POUR_END (R562, R567, R569). -/
def State.stopAll (s : State) : State :=
  (List.range 16).foldl (fun s f => match (s.flask f).stage with
    | .idle => s
    | .stopping _ => s.modFlask f (fun x => { x with stage := .stopping .thermal })
    | _ => s.stopFlask f .thermal) s

/-! ### Module and warm resets -/

/-- The state-changing part of a module reset (Table 18-8): the tiers and the cocoon's retained state stay, and so do stacks
whose training it interrupts. -/
def State.moduleReset (s : State) : State :=
  let s1 := s.dropVolatile.newNonce
  if s.pwr.resume = none then s1.setStacks (nearMid ++ farStacks) 2 else s1

/-- The reset sequence starts once RESET_N is high and load-hold has ended (R568). -/
def State.tryReset (s : State) : State :=
  if s.pwr.boot = .resetHeld ∧ s.pwr.resetLow = false ∧ s.pwr.hold = 0 then
    s.moduleReset.modPwr (fun p =>
      if p.resume = none then { p with boot := .resetting, target := none, later := [], state := .idle }
      else { p with boot := .resetting })
  else s

/-- The stage of a power-on or of an exit from Chrysalis that a module reset interrupts, or interrupted before (log 68). -/
def State.interrupted (s : State) : Option Boot :=
  match s.pwr.boot with
  | .selfTest | .training | .waking => some s.pwr.boot
  | .resetHeld | .resetting | .warmPending | .warming => s.pwr.resume
  | _ => none

/-- A module reset is triggered (R566, R568): every core stops issuing, and load-hold takes over its current. -/
def State.triggerReset (s : State) (cause : BitVec 4) : State :=
  (s.stopAll).modPwr (fun p => { p with boot := .resetHeld, rstCause := cause, resume := s.interrupted })

/-- The module is past its power-on and in no reset sequence. -/
def State.operating (s : State) : Bool :=
  (s.pwr.boot == .ready || s.pwr.boot == .warmPending || s.pwr.boot == .warming) &&
    (s.pwr.state == .run || s.pwr.state == .idle || s.pwr.state == .doze)

/-- Domains outside the cocoon and the housekeeping block run: in a bring-up, a reset sequence or a power state but
Chrysalis and Off. -/
def State.outsideRuns (s : State) : Bool :=
  s.operating || (s.interrupted).isSome || s.pwr.boot == .resetHeld || s.pwr.boot == .resetting

/-- This is the housekeeping cycle (14 mesh cycles) in which the exit from Chrysalis began (R594). -/
def State.wakeCycle (s : State) : Bool := s.pwr.boot == .waking && s.now / 14 == s.pwr.wakeAt / 14

/-- A wake may be served: no input fault and no trip withholds it (R549, R563). -/
def State.wakesServed (s : State) : Bool := !s.pwr.wakesBlocked && !s.pwr.trip

/-- The exit from Chrysalis begins (R561). -/
def State.startWake (s : State) (rst : BitVec 4) (ev : BitVec 8) : State :=
  (s.setStacks nearMid 1).modPwr (fun p => { p with
    boot := .waking, target := some .idle, rstCause := rst, wakeCause := ev, wakeAt := s.now })

/-- RESET_N (R568, R594): held low for 10 µs. In Chrysalis it performs the exit; in Off it has no effect. -/
def execResetN (s : State) : Host.Outcome State Fault Refusal :=
  .next (if s.wakeCycle then s.modPwr (fun p => { p with resetLow := true, rstCause := 1, wakeCause := 3 })
    else if s.outsideRuns then (s.triggerReset 1).modPwr (fun p => { p with resetLow := true })
    else if s.pwr.state = .chrysalis ∧ s.pwr.boot = .ready ∧ s.wakesServed = true then
      (s.startWake 1 3).modPwr (fun p => { p with resetLow := true })
    else s)

/-- RESET_N_RELEASE (R568). -/
def execResetNRelease (s : State) : Host.Outcome State Fault Refusal :=
  .next ((s.modPwr (fun p => { p with resetLow := false })).tryReset)

/-- WARM_RESET_BEGIN (R483, R569): within 1 ms of the response every flask stops, and the commands that have not started
are discarded. -/
def execWarmResetBegin (s : State) : Host.Outcome State Fault Refusal :=
  .next (if s.pwr.boot = .warmPending then
    ((s.stopAll).modCp (fun k => { k with
      waiting := [], record := [], blocked := false, ready := k.ready.filter (fun f => f.type == 0x11#8) })).modPwr (fun p =>
      { p with boot := .warming })
  else s)

/-- Every enabled port starts its bring-up (R425). -/
def State.trainPorts (s : State) : State :=
  (List.range 32).foldl (fun s p => if (s.port p).en ∧ (s.port p).st = 0 then s.portTrain p else s) s

/-- The POWER event (Table 15-7). -/
def State.powerEvent (s : State) (cause : BitVec 8) : State := s.event 0x04 (leBytes 1 s.powerCode ++ [cause] ++ List.replicate 6 0)

/-- The hub control domain runs again: ports train and the control port locks. -/
def State.startHub (s : State) : State := (s.trainPorts).modCp (fun k => { k with st := .locking })

/-- The state-changing part of a warm reset (R569, Table 18-8). -/
def State.warmReset (s : State) : State :=
  let s0 := s.dropJobs
  let s1 := (List.range 16).foldl (fun s f => (s.darkenFenced f).clearPour f) s0
  let s2 := (List.range 64).foldl (fun s c => if s.fenced c then s else (s.zeroKinds c [0, 1]).defaultCore c) s1
  let s3 := (List.range 16).foldl (fun s f =>
    let t := (s.flask f).shares.foldl (fun s x => s.zeroParked f x.parked [1]) s
    t.modFlask f (fun x => { x with shares := x.shares.map (fun y => { y with image := Arch.init }) })) s2
  let s4 := { s3 with staged := [], mouldStatus := { s3.mouldStatus with stage := 0 }, sec := { s3.sec with debug := 0 } }
  (s4.newNonce).cpWarm

/-- Cores after an exit from Doze or a warm reset in it: every group of the partition map powered, tables written (R560). -/
def State.powerCores (s : State) : State :=
  (List.range 64).foldl (fun s c =>
    if s.fenced c ∨ s.pwr.clken.getLsbD c = false then s else (s.repower c).loadTables c) s

/-- RESET_SEQUENCE_DONE (R567): a module or warm reset finishes in Idle, or goes on with the bring-up it interrupted; the
control port repeats its bring-up. -/
def execResetSequenceDone (s : State) : Host.Outcome State Fault Refusal :=
  .next (if s.pwr.boot = .resetting then
    match s.pwr.resume with
    | none => ((s.modPwr (fun p => { p with boot := .ready, state := .idle })).startHub).powerEvent 3
    | some b =>
      let s1 := s.modPwr (fun p => { p with boot := b, resume := none })
      if b = .training then s1.startHub else s1
  else if s.pwr.boot = .warming ∧ (List.range 16).all s.flaskQuietNow = true then
    let s1 := s.warmReset
    let s2 := if s.pwr.state = .doze then (s1.setStacks nearMid 2).powerCores else s1
    let s3 := match s.pwr.resume with
      | some b => s2.modPwr (fun p => { p with boot := b, resume := none, rstCause := 2 })
      | none => s2.modPwr (fun p => { p with boot := .ready, state := .idle, rstCause := 2, target := none, later := [] })
    let s4 := if s.pwr.state = s3.pwr.state then s3 else s3.powerEvent 3
    -- the lane stays locked: the port goes to the SYNC exchange at once
    if s.cp.st = .sync ∨ s.cp.st = .up then s4.enterSync else s4.modCp (fun k => { k with st := s.cp.st })
  else s)

/-! ### Power-on and Off (Table 18-7) -/

/-- Everything but the fuses, the pins and the record of what was sent is lost (Off, R549). -/
def State.powerOff (s : State) : State :=
  let t := s.breakFuse
  let r := State.reset
  { r with
    pending := t.pending, mapFuse := t.mapFuse, coreFuse := t.coreFuse, free := t.free, draws := t.draws,
    sec := { r.sec with
      idKeyBlown := t.sec.idKeyBlown, idKeyOk := t.sec.idKeyOk, ownerKey := t.sec.ownerKey, ownerHash := t.sec.ownerHash,
      lcOwned := t.sec.lcOwned, lcDecom := t.sec.lcDecom },
    cp := { r.cp with lane := t.cp.lane }, fab := { r.fab with sent := t.fab.sent },
    pwr := { r.pwr with present := t.pwr.present } }

/-- POWER_ON (R567): the input rises through 48 V from Off; with PRESENT mated the bulk capacitance charges (R548, R590). -/
def execPowerOn (mv : Nat) (s : State) : Host.Outcome State Fault Refusal :=
  .next (if s.pwr.boot = .off ∧ 48000 ≤ mv then
    s.modPwr (fun p => { p with vin := mv, boot := if p.present then .charging else .off })
  else s)

/-- PRESENT_MATE (R590): the connection: the inrush limiter starts when the input is there. -/
def execPresentMate (s : State) : Host.Outcome State Fault Refusal :=
  .next (s.modPwr (fun p => { p with present := true, boot := if p.boot = .off ∧ 48000 ≤ p.vin then .charging else p.boot }))

/-- Bits set in a lifecycle fuse field (R516). -/
def fuseCount (v : BitVec 16) : Nat := ((List.range 16).filter (fun i => v.getLsbD i)).length

/-- The fuses are read (R516, R521): lifecycle, and LC_DECOM blown when the check word of ID_KEY fails. -/
def State.readFuses (s : State) : State :=
  let d := if s.sec.idKeyOk = false ∨ s.sec.idKeyBlown = true then 0xFFFF else s.sec.lcDecom
  { s with sec := { s.sec with
      lcDecom := d, lifecycle := if 9 ≤ fuseCount d then 2 else if 9 ≤ fuseCount s.sec.lcOwned then 1 else 0 } }

/-- Recorded cores are fenced before self-test (R496): FENCED and FUSED only. -/
def State.fenceFused (s : State) : State :=
  s.coreFuse.foldl (fun s c => (s.modErrCore c (fun e => { e with fenced := true })).modCore c (fun k =>
    { k with gated := true, pwr := 0 })) s

/-- BULK_CHARGED (R548): the rails are up: fuses are read, recorded cores fenced, DBG_NONCE drawn. -/
def execBulkCharged (s : State) : Host.Outcome State Fault Refusal :=
  .next (if s.pwr.boot = .charging then
    ((s.readFuses.fenceFused).newNonce).modPwr (fun p => { p with boot := .selfTest, state := .idle, rstCause := 0, smbAddr := 0x60 ||| Config.addrStraps.setWidth 7 })
  else s)

/-- SELF_TEST_DONE (R493, R561): failing cores are fenced with cause 0x06; the hub control domain runs, the fabric ports
train and the control port locks. -/
def execSelfTestDone (failed : List (Fin 64)) (s : State) : Host.Outcome State Fault Refusal :=
  .next (if s.pwr.boot = .selfTest ∨ s.pwr.boot = .waking then
    let s1 := failed.foldl (fun s c => s.fenceCore c .selfTest) s
    let s2 := if s.pwr.boot = .selfTest then s1.setStacks (nearMid ++ farStacks) 1 else s1
    (s2.modPwr (fun p => { p with boot := .training })).startHub
  else s)

/-- A transition of the power state runs: a command or wake waits for its end (R559). -/
def State.changing (s : State) : Bool := s.pwr.target.isSome || s.pwr.boot == .training

/-- A transition to state `t` begins. A command for Chrysalis is answered before the entry, for another state when it is
reached (R482). -/
def State.beginTransition (s : State) (t : Power) (ev : BitVec 8) : State :=
  let s1 := match s.bg with
    | some g =>
      if g.opcode = 0x50#8 ∧ ev = 0 then
        (if t = Power.chrysalis then s.bgEnd g 0 [] else { s with bg := some { g with stage := .transition } })
      else s
    | none => s
  s1.modPwr (fun p => { p with target := some t, wakeCause := ev, rstEntry := if t = Power.chrysalis then 0 else p.rstEntry })

/-- The cause code of RST_CAUSE for a wake (Table 18-9), from that of the POWER event. -/
def wakeReset (ev : BitVec 8) : BitVec 4 := if ev = 1 then 3 else if ev = 2 then 4 else 1

/-- What waited for a transition takes effect in its order (R559): one that leads nowhere is answered at once, and the first
that leads on begins its transition. A wake has no effect in Run; from Chrysalis only a wake leads on. -/
def State.nextTransition : List (Power × BitVec 8) → State → State
  | [], s => s.modPwr (fun p => { p with later := [] })
  | (t, ev) :: r, s =>
    if s.pwr.state = .chrysalis ∧ t ≠ .chrysalis then
      if ev ≠ 0 ∧ s.wakesServed = true then (s.startWake (wakeReset ev) ev).modPwr (fun p => { p with later := r })
      else State.nextTransition r s
    else if t = s.pwr.state then
      State.nextTransition r (match s.bg with
        | some g => if g.opcode = 0x50#8 ∧ ev = 0 then s.bgEnd g 0 [] else s
        | none => s)
    else if ev ≠ 0 ∧ s.pwr.state = .run then State.nextTransition r s
    else (s.beginTransition t ev).modPwr (fun p => { p with later := r })

/-- Channels that fail training qualify for map-out (R376); a stack all of whose channels fail has failed (Table 12-7). -/
def State.trained (s : State) (which : List Nat) (failed : List (Nat × Nat)) : State :=
  let fails (n : Nat) : List Nat :=
    ((failed.filter (fun e => e.1 == n)).map (·.2)).filter (fun ch => decide (ch < (if n < 16 then 256 else if n < 28 then 64 else 32)))
  which.foldl (fun s n =>
    let count := if n < 16 then 256 else if n < 28 then 64 else 32
    (fails n).foldl (fun s ch => s.qualify n ch) (s.modStack n (fun k => { k with
      st := if (fails n).eraseDups.length = count then 4 else 2 }))) s

/-- Recorded map-outs are applied before training (R382). -/
def State.applyMapFuse (s : State) : State :=
  s.mapFuse.foldl (fun s e => s.modStack e.1 (fun k =>
    if k.mapped.contains e.2 then k else { k with mapped := k.mapped ++ [e.2], used := k.used + 1 })) s

/-- TRAINING_DONE (R571, Table 18-7): the stacks are trained and zeroed, and the module is in Idle. -/
def execTrainingDone (failed : List (Nat × Nat)) (s : State) : Host.Outcome State Fault Refusal :=
  .next (if s.pwr.boot = .training ∧ s.pwr.target = none then
    ((((((s.zeroSpace 0).zeroSpace 1).zeroSpace 2).applyMapFuse).trained (nearMid ++ farStacks) failed).modPwr (fun p =>
      { p with boot := .ready, state := .idle })).nextTransition s.pwr.later
  else s)

/-- POWER_LOSS (R549): the input falls below 40 V. -/
def execPowerLoss (s : State) : Host.Outcome State Fault Refusal := .next s.powerOff

/-! ### STATUS_WORD (Table 20-6) -/

/-- A thermal group, or a stack that is a group of its own, is at level 2 or above. -/
def State.hot (s : State) : Bool :=
  s.pwr.level.any (fun e => decide (2 ≤ e.2)) || (List.range 32).any (fun n => decide (2 ≤ (s.stack n).level))

/-- The bits of STATUS_WORD whose condition holds now: INPUT, OFF, VIN_UV while the shutdown still withholds wakes, and
TEMPERATURE. -/
def State.statusNow (s : State) : BitVec 16 :=
  (if s.pwr.vin < 50000 ∨ 60000 < s.pwr.vin then 0x2000#16 else 0) |||
  (if s.pwr.state = .chrysalis then 0x0040#16 else 0) |||
  (if s.pwr.wakesBlocked then s.pwr.status &&& 0x0008#16 else 0) |||
  (if s.hot ∨ s.pwr.trip then 0x0004#16 else 0)

/-- Bits of STATUS_WORD stay set until CLEAR_FAULTS. -/
def State.latch (s : State) : State := s.modPwr (fun p => { p with status := p.status ||| s.statusNow })

/-! ### Chrysalis (R561) and input faults (R549) -/

/-- The module enters Chrysalis: everything outside the cocoon, the housekeeping block and the far tier loses power. -/
def State.enterChrysalis (s : State) (entry : BitVec 4) : State :=
  -- a move in the far tier completes, one in the near or mid tier is abandoned (R379)
  let s0 := farStacks.foldl (fun s n => match (s.stack n).moving with | some ch => s.moveEnds n ch [] | none => s) s
  let s1 := nearMid.foldl (fun s n => s.modStack n (fun k => { k with moving := none, waiting := [] })) s0
  let s2 := ((s1.zeroSpace 0).zeroSpace 1).dropVolatile
  (((s2.setStacks nearMid 0).setStacks farStacks 3).modPwr (fun p => { p with
    state := .chrysalis, boot := .ready, target := none, later := [], resume := none, rstEntry := entry })).latch

/-- An input fault (R549): the sticky bit, every pour ended, Chrysalis at once, and wakes withheld. -/
def State.inputFault (s : State) (overV : Bool) : State :=
  let s1 := (s.setSticky (if overV then sInputOv else sInputUv)).modPwr (fun p => { p with
    wakesBlocked := true, vinOk := none, status := p.status ||| (if overV then 0 else 0x0008#16) })
  if s.pwr.state = .chrysalis ∧ s.pwr.boot = .ready then s1 else s1.enterChrysalis (if overV then 6 else 5)

/-- INPUT_FAULT (R549). -/
def execInputFault (overV : Bool) (s : State) : Host.Outcome State Fault Refusal :=
  .next (if s.cocoonRuns then s.inputFault overV else s)

/-- INPUT_RECOVERY_TIMER (R549): the input has stayed between 48 V and 62 V for 100 ms. -/
def execInputRecoveryTimer (s : State) : Host.Outcome State Fault Refusal :=
  .next (if s.pwr.vinOk.any (fun n => decide (n + 140000000 ≤ s.now)) = true then s.modPwr (fun p => { p with wakesBlocked := false }) else s)

/-- PRESENT_BREAK (R590): the cocoon acts as on undervoltage. -/
def execPresentBreak (s : State) : Host.Outcome State Fault Refusal :=
  .next (let s1 := s.modPwr (fun p => { p with present := false, boot := if p.boot = .charging then .off else p.boot })
    if s1.cocoonRuns then s1.inputFault false else s1)

/-! ### Power states (R558 to R561, R482) -/

/-- Near and mid stacks enter self-refresh, and every core loses what its RETAINED groups do not hold (R560). -/
def State.enterDoze (s : State) : State :=
  let s1 := (List.range 64).foldl (fun s c =>
    if s.fenced c then s
    else ((s.zeroKinds c [0, 1]).modCore c (fun k =>
      { k.fresh.clearSeq with haltreq := false, hazchk := false, loaded := 0, serves := none, pwr := s.groupBits c [2] })).dropCounters
        (16 * c) 16) s
  (s1.setStacks nearMid 3).modPwr (fun p => { p with state := .doze, duty := [] })

/-- Exit from Doze. -/
def State.leaveDoze (s : State) : State := (s.setStacks nearMid 2).powerCores

/-- A transition to state `t` may complete now: entry waits for pours to end, from Run for the governor to have ramped down
(R559, R562), and, to Doze, for channel moves (R379); to
Chrysalis by command, for the response to be acknowledged, and for a background command past its point of no return
(R482, R545). -/
def State.mayComplete (s : State) (t : Power) : Bool :=
  !s.fencesWait && (t == .run || s.pwr.state != .run || s.pwr.hold == 0) && match t with
  | .doze => (List.range 32).all (fun n => (s.stack n).moving == none)
  | .chrysalis =>
    (List.range 16).all (fun f => s.flaskQuietNow f) && !s.bg.any (fun g => g.past && g.opcode != 0x50#8) &&
    (s.pwr.rstEntry != 0 || !(s.cp.held ++ s.cp.ready).any (fun f => f.type == 0x11#8 && f.opcode == 0x50#8))
  | .idle => s.pwr.state != .chrysalis || s.pwr.boot == .training
  | _ => true

/-- The new state holds. -/
def State.enter (s : State) (t : Power) (failed : List (Nat × Nat)) : State :=
  match t with
  | .chrysalis => s.enterChrysalis s.pwr.rstEntry
  | .doze => s.enterDoze
  | t =>
    let s1 := match s.pwr.state with
      | .doze => s.leaveDoze
      | .chrysalis =>
        ((s.zeroSpace 0).zeroSpace 1).trained nearMid failed |>.setStacks farStacks 2
      | _ => s
    s1.modPwr (fun p => { p with state := t, boot := .ready })

/-- POWER_TRANSITION_COMPLETE (R559): the transition ends: the command is answered, or a POWER event is sent for a wake.
`failed` are channels of near and mid stacks that fail training at exit from Chrysalis. -/
def execPowerTransitionComplete (failed : List (Nat × Nat)) (s : State) : Host.Outcome State Fault Refusal :=
  .next (match s.pwr.target with
    | none => s
    | some t =>
      if s.mayComplete t = false then s
      else
        let s1 := (s.enter t failed).modPwr (fun p => { p with target := none, wakeCause := 0 })
        let s2 := match s1.bg with
          | some g => if g.opcode = 0x50#8 ∧ g.stage = BgStage.transition then s1.bgEnd g 0 [] else s1
          | none => s1
        (if t = Power.chrysalis then s2 else s2.powerEvent s.pwr.wakeCause).nextTransition s.pwr.later)

/-- A wake by WAKE_N or SMBus (R558, R593, R594): to Idle from Doze or Chrysalis. -/
def State.wake (s : State) (rst : BitVec 4) (ev : BitVec 8) : State :=
  if s.wakesServed = false then s
  else if s.wakeCycle = true ∧ rst = 3 ∧ s.pwr.rstCause = 4 then s.modPwr (fun p => { p with rstCause := 3, wakeCause := 1 })
  else if s.pwr.state = .chrysalis then (if s.pwr.boot = .ready ∧ s.pwr.target = none then s.startWake rst ev else s)
  else if s.pwr.target = some .doze ∨ s.pwr.target = some .chrysalis then
    if s.pwr.later.any (fun x => x.2 != 0) then s else s.modPwr (fun p => { p with later := p.later ++ [(.idle, ev)] })
  else if s.pwr.state = .doze ∧ s.pwr.target = none then s.beginTransition .idle ev
  else s

/-- WAKE_N (R593). -/
def execWakeN (s : State) : Host.Outcome State Fault Refusal := .next (if s.cocoonRuns then s.wake 3 1 else s)

/-! ### Clock monitors (R566) -/

/-- CLOCK_FAULT (R566): a core domain's clock or supply is out of range: the core is fenced with cause 0x07; any other
domain: a module reset with cause 8. Only core domains have a supply monitor. -/
def execClockFault (d : Fin 100) (supply : Bool) (s : State) : Host.Outcome State Fault Refusal :=
  .next (if d.val < 64 then (if s.operating ∧ s.pwr.clken.getLsbD d then s.fenceCore d.val .monitor else s)
    else if supply = false ∧ s.outsideRuns = true ∧ s.domainRuns d = true then (s.triggerReset 8).tryReset
    else s)

/-! ### Thermal levels and trips (R384 to R387, R562, R563) -/

/-- The level whose entry condition a temperature meets: entry thresholds `base`, base + 3, base + 5, and trip at base + 7. -/
def levelOf (base t : Nat) : Nat :=
  if base + 7 ≤ t then 4 else if base + 5 ≤ t then 3 else if base + 3 ≤ t then 2 else if base ≤ t then 1 else 0

/-- Entry threshold of a level. -/
def entryOf (base lvl : Nat) : Nat := if lvl ≤ 1 then base else if lvl = 2 then base + 3 else if lvl = 3 then base + 5 else base + 7

/-- The new level and count of cool periods (R384, R385): `hot` is the highest level any sample meets, `cool` says that every
sample lies 3 °C below the entry thresholds of the level now. -/
def stepLevel (lvl calm hot : Nat) (cool : Bool) : Nat × Nat :=
  if lvl < hot then (hot, 0)
  else if lvl = 0 ∨ cool = false then (lvl, 0)
  else if calm + 1 = 10 then (lvl - 1, 0)
  else (lvl, calm + 1)

/-- Sample stack `n` alone (mid and far stacks, R387). -/
def State.sampleStack (s : State) (n : Nat) : State :=
  let k := s.stack n
  let r := stepLevel k.level k.calm (levelOf 88 k.temp) (decide (k.temp + 3 ≤ entryOf 88 k.level))
  let s1 := s.modStack n (fun k => { k with level := r.1, calm := r.2 })
  if k.level < r.1 then s1.setSticky sThermalThrottle else s1

/-- Sample thermal group `g`: a near stack and its four cores (R384, R385). -/
def State.sampleGroup (s : State) (g : Nat) : State :=
  let k := s.stack g
  let cores := (List.range 4).map (fun i => Sparse.get 0 s.pwr.coreT (4 * g + i))
  let lvl := Sparse.get 0 s.pwr.level g
  let hot := cores.foldl (fun v t => max v (levelOf 98 t)) (levelOf 88 k.temp)
  let cool := decide (k.temp + 3 ≤ entryOf 88 lvl) && cores.all (fun t => decide (t + 3 ≤ entryOf 98 lvl))
  let r := stepLevel lvl (Sparse.get 0 s.pwr.calm g) hot cool
  let s1 := (s.modPwr (fun p => { p with level := Sparse.set 0 p.level g r.1, calm := Sparse.set 0 p.calm g r.2 })).modStack g (fun k =>
    { k with level := r.1 })
  if lvl < r.1 then s1.setSticky sThermalThrottle else s1

/-- The sensors at or above their trip thresholds, by the numbering of THERM_STATUS. -/
def State.tripSensors (s : State) : List Nat :=
  (List.range 97).filter (fun i =>
    if i < 32 then decide (95 ≤ (s.stack i).temp)
    else if i < 96 then decide (105 ≤ Sparse.get 0 s.pwr.coreT (i - 32))
    else decide (105 ≤ s.pwr.hubT))

/-- Every sensor lies at least 10 °C below its trip threshold (R563). -/
def State.cooled (s : State) : Bool :=
  (List.range 32).all (fun n => decide ((s.stack n).temp ≤ 85)) &&
  (List.range 64).all (fun c => decide (Sparse.get 0 s.pwr.coreT c ≤ 95)) && decide (s.pwr.hubT ≤ 95)

/-- The domains that a trip gates, marked as a trip's: a near stack's or core's thermal group, a mid or far stack alone. -/
def tripDomains (i : Nat) : List Nat :=
  let group (g : Nat) : List Nat := (List.range 4).map (fun j => 256 + 4 * g + j) ++ [256 + 64 + g]
  if i < 16 then group i else if i < 32 then [256 + 64 + i] else if i < 96 then group ((i - 32) / 4) else []

/-- The domains of some tripped sensors that neither are gated nor wait to be. -/
def State.tripDue (s : State) (l : List Nat) : List Nat :=
  (l.flatMap tripDomains).eraseDups.filter (fun d => !s.pwr.gatings.contains d &&
    !(if d % 256 < 64 then (s.core (d % 256)).gated else (s.stack (d % 256 - 64)).gated))

/-- A thermal trip (R562), by the sensors of list `l`: the first is recorded, the tripped units are gated, every flask stops,
and Chrysalis is entered under load-hold. -/
def State.thermalTrip (s : State) (l : List Nat) : State :=
  let s1 := s.setSticky sThermalThrottle
  let s2 := s1.modPwr (fun p => { p with trip := true, tripSrc := BitVec.ofNat 8 (l.headD 0) })
  if s.pwr.state = .run ∨ s.pwr.state = .idle ∨ s.pwr.state = .doze then
    s2.stopAll.modPwr (fun p => { p with
      gatings := p.gatings ++ s.tripDue l, target := some .chrysalis, later := [], wakeCause := 0, rstEntry := 7 })
  else s2

/-- More units reach the trip row while the module goes to Chrysalis: they are gated as well, and TRIPSRC names the first
sensor of one. -/
def State.tripMore (s : State) (l : List Nat) : State :=
  if s.pwr.target = some .chrysalis then
    s.modPwr (fun p => { p with
      gatings := p.gatings ++ s.tripDue l
      tripSrc := match l.find? (fun i => s.tripDue [i] != []) with
        | some i => BitVec.ofNat 8 i
        | none => p.tripSrc })
  else s

/-- THERM_N, STATUS_WORD and the maxima that the registers show. -/
def State.settleTherm (s : State) : State :=
  (s.modPwr (fun p => { p with
    thermLow := p.trip || p.level.any (fun e => decide (3 ≤ e.2))
    cmax := (List.range 64).foldl (fun v c => max v (Sparse.get 0 p.coreT c)) 0
    smax := (List.range 32).foldl (fun v n => max v (s.stack n).temp) 0 })).latch

/-- THERMAL_SAMPLE (R384): the temperatures of the 32 stacks, the 64 core junctions and the hub. -/
def execThermalSample (stackT coreT : List Nat) (hubT : Nat) (s : State) : Host.Outcome State Fault Refusal :=
  .next (if s.cocoonRuns = false then s
    else
      let s1 := (List.range 32).foldl (fun s n => s.modStack n (fun k => { k with temp := stackT.getD n k.temp })) s
      let s2 := s1.modPwr (fun p => { p with
        hubT := hubT
        coreT := (List.range 64).foldl (fun m c => Sparse.set 0 m c (coreT.getD c (Sparse.get 0 m c))) p.coreT })
      let s3 := (List.range 16).foldl (fun s g => s.sampleGroup g) s2
      let s4 := (List.range 16).foldl (fun s n => s.sampleStack (16 + n)) s3
      let trips := s4.tripSensors
      let s5 :=
        if trips = [] then (if s4.cooled then s4.modPwr (fun p => { p with trip := false }) else s4)
        else if s4.pwr.trip then s4.tripMore trips
        else s4.thermalTrip trips
      s5.settleTherm)

/-! ### Governor rows -/

/-- GOVERNOR_TICK (R550 to R557): the measured input voltage in mV and power in mW. -/
def execGovernorTick (mv mw : Nat) (s : State) : Host.Outcome State Fault Refusal :=
  .next (if s.cocoonRuns = false then s
    else
      let s1 := (s.modPwr (fun p => { p with
        vin := mv, pin := mw, iin := microAmps mw mv
        vinOk := if mv < 48000 ∨ 62000 < mv then none else some (p.vinOk.getD s.now) })).latch
      if s.pwr.state = .chrysalis ∨ s.pwr.state = .off then s1
      else (s1.gateSome.govern mv mw).tryReset)

/-- RAMP_LIMIT_TIMER (R554): the cap has held I_A below demand for 1 ms without a break. -/
def execRampLimitTimer (s : State) : Host.Outcome State Fault Refusal :=
  .next (if s.pwr.capLim = true ∧ s.pwr.capAt + 1400000 ≤ s.now then s.setSticky sRampLimited else s)

end Sys2Proof.Machine
end

