-- ==== Sys2Proof/Machine/Counters.lean ====
section
/-! DEFINITION. Performance counters: freeze, snapshot, clearing, window counters, and the mesh cycle that passes when no
command waits (chapter 19). -/

namespace Sys2Proof.Machine

/-! ### Control of the counters -/

/-- FREEZE (R579): CNT_GCTRL's bit is written. -/
def execFreeze (v : Bool) (s : State) : Host.Outcome State Fault Refusal := .next (s.setFreeze v)

/-- SNAP (R580): a copy into the snapshot buffer starts; ignored while one runs. -/
def execSnap (s : State) : Host.Outcome State Fault Refusal := .next s.startSnap

/-- Zero every general counter and its OVF (R582). -/
def State.clearCounters (s : State) : State :=
  { s with cnt := { s.cnt with
      val := []
      ctl := (s.cnt.ctl.map (fun e => (e.1, e.2 &&& 0x7FFFFFFF#32))).filter (fun e => e.2 != 0)
      clearDue := false, cleared := true } }

/-- Word `w` of the snapshot buffer (Table 19-2) as a copy that ends now leaves it. -/
def State.snapWord (s : State) (w : Nat) : Word :=
  if w = 0 then BitVec.ofNat 64 (s.cnt.snapStart % 2 ^ 48)
  else if w = 1 then BitVec.ofNat 64 (s.cnt.frzTime % 2 ^ 48)
  else if w = 2 then BitVec.ofNat 64 (s.cnt.snapSeq + 1).toNat
  else if w < 8 then 0
  else if w < 1224 then
    let k := w - 8
    BitVec.ofNat 64 ((Sparse.get 0 s.cnt.val k).toNat + fld (Sparse.get 0 s.cnt.ctl k) 31 1 * 2 ^ 48)
  else
    let x := Sparse.get ⟨0, 0, 0⟩ s.cnt.wins ((w - 1224) / 2)
    BitVec.ofNat 64 ((if w % 2 = 0 then x.last else x.peak) % 2 ^ 48)

/-- SNAP_DONE (R580, R582): the copy ends; a clear that was written during it is applied. -/
def execSnapDone (s : State) : Host.Outcome State Fault Refusal :=
  .next (if s.cnt.snapBusy then
    let words := ((List.range 1482).map (fun w => (w, s.snapWord w))).filter (fun e => e.2 != 0)
    let s1 := { s with cnt := { s.cnt with snap := words, snapBusy := false, snapSeq := s.cnt.snapSeq + 1 } }
    if s.cnt.clearDue then s1.clearCounters else s1
  else s)

/-- A write of CLRALL (R582). -/
def State.writeClrall (s : State) : State :=
  if s.cnt.snapBusy then { s with cnt := { s.cnt with clearDue := true } } else s.clearCounters

/-- CLRALL (R582). -/
def execClrall (s : State) : Host.Outcome State Fault Refusal := .next s.writeClrall

/-- The number of a general counter. -/
def counterIndex : CounterId → Nat
  | .core c n => 16 * c + n
  | .die d n => 1024 + 32 * d + n
  | .hub n => 1152 + n

/-- A write of CNT_VAL (R577, R588). -/
def State.writeCntVal (s : State) (k : Nat) (v : BitVec 48) : State :=
  { s with cnt := { s.cnt with val := Sparse.set 0 s.cnt.val k v, wrote := k :: s.cnt.wrote.erase k } }

/-- CNT_VAL_WRITE (R577): core counters need debug level Observe or Open (R588). -/
def execCntValWrite (k : CounterId) (v : BitVec 48) (s : State) : Host.Outcome State Fault Refusal :=
  .next (match k with
    | .core _ _ => if s.sec.debug = 0 then s else s.writeCntVal (counterIndex k) v
    | _ => s.writeCntVal (counterIndex k) v)

/-- A write of WLOG (R586): outside 10 to 30 it changes nothing. The window in progress is discarded, and the next begins at
the next multiple of the new length (log 74). -/
def State.writeWlog (s : State) (v : BitVec 5) : State :=
  if 10 ≤ v.toNat ∧ v.toNat ≤ 30 then 
    { s with cnt := { s.cnt with wlog := v, wins := [], winAt := s.now, winSkip := decide (s.now % 2 ^ v.toNat ≠ 0) } } else s

/-- WLOG_WRITE (R586). -/
def execWlogWrite (v : BitVec 5) (s : State) : Host.Outcome State Fault Refusal := .next (s.writeWlog v)

/-- A write of WCLR (R586): every PEAK is zeroed. -/
def State.writeWclr (s : State) : State :=
  { s with cnt := { s.cnt with
      wins := (s.cnt.wins.map (fun e => (e.1, { e.2 with peak := 0 }))).filter (fun e => e.2 != ⟨0, 0, 0⟩) } }

/-- WCLR (R586). -/
def execWclr (s : State) : Host.Outcome State Fault Refusal := .next s.writeWclr

/-- A window counter at the end of its window (R585). -/
def Win.ended (w : Win) : Win := ⟨0, w.cur, max w.peak w.cur⟩

/-- Bytes counted while no window was in progress are dropped. -/
def Win.restarted (w : Win) : Win := { w with cur := 0 }

/-- WINDOW_END (R585): the local time counter reaches a multiple of 2^WLOG; one window ends there and the next begins. -/
def execWindowEnd (s : State) : Host.Outcome State Fault Refusal :=
  .next (if s.now % 2 ^ s.cnt.wlog.toNat = 0 ∧ s.cnt.winAt ≠ s.now then
    { s with cnt := { s.cnt with
        winAt := s.now, winSkip := false
        wins := (s.cnt.wins.map (fun e => (e.1, if s.cnt.winSkip then e.2.restarted else e.2.ended))).filter
          (fun e => e.2 != ⟨0, 0, 0⟩) } }
  else s)

/-! ### Events that last (Table 19-1) -/

/-- A thread of core `k` holds an instruction for one of some reasons. -/
def Core.held (k : Core) (p : Hold → Bool) : Bool := (List.range 16).any (fun t => (k.thread t).held.any (fun h => p h.why))

/-- An instruction of the engine is within its occupancy. -/
def Engine.occupied (e : Engine) (cycle : Nat) : Bool :=
  e.flights.any (fun f => decide (f.start ≤ cycle) && decide (cycle < f.start + f.occ))

/-- The start of an engine's head is delayed by its duty alone (R386, R552). -/
def State.dutyDelays (s : State) (c u : Nat) : Bool :=
  match ((s.core c).engine u).queue with
  | [] => false
  | e :: _ =>
    let f := s.dutyOf c (classOf u)
    let start := s.startCycle c u e
    let gap := dutyGap f ((s.core c).engine u).occ
    (s.core c).tokenReady u e && decide (start ≤ s.cycle + gap) && (f == 0 || decide (s.cycle < start))

/-- The governor runs load-hold on core `c` (R555): up to 34 W a core, cores of thermal level 0 first, in ascending number. -/
def State.loadHoldOn (s : State) (c : Nat) : Bool :=
  let cool := (List.range 64).filter (fun c => s.holdsLoad c && Sparse.get 0 s.pwr.level (c / 4) == 0)
  let warm := (List.range 64).filter (fun c => s.holdsLoad c && Sparse.get 0 s.pwr.level (c / 4) != 0)
  ((cool ++ warm).take (ceilDiv s.pwr.hold 34000)).contains c

/-- A transfer of pool `pool` of core `k` waits for a tag (R341). -/
def Core.tagWait (k : Core) (pool : Nat) : Bool :=
  !k.tagFree pool && k.se.active.any (fun a => a.fault.isNone &&
    (if pool = 0 then !a.ent.op.remoteRead && decide (a.nextR < a.total)
     else if pool = 1 then !a.ent.op.remoteWrite && decide (a.nextW < a.total)
     else (a.ent.op.remoteRead && decide (a.nextR < a.total)) || (a.ent.op.remoteWrite && decide (a.nextW < a.total))))

/-- Core event `ev` of core `c` is in progress in this mesh cycle. -/
def State.coreEventNow (s : State) (c ev : Nat) : Bool :=
  let k := s.core c
  match ev with
  | 0x00 => s.domainRuns c
  | 0x03 => k.held (fun h => h == .queueFull)
  | 0x04 => k.held (fun h => match h with | .tokenPlace => true | .tokenWait _ _ => true | .signalPlace _ _ => true | _ => false)
  | 0x05 => k.held (fun h => match h with | .semWait _ _ => true | _ => false)
  | 0x06 => k.held (fun h => h == .commit)
  | 0x07 => k.heads.any (fun x => x.2.op.wen && !k.tokenReady x.1 x.2)
  | 0x10 => k.lme.occupied s.cycle
  | 0x12 => k.te.occupied s.cycle
  | 0x13 => k.ve.occupied s.cycle
  | 0x14 => s.loadHoldOn c
  | 0x15 => s.dutyDelays c 1 || s.dutyDelays c 2 || s.dutyDelays c 3
  | 0x23 => k.tagWait 0
  | 0x24 => k.tagWait 1
  | 0x25 => k.tagWait 2
  | 0x26 => k.se.active.any (fun a => a.ent.op.code == 0x7F && a.checked && a.ent.op.half 1 && decide (a.nextW < a.total))
  | _ => false

/-- The stacks that have a transfer in flight. -/
def State.stacksInFlight (s : State) : List Nat :=
  (List.range 64).flatMap (fun c => (s.core c).se.active.flatMap (fun a => a.xfers.flatMap (fun x =>
    if x.kind = .header then a.headerAcc.stack.toList
    else match a.phaseNeed s c (x.pool == 1) x.u0 with
      | .acc y => y.stack.toList
      | _ => [])))

/-- The stack's command rate is limited while it has work (R386, R552). -/
def State.stackLimited (s : State) (n : Nat) : Bool :=
  s.busyStacks.contains n && (decide (Sparse.get 0 s.pwr.duty (256 + n) < 16) || (s.stack n).level != 0)

/-- Die event `ev` of a unit of die `d` is in progress. -/
def State.dieEventNow (s : State) (d ev unit : Nat) : Bool :=
  if unit < 4 ∧ ev = 0x00 then s.stacksInFlight.contains (4 * d + unit)
  else if unit < 4 ∧ ev = 0x03 then s.stackLimited (4 * d + unit)
  else if unit < 3 ∧ ev = 0x08 then s.stacksInFlight.contains (16 + 3 * d + unit)
  else if unit < 3 ∧ ev = 0x0B then s.stackLimited (16 + 3 * d + unit)
  else false

/-- Hub event `ev` of a unit is in progress. -/
def State.hubEventNow (s : State) (ev unit : Nat) : Bool :=
  match ev with
  | 0x04 => decide (unit < 32) && (s.port unit).queue != []
  | 0x08 => decide (unit < 4) && s.stacksInFlight.contains (28 + unit)
  | 0x10 => s.cp.blocked || s.bg.isSome
  | 0x18 => s.pwr.capLim
  | 0x19 => decide (0 < s.pwr.hold)
  | 0x1A => s.sec.sp != []
  | 0x1B => s.sec.bne != [] || s.sec.bneShort != []
  | 0x1C => s.sec.sha != []
  | _ => false

/-- The event of general counter `k` is in progress. -/
def State.eventNow (s : State) (k ev unit : Nat) : Bool :=
  if k < 1024 then s.coreEventNow (k / 16) ev
  else if k < 1152 then s.dieEventNow ((k - 1024) / 32) ev unit
  else s.hubEventNow ev unit

/-- The model counts each beginning of the event where it begins; the tick does not look for it. -/
def beginsCounted (k ev : Nat) : Bool :=
  if k < 1024 then [0x03, 0x04, 0x05, 0x06, 0x10, 0x12, 0x13, 0x15].contains ev else if k < 1152 then false else
    ev == 0x04 || ev == 0x10

/-- One counter in one mesh cycle: an event in progress adds 1 in LEVEL mode, and one that begins now adds 1 in EDGE mode. -/
def State.tickCounter (s : State) (k : Nat) (w : BitVec 32) : State :=
  let ev := fld w 0 8
  let on := s.eventNow k ev (fld w 8 8)
  let was := Sparse.get false s.cnt.live k
  let s1 :=
    if fld w 16 2 = 2 ∧ on = true then s.bump k 1
    else if fld w 16 2 = 1 ∧ on = true ∧ was = false ∧ beginsCounted k ev = false then s.bump k 1 else s
  { s1 with cnt := { s1.cnt with live := Sparse.set false s1.cnt.live k on } }

/-- Every counter in one mesh cycle; none counts while FREEZE is set (R579). -/
def State.tickCounters (s : State) : State :=
  if s.cnt.freeze then s else s.cnt.ctl.foldl (fun s e => s.tickCounter e.1 e.2) s

/-- The no-progress timers of flasks with a halted core stand still (R542). -/
def State.holdTimers (s : State) (dt : Nat) : State :=
  { s with flasks := s.flasks.map (fun e =>
      if e.2.stage = .running ∧ (e.2.map.any (fun c => (s.core c).haltreq)) = true then
        (e.1, { e.2 with lastProgress := e.2.lastProgress + dt }) else e) }

/-- Time passes (R587): one mesh cycle, or one cocoon cycle, counted as four, while the mesh clock is stopped. -/
def State.tick (s : State) : State :=
  let passed (t : State) (n : Nat) : State := { t with now := s.now + n, cnt := { t.cnt with wrote := [], cleared := false } }
  if s.hubRuns then (passed s.tickCounters 1).holdTimers 1
  else if s.cocoonRuns then passed s 4
  else s

end Sys2Proof.Machine
end

