-- ==== Sys2Proof/Machine/Regs.lean ====
section
/-! DEFINITION. The register space: the value of every register, who may reach it, and what a write does (Table 1-8, R8,
R281, R392, R415, R448, R470, R486, R512, R543, R573, R588). -/

namespace Sys2Proof.Machine

/-! ### Addresses -/

/-- A block of the register space (Table 1-8) with the offset inside it. -/
inductive RegAt
  | core (c off : Nat)
  | die (d off : Nat)
  | hub (off : Nat)
  | cocoon (off : Nat)
  | snap (off : Nat)
  | outside
deriving DecidableEq, Repr

/-- The block that an offset of space 0x8 lies in (R23). -/
def regAt (off : Nat) : RegAt :=
  if off < 0x400000 then .core (off / 0x10000) (off % 0x10000)
  else if 0x1000000 ≤ off ∧ off < 0x1040000 then .die ((off - 0x1000000) / 0x10000) (off % 0x10000)
  else if 0x2000000 ≤ off ∧ off < 0x2100000 then .hub (off - 0x2000000)
  else if 0x3000000 ≤ off ∧ off < 0x3010000 then .cocoon (off - 0x3000000)
  else if 0x4000000 ≤ off ∧ off < 0x4004000 then .snap (off - 0x4000000)
  else .outside

/-- The index of the entry that an offset names in an array of `n` entries, `stride` apart, from `base` on. -/
def entryAt (off base stride n : Nat) : Option Nat :=
  if base ≤ off ∧ off < base + stride * n ∧ (off - base) % stride = 0 then some ((off - base) / stride) else none


/-- Eight bytes of a list, as word `n`. -/
def wordOf (l : List Byte) (n : Nat) : Nat := leAt l (8 * n) 8

/-! ### Memory registers (Table 12-7) -/

/-- Lost blocks with a key in [lo, lo + len), in either version. -/
def State.lostIn (s : State) (lo len : Nat) : Nat :=
  let mine (e : Nat × Bool) : Bool := decide (lo ≤ 64 * e.1) && decide (64 * e.1 < lo + len)
  let a := (s.lost.filter mine).map (·.1)
  a.length + (((s.workLost.filter mine).map (·.1)).filter (fun b => !a.contains b)).length

/-- Word `w` of the status registers of stack `n`: 0 STATUS, 1 ERR, 2 on MAP. -/
def State.stackReg (s : State) (n w : Nat) : Nat :=
  let k := s.stack n
  if w = 0 then
    k.temp % 256 * 2 ^ 40 + k.level % 8 * 2 ^ 37 + bitNat k.moving.isSome 36 + (if s.stackAsleep n then 3 else k.st % 16) * 2 ^ 32 +
      s.margin n % 16 * 2 ^ 12 + k.used % 16 * 2 ^ 8 + min 255 k.dead.length
  else if w = 1 then
    min k.ce (2 ^ 32 - 1) * 2 ^ 32 + min k.ue 0xFFFF * 2 ^ 16 + min 0xFFFF (s.lostIn (stackKey n) (2 ^ 37))
  else (List.range 64).foldl (fun v i =>
    v + bitNat ((k.mapped ++ k.dead).contains (64 * (w - 2) + i)) i) 0

/-- MEM_AVAIL of tier `t` (R383). -/
def State.memAvail (s : State) (t : Nat) : Nat :=
  match s.mould with
  | none => 0
  | some _ =>
    let (first, count, channels, size) :=
      if t = 0 then (0, 16, 256, 2 ^ 29) else if t = 1 then (16, 12, 64, 2 ^ 31) else (28, 4, 32, 2 ^ 32)
    ((List.range count).map (fun i =>
      if (s.stack (first + i)).dead = [] then (channels - s.margin (first + i)) * size else 0)).sum

/-! ### The blocks -/

/-- CNT_CTL or CNT_VAL of general counter `k`. -/
def State.counterReg (s : State) (k : Nat) (val : Bool) : Nat :=
  if val then (Sparse.get 0 s.cnt.val k).toNat else (Sparse.get 0 s.cnt.ctl k).toNat

/-- A register of core `c` (Tables 9-9, 12-7, 17-8, 19-3); none where no register lies. -/
def State.coreReg (s : State) (c off : Nat) : Option Nat :=
  let k := s.core c
  let threads (p : Thread → Bool) : Nat := (List.range 16).foldl (fun v t => v + bitNat (p (k.thread t)) t) 0
  let busy := k.lme.flights != [] || k.te.flights != [] || k.ve.flights != [] || k.se.active != []
  match entryAt off 0x100 8 64, entryAt off 0x800 8 32 with
  | some q, _ => some ((k.tokq q).reserved % 64 * 2 ^ 8 + (k.tokq q).count % 64)
  | _, some n => some (s.counterReg (16 * c + n / 2) (n % 2 == 1))
  | none, none =>
    match off with
    | 0x0000 => some (bitNat k.hazchk 0)
    | 0x0008 => some (bitNat busy 32 + threads Thread.isHalted * 2 ^ 16 + threads (fun x => x.run == .stall))
    | 0x0010 => some (k.faultUnit.toNat * 2 ^ 20 + k.faultThread.toNat * 2 ^ 16 + k.faultCode.toNat)
    | 0x0018 => some k.faultPc.toNat
    | 0x0020 => some k.faultWord.toNat
    | 0x0040 => some (bitNat (k.haltreq && !busy) 1 + bitNat k.haltreq 0)
    | 0x0400 => some k.pwr.toNat
    | 0x0408 => some (min k.spadCe (2 ^ 32 - 1) * 2 ^ 32 + min k.spadUe 0xFFFF * 2 ^ 16 +
        min 0xFFFF (s.lostIn (memKey 3 (c * 2 ^ 25)) (2 ^ 25)))
    | 0x0900 => some (k.satSe.toNat * 2 ^ 32 + k.satVe.toNat)
    | _ => none

/-- A register of compute die `d` (Tables 12-7, 19-3). -/
def State.dieReg (s : State) (d off : Nat) : Option Nat :=
  match entryAt off 0x1000 8 32, entryAt off 0x1100 8 24, entryAt off 0x2000 8 64 with
  | some i, _, _ => if i % 8 < 6 then some (s.stackReg (4 * d + i / 8) (i % 8)) else none
  | _, some i, _ => if i % 8 < 3 then some (s.stackReg (16 + 3 * d + i / 8) (i % 8)) else none
  | _, _, some n => some (s.counterReg (1024 + 32 * d + n / 2) (n % 2 == 1))
  | _, _, _ => none

/-- A register of fabric port `p` (Table 14-6). -/
def State.portReg (s : State) (p w : Nat) : Nat :=
  let k := s.port p
  match w with
  | 0 => k.laneFail.toNat * 2 ^ 40 + bitNat (k.st == 4 && k.enc) 38 + bitNat k.naddrv 37 + k.nport.toNat * 2 ^ 32 +
      k.naddr.toNat * 2 ^ 16 + k.st % 16
  | 1 => bitNat k.encrypt 1 + bitNat k.en 0
  | 2 => min k.retry 0xFFFF * 2 ^ 48 + min k.crcerr 0xFFFF * 2 ^ 32 + min k.fecunc 0xFFFF * 2 ^ 16 + min k.authfail 0xFFFF
  | _ => k.corr % 2 ^ 64

/-- STATE of CP_STATUS. -/
def linkCode : LinkSt → Nat
  | .down => 0
  | .locking => 1
  | .sync => 2
  | .up => 3

/-- A hub register by its offset alone (Tables 12-7, 13-13, 14-6, 15-9, 19-3). -/
def State.hubSingle (s : State) (off : Nat) : Option Nat :=
  match off with
  | 0x8200 => some (s.memAvail 0)
  | 0x8208 => some (s.memAvail 1)
  | 0x8210 => some (s.memAvail 2)
  | 0x8218 => some (min 64 s.mapFuse.length)
  | 0x9000 => some (s.mouldStatus.entry.toNat * 2 ^ 32 + s.mouldStatus.sectype.toNat * 2 ^ 24 +
      s.mouldStatus.secidx.toNat * 2 ^ 16 + s.mouldStatus.reason.toNat * 2 ^ 8 + s.mouldStatus.stage.toNat * 2 + bitNat s.mould.isSome 0)
  | 0x9008 => some s.staged.length
  | 0x9010 => some s.mouldCount.toNat
  | 0xA000 => some (s.fab.lsaSeq.toNat * 2 ^ 32 + s.fab.nreach % 2 ^ 13 * 2 ^ 16 + bitNat s.fab.dup 13 + bitNat s.fab.addrv 12 +
      (if s.fab.addrv then s.fab.addr.toNat else 0))
  | 0xB000 => some (min 1023 (s.cp.ready.filter (fun g => g.type == 0x12#8)).length * 2 ^ 14 + min 1023 s.cp.held.length * 2 ^ 4 +
      linkCode s.cp.st)
  | 0xB008 => some (min s.cp.downs 0xFFFF * 2 ^ 48 + min s.cp.resends 0xFFFF * 2 ^ 32 + min s.cp.naks 0xFFFF * 2 ^ 16 +
      min s.cp.discards 0xFFFF)
  | 0xC800 => some (s.cnt.trig.toNat * 2 ^ 4 + bitNat s.cnt.freeze 0)
  | 0xC808 => some (s.cnt.snapSeq.toNat * 2 ^ 32 + bitNat s.cnt.snapBusy 1 + bitNat s.cnt.freeze 0)
  | 0xC810 => some s.cnt.wlog.toNat
  | _ => none

/-- A hub register of an array. -/
def State.hubArray (s : State) (off : Nat) : Option Nat :=
  match entryAt off 0x8000 8 32, entryAt off 0x9040 8 8, entryAt off 0x9080 8 16, entryAt off 0xA100 8 128,
    entryAt off 0xC000 8 128, entryAt off 0xD000 8 258 with
  | some i, _, _, _, _, _ => if i % 8 < 3 then some (s.stackReg (28 + i / 8) (i % 8)) else none
  | _, some n, _, _, _, _ => some (wordOf s.digest n)
  | _, _, some n, _, _, _ => some (((s.chain (n / 2)).map (fun c => wordOf c.fprint (n % 2))).getD 0)
  | _, _, _, some i, _, _ => some (s.portReg (i / 4) (i % 4))
  | _, _, _, _, some n, _ => some (s.counterReg (1152 + n / 2) (n % 2 == 1))
  | _, _, _, _, _, some n =>
    let w := Sparse.get ⟨0, 0, 0⟩ s.cnt.wins (n / 2)
    some ((if n % 2 = 0 then w.last else w.peak) % 2 ^ 48)
  | _, _, _, _, _, _ => none

/-- A hub register. -/
def State.hubReg (s : State) (off : Nat) : Option Nat :=
  match s.hubSingle off with
  | some v => some v
  | none => s.hubArray off

/-- ERR_CORE of core `c` (Table 16-5). -/
def State.errCoreReg (s : State) (c : Nat) : Nat :=
  let e := s.errCore c
  bitNat e.fenced 63 + bitNat (s.coreFuse.contains c) 62 + e.cause.toNat * 2 ^ 8 + min e.count 255

/-- ERR_FLASK of flask `f` (Table 16-5); zero for a flask that the mould lacks. -/
def State.errFlaskReg (s : State) (f : Nat) : Nat :=
  let x := s.flask f
  min x.replays (2 ^ 32 - 1) * 2 ^ 32 + x.shares.length % 256 * 2 ^ 16 + (x.spares.filter (fun c => !s.fenced c)).length * 2 ^ 8 +
    (x.map.eraseDups.filter (fun c => !s.fenced c)).length

/-- SPJOB of SEC_STATUS. -/
def spCode : List SpJob → Nat
  | [] => 0
  | .sign :: _ => 1
  | .ecdh _ :: _ => 2
  | .fuse :: _ => 3

/-- Clock domains [64 w, 64 w + 64) that satisfy a condition. -/
def domainWord (p : Nat → Bool) (w : Nat) : Nat :=
  (List.range 64).foldl (fun v i => v + bitNat (decide (64 * w + i < 100) && p (64 * w + i)) i) 0

/-- A cocoon register by its offset alone (Tables 16-5, 17-8, 18-9, 19-3). -/
def State.cocoonSingle (s : State) (off : Nat) : Option Nat :=
  match off with
  | 0x0000 => some s.err.sticky.toNat
  | 0x0008 => some s.err.eccInfo.toNat
  | 0x0010 => some s.err.eccAddr.toNat
  | 0x0018 => some s.err.eccTime.toNat
  | 0x0020 => some s.err.fenceInfo.toNat
  | 0x0028 => some s.err.fenceTime.toNat
  | 0x0030 => some s.err.linkInfo.toNat
  | 0x0038 => some s.err.linkTime.toNat
  | 0x0040 => some s.err.permInfo.toNat
  | 0x0048 => some s.err.permTime.toNat
  | 0x0380 => some (min s.err.meshRetries (2 ^ 32 - 1) * 2 ^ 32 + min s.err.meshFailed 0xFFFF)
  | 0x1000 => some (spCode s.sec.sp * 2 ^ 20 + min 15 (s.sec.bne.length + s.sec.bneShort.length) * 2 ^ 16 + bitNat s.sec.dbgSeen 5 +
      s.sec.debug % 4 * 2 ^ 2 + s.sec.lifecycle % 4)
  | 0x1008 => some s.sec.serial.toNat
  | 0x2000 => some (min 0xFFFF (s.pwr.vin / 10) * 2 ^ 48 + min 0xFFFF (s.pwr.iin / 1000) * 2 ^ 32 + bitNat s.changing 8 +
      s.powerCode)
  | 0x2008 => some (min 0xFFFF (s.pwr.admitted / 1000) * 2 ^ 48 + min 0xFFFF (s.pwr.pDem / 1000) * 2 ^ 32 +
      min 0xFFFF (s.pwr.hold / 1000) * 2 ^ 16 + bitNat s.pwr.capLim 1 + bitNat (decide (0 < s.pwr.hold)) 0)
  | 0x2010 => some (s.pwr.slew % 256 * 2 ^ 16 + s.pwr.pcap % 2 ^ 16)
  | 0x2018 => some (s.pwr.rstEntry.toNat * 2 ^ 4 + s.pwr.rstCause.toNat)
  | 0x2020 => some (domainWord (fun d => s.pwr.clken.getLsbD d) 0)
  | 0x2028 => some (domainWord (fun d => s.pwr.clken.getLsbD d) 1)
  | 0x2030 => some (domainWord s.domainRuns 0)
  | 0x2038 => some (domainWord s.domainRuns 1)
  | 0x2040 => some (s.pwr.tripSrc.toNat * 2 ^ 40 + bitNat s.pwr.trip 39 + s.pwr.hubT % 256 * 2 ^ 16 + s.pwr.cmax % 256 * 2 ^ 8 +
      s.pwr.smax % 256)
  | 0x3000 => some (s.now % 2 ^ 48)
  | _ => none

/-- A cocoon register of an array. -/
def State.cocoonArray (s : State) (off : Nat) : Option Nat :=
  match entryAt off 0x0100 8 64, entryAt off 0x0300 8 16, entryAt off 0x1040 8 8, entryAt off 0x1080 8 4 with
  | some c, _, _, _ => some (s.errCoreReg c)
  | _, some f, _, _ => some (s.errFlaskReg f)
  | _, _, some n, _ => some (wordOf s.sec.ownerHash n)
  | _, _, _, some n => some (wordOf s.sec.nonce n)
  | _, _, _, _ => none

/-- A cocoon register. -/
def State.cocoonReg (s : State) (off : Nat) : Option Nat :=
  match s.cocoonSingle off with
  | some v => some v
  | none => s.cocoonArray off

/-- The value of a register, without regard to who asks. -/
def State.regValue (s : State) : RegAt → Option Nat
  | .core c off => s.coreReg c off
  | .die d off => s.dieReg d off
  | .hub off => s.hubReg off
  | .cocoon off => s.cocoonReg off
  | .snap off => some ((Sparse.get 0 s.cnt.snap (off / 8)).toNat)
  | .outside => none

/-! ### Rights, reads and writes (R470, Table 17-6) -/

/-- A write of this core register needs level Open: every one but SEQ_CTRL and the counters. -/
def openOnly (off : Nat) : Bool := off != 0 && !(decide (0x800 ≤ off) && decide (off ≤ 0x900))

/-- The debug level grants the access. -/
def State.regGranted (s : State) (write : Bool) : RegAt → Bool
  | .core _ off => if write = true ∧ openOnly off = true then s.sec.debug == 2 else s.sec.debug != 0
  | .snap _ => s.sec.debug != 0
  | _ => true

/-- The power state leaves the register within reach: in Doze the core blocks are without power, and no register is reached
in Chrysalis (Table 17-10). -/
def State.regPowered (s : State) : RegAt → Bool
  | .core _ _ => s.pwr.state == .run || s.pwr.state == .idle
  | _ => s.pwr.state != .chrysalis

/-- Read the register at an offset of space 0x8: its value, or the status of the first check that fails (R464, R470). -/
def State.readReg (s : State) (off : Nat) : Except (BitVec 8) Word :=
  let a := regAt off
  if off % 8 ≠ 0 then .error 0x03
  else if s.regGranted false a = false then .error 0x05
  else if s.regPowered a = false then .error 0x06
  else match s.regValue a with
    | some v => .ok (BitVec.ofNat 64 v)
    | none => .error 0x0C

/-- Write CNT_CTL of general counter `k` (R8, R575, R577): OVF is RW1C; an event already in progress does not begin again. -/
def State.writeCntCtl (s : State) (k : Nat) (v : Word) : State :=
  let old := Sparse.get 0 s.cnt.ctl k
  let w : BitVec 32 := BitVec.ofNat 32 (fld v 0 18 + bitNat (bitAt old 31 && !bitAt v 31) 31)
  { s with cnt := { s.cnt with
      ctl := Sparse.set 0 s.cnt.ctl k w, live := Sparse.set false s.cnt.live k (s.eventNow k (fld v 0 8) (fld v 8 8)) } }

/-- Write CNT_CTL or CNT_VAL of general counter `k`. -/
def State.writeCounter (s : State) (k : Nat) (val : Bool) (v : Word) : State :=
  if val then s.writeCntVal k (v.setWidth 48) else s.writeCntCtl k v

/-- Write CNT_GCTRL (R579 to R583): FREEZE and TRIG, then SNAP, then CLRALL. -/
def State.writeGctrl (s : State) (v : Word) : State :=
  let s1 := State.setFreeze { s with cnt := { s.cnt with trig := BitVec.ofNat 2 (fld v 4 2) } } (bitAt v 0)
  let s2 := if bitAt v 1 then s1.startSnap else s1
  if bitAt v 2 then s2.writeClrall else s2

/-- Write CNT_WCTRL (R586). -/
def State.writeWctrl (s : State) (v : Word) : State :=
  let s1 := s.writeWlog (BitVec.ofNat 5 (fld v 0 5))
  if bitAt v 7 then s1.writeWclr else s1

/-- Write FAB_PORT_CTRL of port `p` (R448). -/
def State.writePortCtrl (s : State) (p : Nat) (v : Word) : State :=
  (s.modPort p (fun k => { k with encrypt := bitAt v 1 })).writePortEn p (bitAt v 0)

/-- The effect of a write on a register that exists: the RW, WO and RW1C fields act, and everything else ignores it (R8). -/
def State.putReg (s : State) (v : Word) : RegAt → State
  | .core c off =>
    match entryAt off 0x800 8 32 with
    | some n => s.writeCounter (16 * c + n / 2) (n % 2 == 1) v
    | none =>
      if off = 0 then s.modCore c (fun k => { k with hazchk := bitAt v 0 })
      else if off = 0x40 then s.writeHaltreq c (bitAt v 0)
      else s
  | .die d off =>
    match entryAt off 0x2000 8 64 with
    | some n => s.writeCounter (1024 + 32 * d + n / 2) (n % 2 == 1) v
    | none => s
  | .hub off =>
    match entryAt off 0xA108 0x20 32, entryAt off 0xC000 8 128 with
    | some p, _ => s.writePortCtrl p v
    | _, some n => s.writeCounter (1152 + n / 2) (n % 2 == 1) v
    | none, none => if off = 0xC800 then s.writeGctrl v else if off = 0xC810 then s.writeWctrl v else s
  | _ => s

/-- The register belongs to ERR_RECORD, which only ERR_CLEAR writes (R470, R512). -/
def ofErrRecord : RegAt → Bool
  | .cocoon off => decide (off ≤ 0x380)
  | _ => false

/-- Write the register at an offset of space 0x8: the state after it, or the status of the first check that fails (R470). -/
def State.writeReg (s : State) (off : Nat) (v : Word) : Except (BitVec 8) State :=
  let a := regAt off
  if off % 8 ≠ 0 then .error 0x03
  else if s.regGranted true a = false then .error 0x05
  else if s.regPowered a = false then .error 0x06
  else if (s.regValue a).isNone = true ∨ ofErrRecord a = true then .error 0x0C
  else .ok (s.putReg v a)

end Sys2Proof.Machine
end

