-- ==== Sys2Proof/Machine/Control.lean ====
section
/-! DEFINITION. The control port's commands: acceptance, the record of commands, order, the checks of R464, and what each
command does (R461 to R483). -/

namespace Sys2Proof.Machine

/-! ### The command set (Table 15-5) -/

/-- The opcode is in Table 15-5. -/
def cmdListed (op : BitVec 8) : Bool :=
  [0x01#8, 0x02, 0x10, 0x11, 0x12, 0x13, 0x20, 0x21, 0x30, 0x31, 0x32, 0x40, 0x41, 0x42, 0x43, 0x50, 0x51].contains op

/-- The command is of class background. -/
def cmdBackground (op : BitVec 8) : Bool := [0x21#8, 0x40, 0x41, 0x42, 0x43, 0x50].contains op

/-- The command is repeatable. -/
def cmdRepeatable (op : BitVec 8) : Bool := [0x01#8, 0x10, 0x12, 0x40].contains op

/-- A Decommissioned module accepts the command. -/
def cmdAlways (op : BitVec 8) : Bool := [0x01#8, 0x02, 0x12, 0x21, 0x50, 0x51].contains op

/-- LEN is as Table 15-8 requires (R464, step 2). -/
def cmdLenOk (op : BitVec 8) (n : Nat) : Bool :=
  match op.toNat with
  | 0x01 | 0x21 => n == 0
  | 0x02 | 0x12 | 0x31 | 0x32 | 0x50 | 0x51 => n == 8
  | 0x10 | 0x13 => n == 16
  | 0x11 | 0x20 => decide (17 ≤ n) && decide (n ≤ 4096)
  | 0x30 => n == 32
  | 0x40 => n == 64
  | 0x41 => n == 16 || n == 272
  | 0x42 | 0x43 => n == 148
  | _ => true

/-- RSV fields are zero and values lie in their ranges (R464, step 3). -/
def cmdFieldsOk (op : BitVec 8) (p : List Byte) : Bool :=
  match op.toNat with
  | 0x10 => zeroIn p 12 16 && decide (1 ≤ leAt p 8 4) && decide (leAt p 8 4 ≤ 4096)
  | 0x11 => zeroIn p 8 16
  | 0x12 | 0x13 => leAt p 0 8 % 8 == 0
  | 0x20 => zeroIn p 4 16 && decide (leAt p 0 4 + (p.length - 16) ≤ 2 ^ 26)
  | 0x30 => decide (leAt p 0 1 < 16) && zeroIn p 1 4 && zeroIn p 12 16
  | 0x31 | 0x32 => decide (leAt p 0 1 < 16) && zeroIn p 1 8
  | 0x41 => decide (leAt p 0 1 ≤ 2) && zeroIn p 1 16
  | 0x42 => leAt p 0 4 == 0x4F574E45 && zeroIn p 4 16
  | 0x43 => leAt p 0 4 == 0x44434F4D && zeroIn p 4 16
  | 0x50 => decide (leAt p 0 1 ≤ 3) && zeroIn p 1 8
  | 0x51 => leAt p 0 4 == 0x57525354 && zeroIn p 4 8
  | _ => true

/-- The lifecycle state allows the command (R464, step 4). -/
def State.lifecycleAllows (s : State) (op : BitVec 8) : Bool :=
  if s.sec.lifecycle = 2 then cmdAlways op
  else if op = 0x42#8 then s.sec.lifecycle == 0
  else if op = 0x43#8 then s.sec.lifecycle == 1
  else true

/-! ### Addresses of MEM_READ and MEM_WRITE (R467) -/

/-- A global address with its parts (R17). -/
structure CmdAddr where
  module : Nat
  space : Nat
  off : Nat
  len : Nat
deriving DecidableEq, Repr

/-- The address and length of a MEM_READ or MEM_WRITE. -/
def cmdAddr (op : BitVec 8) (p : List Byte) : CmdAddr :=
  let a : Word := BitVec.ofNat 64 (leAt p 0 8)
  ⟨fld a 52 12, fld a 48 4, fld a 0 48, if op = 0x10#8 then leAt p 8 4 else p.length - 16⟩

/-- The power state withholds a byte of the span (R390, R471): tiers in self-refresh, and in Doze the scratchpads outside
RETAINED partitions and the engine buffers. -/
def State.addrAsleep (s : State) (a : CmdAddr) : Bool :=
  if s.isLocal a.module = false ∨ spaceSize a.space < a.off + a.len then false
  else if a.space < 3 then
    ((List.range ((a.off + a.len - 1) / 2 ^ 37 - a.off / 2 ^ 37 + 1)).any (fun i =>
      (stackOf (memKey a.space ((a.off / 2 ^ 37 + i) * 2 ^ 37))).any (fun x => s.stackAsleep x.1)))
  else if s.pwr.state ≠ .doze then false
  else if a.space = 3 then
    (List.range ((a.off + a.len - 1) / 2 ^ 21 - a.off / 2 ^ 21 + 1)).any (fun i =>
      (s.group ((a.off / 2 ^ 21 + i) / 16) ((a.off / 2 ^ 21 + i) % 16)).1 != 2)
  else a.space == 4

/-- Offset `off` of a tier lies in a stack's margin (R375) or in a line of a dead channel (R381). -/
def State.offLimits (s : State) (sp off : Nat) : Bool :=
  match stackOf (memKey sp off) with
  | some (n, c) =>
    decide (2 ^ 37 - s.margin n * (2 ^ 37 / c) ≤ off % 2 ^ 37) || s.deadLine (memKey sp off)
  | none => false

/-- The span lies on this module, within the space's valid offsets, in no margin, dead channel or UNUSED group (R363,
R467). -/
def State.addrOk (s : State) (a : CmdAddr) : Bool :=
  s.isLocal a.module && decide (a.space ≤ 4) && decide (a.off + a.len ≤ spaceSize a.space) &&
  (if a.space < 3 then
    (List.range ((a.off + a.len - 1) / 512 - a.off / 512 + 1)).all (fun i => !s.offLimits a.space ((a.off / 512 + i) * 512))
   else if a.space = 3 then
    (List.range ((a.off + a.len - 1) / 2 ^ 21 - a.off / 2 ^ 21 + 1)).all (fun i =>
      (s.group ((a.off / 2 ^ 21 + i) / 16) ((a.off / 2 ^ 21 + i) % 16)).1 != 3)
   else true)

/-! ### Engine buffers by command (Table 1-7, R22, R96) -/

/-- What an offset of a core's engine-buffer block names: bytes of a tile or buffer by tile code, or digits of a B tile. -/
inductive BufAt
  | tile (t off : Nat)
  | digits (t off : Nat)
  | buffer (t off : Nat)
  | nothing
deriving DecidableEq, Repr

/-- Table 1-7. -/
def bufAt (o : Nat) : BufAt :=
  if o < 0x40000 then .tile (4 + o / 0x10000) (o % 0x10000)
  else if o < 0x60000 then .digits 0xC (o - 0x40000)
  else if o < 0x80000 then .digits 0xD (o - 0x60000)
  else if o < 0x100000 then .nothing
  else if o < 0x200000 then .tile 0xA (o - 0x100000)
  else if o < 0x300000 then .tile 0xB (o - 0x200000)
  else if o < 0x400000 then .nothing
  else if o < 0x480000 then .buffer 0xE (o - 0x400000)
  else if o < 0x500000 then .buffer 0xF (o - 0x480000)
  else if o < 0x600000 then .buffer ((o - 0x500000) / 0x40000) ((o - 0x500000) % 0x40000)
  else .nothing

/-- A byte of space 0x4. -/
def State.readBuf (s : State) (off : Nat) : Byte :=
  let a := (s.core (off / 2 ^ 23)).arch
  match bufAt (off % 2 ^ 23) with
  | .tile t o => Sparse.get 0 (Sparse.get Tile.init a.tiles t).data o
  | .digits t o =>
    let m := (Sparse.get Tile.init a.tiles t).cells
    let cell (c : Nat) : BCell := Sparse.get BCell.zero m (512 * (o / 256) + c)
    (cell (2 * (o % 256) + 1)).digit ++ (cell (2 * (o % 256))).digit
  | .buffer t o => Sparse.get 0 (Sparse.get Buf.init a.bufs t).data o
  | .nothing => 0

/-- Write a byte of space 0x4; a B tile keeps the attributes of its cells, which are not mapped (R96). -/
def State.writeBuf (s : State) (off : Nat) (b : Byte) : State :=
  let onTile (t : Nat) (f : Tile → Tile) : State := s.modCore (off / 2 ^ 23) (fun k => k.modArch (fun a =>
    { a with tiles := Sparse.modify Tile.init a.tiles t f }))
  match bufAt (off % 2 ^ 23) with
  | .tile t o => onTile t (fun x => { x with data := Sparse.set 0 x.data o b })
  | .digits t o =>
    let at' (c : Nat) : Nat := 512 * (o / 256) + 2 * (o % 256) + c
    onTile t (fun x =>
      let m := Sparse.modify BCell.zero x.cells (at' 0) (fun y => { y with digit := BitVec.ofNat 4 (fld b 0 4) })
      { x with cells := Sparse.modify BCell.zero m (at' 1) (fun y => { y with digit := BitVec.ofNat 4 (fld b 4 4) }) })
  | .buffer t o => s.modCore (off / 2 ^ 23) (fun k => k.modArch (fun a =>
    { a with bufs := Sparse.modify Buf.init a.bufs t (fun x => { x with data := Sparse.set 0 x.data o b }) }))
  | .nothing => s

/-- Write bytes of space 0x4 from an offset on. -/
def State.writeBufs (s : State) (off : Nat) : List Byte → State
  | [] => s
  | b :: r => State.writeBufs (s.writeBuf off b) (off + 1) r

/-- The core and tile of a byte of space 0x4. -/
def tileAt (off : Nat) : Option (Nat × Nat) :=
  match bufAt (off % 2 ^ 23) with
  | .tile t _ | .digits t _ => some (off / 2 ^ 23, t)
  | _ => none

/-- A write to space 0x4 has landed in a tile: its latches are empty (R109), and a B tile's BMAG is set anew (R115). -/
def Core.tileLanded (k : Core) (t : Nat) : Core :=
  ((if isB t then k.bmags t else []).foldl (fun k m =>
    k.modTile m.1 (fun x => { x with mag := Sparse.set 0 x.mag m.2.1 m.2.2 })) k).dropLatch t

/-- A write of bytes to space 0x4, with what it does to the tiles it reaches. -/
def State.bufWrite (s : State) (off : Nat) (d : List Byte) : State :=
  (((List.range d.length).filterMap (fun i => tileAt (off + i))).eraseDups).foldl
    (fun s x => s.modCore x.1 (fun k => k.tileLanded x.2)) (s.writeBufs off d)

/-- Bytes cross a memory port for a command (R584). -/
def State.cmdCross (s : State) (a : CmdAddr) : State := if a.space < 3 then s.targetCross a.space a.off a.len else s

/-- A checked read by command or debug: the bytes, or none on an error (R367, R468, R469). -/
def State.readMem (s : State) (a : CmdAddr) (found : List (Nat × EccFind)) : State × Option (List Byte) :=
  if a.space = 4 then (s, some ((List.range a.len).map (fun i => s.readBuf (a.off + i))))
  else (s.cmdCross a).readSpans .other found 2 0 [(memKey a.space a.off, a.len)]

/-- A checked write by command or debug; false on an error, and then nothing is written (R468, R469, R603). -/
def State.writeMem (s : State) (a : CmdAddr) (d : List Byte) (found : List (Nat × EccFind)) : State × Bool :=
  if a.space = 4 then (s.bufWrite a.off d, true)
  else (s.cmdCross a).writeSpans .other found 2 0 [(memKey a.space a.off, d)]

/-- The span meets a version-buffered region whose flask runs a pour (R468). -/
def State.vbBusy (s : State) (a : CmdAddr) : Bool :=
  decide (a.space < 3) && (blocksOf (memKey a.space a.off) a.len).any (fun b => (s.vbOwner (64 * b)).any s.pourOn)

/-! ### The checks of R464 -/

/-- A MEM_READ or MEM_WRITE. -/
def isMem (op : BitVec 8) : Bool := op == 0x10#8 || op == 0x11#8

/-- A DEBUG_LEVEL raises the level to Open. -/
def State.raisesOpen (s : State) (op : BitVec 8) (p : List Byte) : Bool := op == 0x41#8 && leAt p 0 1 == 2 && s.sec.debug != 2

/-- A background command of one of these opcodes runs. -/
def State.bgIs (s : State) (ops : List (BitVec 8)) : Bool := s.bg.any (fun g => ops.contains g.opcode)

/-- The power state withholds the command or the space it addresses (step 6, R390, R408, R474, R538). -/
def State.powerDenies (s : State) (op : BitVec 8) (p : List Byte) : Bool :=
  if isMem op then s.addrAsleep (cmdAddr op p)
  else if op = 0x21#8 ∨ op = 0x30#8 ∨ s.raisesOpen op p = true then s.pwr.state != .run && s.pwr.state != .idle
  else false

/-- A conflicting command, commit, pour or background operation is in progress (step 7; R462, R472 to R474, R479, R482,
R483, R518, R520, R571). -/
def State.busyFor (s : State) (op : BitVec 8) (p : List Byte) : Bool :=
  let anyPour := s.pours != []
  (cmdBackground op && s.bg.isSome) ||
  (s.bgIs [0x21#8] && (op == 0x20#8 || op == 0x30#8 || isMem op)) ||
  (s.pwr.boot == .training && ((isMem op && decide ((cmdAddr op p).space < 3)) || [0x21#8, 0x42, 0x43].contains op)) ||
  (anyPour && ([0x21#8, 0x42, 0x43].contains op || (op == 0x50#8 && leAt p 0 1 != 0) || s.raisesOpen op p)) ||
  (op == 0x30#8 && (s.bgIs [0x41#8, 0x42, 0x43, 0x50] || s.pwr.target.isSome)) ||
  (op == 0x51#8 && s.bg.any Bg.past)

/-- Steps 1 to 7 of R464: the status of the first that fails. -/
def State.cmdChecks (s : State) (op : BitVec 8) (p : List Byte) : Option (BitVec 8) :=
  if cmdListed op = false then some 0x01
  else if cmdLenOk op p.length = false then some 0x02
  else if cmdFieldsOk op p = false then some 0x03
  else if s.lifecycleAllows op = false then some 0x04
  else if isMem op = true ∧ (cmdAddr op p).space = 4 ∧ s.sec.debug ≠ 2 then some 0x05
  else if s.powerDenies op p then some 0x06
  else if s.busyFor op p then some 0x07
  else none

/-! ### What each command does -/

/-- The INFO response (Table 15-8). -/
def State.infoBytes (s : State) : List Byte :=
  leBytes 8 s.sec.serial.toNat ++ leBytes 2 0x0100 ++ [0xA0] ++ leBytes 1 s.sec.lifecycle ++ leBytes 1 s.sec.debug ++
  leBytes 1 s.powerCode ++ leBytes 1 (bitNat s.mould.isSome 0 + bitNat s.fab.addrv 1 + bitNat s.bg.isSome 2) ++ [0] ++
  leBytes 2 (if s.fab.addrv then s.fab.addr.toNat else 0) ++ leBytes 2 ((List.range 16).foldl (fun v f => v + bitNat (s.pourOn f) f) 0) ++
  List.replicate 12 0

/-- ERR_CLEAR (R471): one RW1C write of the sticky word, which is returned as it was. -/
def State.doErrClear (s : State) (ctag : BitVec 16) (p : List Byte) : State :=
  (s.clearSticky (BitVec.ofNat 64 (leAt p 0 8))).respond ctag 0x02 0 (leBytes 8 s.err.sticky.toNat)

/-- MEM_READ past steps 1 to 7 (R467 to R469). -/
def State.doMemRead (s : State) (ctag : BitVec 16) (p : List Byte) (found : List (Nat × EccFind)) : State :=
  let a := cmdAddr 0x10 p
  if s.addrOk a = false then s.respond ctag 0x10 0x0C []
  else match s.readMem a found with
    | (s1, some d) => s1.respond ctag 0x10 0 d
    | (s1, none) => s1.respond ctag 0x10 0x0D []

/-- MEM_WRITE past steps 1 to 7 (R467 to R469). -/
def State.doMemWrite (s : State) (ctag : BitVec 16) (p : List Byte) (found : List (Nat × EccFind)) : State :=
  let a := cmdAddr 0x11 p
  if s.addrOk a = false then s.respond ctag 0x11 0x0C []
  else if s.vbBusy a then s.respond ctag 0x11 0x07 []
  else match s.writeMem a (p.drop 16) found with
    | (s1, true) => s1.respond ctag 0x11 0 []
    | (s1, false) => s1.respond ctag 0x11 0x0D []

/-- The offset in the register space that an address of this module names. -/
def State.regOff (s : State) (p : List Byte) : Option Nat :=
  let a : Word := BitVec.ofNat 64 (leAt p 0 8)
  if s.isLocal (fld a 52 12) = true ∧ fld a 48 4 = 8 then some (fld a 0 48) else none

/-- REG_READ past steps 1 to 4 (R470). -/
def State.doRegRead (s : State) (ctag : BitVec 16) (p : List Byte) : State :=
  match s.regOff p with
  | none => s.respond ctag 0x12 0x0C []
  | some off =>
    match s.readReg off with
    | .ok v => s.respond ctag 0x12 0 (leBytes 8 v.toNat)
    | .error e => s.respond ctag 0x12 e []

/-- REG_WRITE past steps 1 to 4 (R470). -/
def State.doRegWrite (s : State) (ctag : BitVec 16) (p : List Byte) : State :=
  match s.regOff p with
  | none => s.respond ctag 0x13 0x0C []
  | some off =>
    match s.writeReg off (BitVec.ofNat 64 (leAt p 8 8)) with
    | .ok s1 => s1.respond ctag 0x13 0 []
    | .error e => s.respond ctag 0x13 e []

/-- MOULD_LOAD past steps 1 to 7 (R407, R472). -/
def State.doMouldLoad (s : State) (ctag : BitVec 16) (p : List Byte) : State :=
  let off := leAt p 0 4
  if off ≠ 0 ∧ off ≠ s.staged.length then s.respond ctag 0x20 0x0F []
  else (s.stage off (p.drop 16)).respond ctag 0x20 0 []

/-- In space 0x3, the code of a pour meets memory that R362 and stage 4 overwrite, or an UNUSED group (R474). -/
def State.codeClash (s : State) (d : FlaskDef) (off len : Nat) : Bool :=
  (List.range ((off + len - 1) / 2 ^ 21 - off / 2 ^ 21 + 1)).any (fun i =>
    let c := (off / 2 ^ 21 + i) / 16
    let g := (off / 2 ^ 21 + i) % 16
    (s.group c g).1 == 3 ||
    (d.coreList.contains c && (decide (g < d.codeg) || (s.group c g).1 == 1 ||
      (d.coreList.findIdx? (· == c)).any (fun l => (d.part l g).1 == 1))) ||
    (d.spareList.contains c && decide (g < d.codeg)))

/-- The code fields of a POUR_START are valid (R474, step 4). -/
def State.codeOk (s : State) (d : FlaskDef) (p : List Byte) : Bool :=
  let len := leAt p 8 4
  let entry := leAt p 4 4
  let code : Word := BitVec.ofNat 64 (leAt p 16 8)
  let sp := fld code 48 4
  let off := fld code 0 48
  len % 8 == 0 && decide (8 ≤ len) && decide (len ≤ d.codeg * 2 ^ 21) && entry % 8 == 0 && decide (entry < len) &&
  off % 8 == 0 && s.isLocal (fld code 52 12) && decide (sp < 4) && decide (off + len ≤ spaceSize sp) &&
  !(sp == 3 && s.codeClash d off len)

/-- A pour is accepted on flask `f` (R31, R282, R474, R578): its fields are noted, and the fault registers and saturation
counters of the flask's cores are zeroed. -/
def State.acceptPour (s : State) (f : Nat) (d : FlaskDef) (p : List Byte) : State :=
  let s1 := ((d.coreList ++ d.spareList ++ s.hosts f).eraseDups).foldl (fun s c => s.modCore c Core.clearSeq) s
  (s1.modPwr (fun q => { q with state := if q.state = .idle then .run else q.state })).modFlask f (fun x => { x with
    stage := .loading, arg := BitVec.ofNat 64 (leAt p 24 8), entry := BitVec.ofNat 32 (leAt p 4 4),
    code := BitVec.ofNat 64 (leAt p 16 8), codelen := leAt p 8 4, fault := none, cseq := 0, notify := false, records := [],
    ext := [], peers := [], delivered := [], suppress := [], orphans := [], copies := [], lastProgress := s.now, waiter := none })

/-- POUR_START past steps 1 to 7 (R474, R475): the response, then stage 3. -/
def State.doPourStart (s : State) (ctag : BitVec 16) (p : List Byte) : State :=
  let f := leAt p 0 1
  if s.mould.isNone ∨ s.err.mouldDead = true then s.respond ctag 0x30 0x08 []
  else match s.flaskDef f with
    | none => s.respond ctag 0x30 0x09 []
    | some d =>
      if s.pourOn f then s.respond ctag 0x30 0x0A []
      else if s.codeOk d p = false then s.respond ctag 0x30 0x03 []
      else
        let s1 := (s.acceptPour f d p).respond ctag 0x30 0 []
        (if s.pwr.state = .idle then s1.powerEvent 0 else s1).stage3 f

/-- A command stops the pour of flask `f` and waits until it is quiet (R476, R477). -/
def State.stopFor (s : State) (f : Nat) (ctag : BitVec 16) (op : BitVec 8) (why : StopWhy) : State :=
  let s1 := match (s.flask f).stage with
    | .stopping .recover => s.modFlask f (fun x => { x with stage := .stopping why })
    | .stopping _ => s
    | _ => s.stopFlask f why
  (s1.modFlask f (fun x => { x with waiter := some (ctag, op) })).modCp (fun k => { k with blocked := true })

/-- POUR_ABORT past steps 1 to 7 (R476). -/
def State.doPourAbort (s : State) (ctag : BitVec 16) (p : List Byte) : State :=
  let f := leAt p 0 1
  if s.mould.isNone then s.respond ctag 0x31 0x08 []
  else if (s.flaskDef f).isNone then s.respond ctag 0x31 0x09 []
  else if s.pourOn f = false then s.respond ctag 0x31 0x0B []
  else s.stopFor f ctag 0x31 .abort

/-- FLASK_RESET past steps 1 to 7 (R477, R570). -/
def State.doFlaskReset (s : State) (ctag : BitVec 16) (p : List Byte) : State :=
  let f := leAt p 0 1
  if s.mould.isNone then s.respond ctag 0x32 0x08 []
  else if (s.flaskDef f).isNone then s.respond ctag 0x32 0x09 []
  else if s.pourOn f then s.stopFor f ctag 0x32 .reset
  else (s.flaskResetCores f).respond ctag 0x32 0 []

/-- The power state that a TARGET names (Table 15-8). -/
def targetState (t : Nat) : Power := if t = 0 then .run else if t = 1 then .idle else if t = 2 then .doze else .chrysalis

/-- POWER_STATE past steps 1 to 7 (R482, R559): the state in force is answered at once; the command waits for a transition
that runs; Chrysalis is answered before its entry, and the others when the state is reached. -/
def State.doPowerState (s : State) (ctag : BitVec 16) (p : List Byte) : State :=
  let t := targetState (leAt p 0 1)
  if s.changing then
    State.modPwr { s with bg := some ⟨0x50, ctag, .waiting, p⟩ } (fun q => { q with later := q.later ++ [(t, 0)] })
  else if t = s.pwr.state then s.respond ctag 0x50 0 []
  else State.beginTransition { s with bg := some ⟨0x50, ctag, .waiting, p⟩ } t 0

/-- WARM_RESET past steps 1 to 7 (R483): a background command is answered ST_ABORTED first. -/
def State.doWarmReset (s : State) (ctag : BitVec 16) : State :=
  let s1 := match s.bg with
    | some g => s.abandon.respond g.ctag g.opcode 0x13 []
    | none => s
  ((s1.respond ctag 0x51 0 []).modPwr (fun q => { q with boot := .warmPending, resume := if q.boot = .training then some .training else none })).modCp (fun k => { k with blocked := true })

/-- A command that passes steps 1 to 7 of R464. -/
def State.cmdAct (s : State) (op : BitVec 8) (ctag : BitVec 16) (p : List Byte) (found : List (Nat × EccFind)) : State :=
  match op.toNat with
  | 0x01 => s.respond ctag 0x01 0 s.infoBytes
  | 0x02 => s.doErrClear ctag p
  | 0x10 => s.doMemRead ctag p found
  | 0x11 => s.doMemWrite ctag p found
  | 0x12 => s.doRegRead ctag p
  | 0x13 => s.doRegWrite ctag p
  | 0x20 => s.doMouldLoad ctag p
  | 0x21 => s.startCommit ctag
  | 0x30 => s.doPourStart ctag p
  | 0x31 => s.doPourAbort ctag p
  | 0x32 => s.doFlaskReset ctag p
  | 0x40 => s.startAttest ctag p
  | 0x41 => s.startDebug ctag p
  | 0x42 => s.startOwn ctag p
  | 0x43 => s.startDecommission ctag p
  | 0x50 => s.doPowerState ctag p
  | 0x51 => s.doWarmReset ctag
  | _ => s

/-- A command starts (R464): its receive buffer is free (R458), and the first check that fails answers it. -/
def State.cmdStart (s : State) (op : BitVec 8) (ctag : BitVec 16) (p : List Byte) (found : List (Nat × EccFind)) : State :=
  let s1 := if s.cp.blocked ∨ s.bg.isSome then s else s.countIn 1152 64 0x10 256 1 1
  let s2 := s1.modCp (fun k => { k with freed := k.freed + 1 })
  match s2.cmdChecks op p with
  | some st => s2.respond ctag op st []
  | none => s2.cmdAct op ctag p found

/-! ### Acceptance and order (R454, R461, R462) -/

/-- Ordered commands may start. -/
def State.cmdFlows (s : State) : Bool := !s.cp.blocked && (s.pwr.boot == .ready || s.pwr.boot == .training)

/-- Start the commands that wait, in order, until one is still executing. The counter bounds their number. -/
def State.runWaiting : Nat → State → State
  | 0, s => s
  | n + 1, s =>
    match s.cp.waiting with
    | [] => s
    | w :: r =>
      if s.cmdFlows then
        State.runWaiting n ((s.modCp (fun k => { k with waiting := r })).cmdStart w.opcode w.ctag w.payload w.found)
      else s

/-- A new command: recorded among the last 256, and started or queued behind an ordered one that still executes. -/
def State.cmdNew (s : State) (op : BitVec 8) (ctag : BitVec 16) (p : List Byte) (found : List (Nat × EccFind)) : State :=
  let s1 := s.modCp (fun k => { k with
    record := (⟨ctag, op, none, none, s.now⟩ :: k.record.filter (fun r => r.ctag != ctag)).take 256 })
  if s.cmdFlows = true ∨ (cmdBackground op = true ∧ (s.pwr.boot = .ready ∨ s.pwr.boot = .training)) then s1.cmdStart op ctag p found
  else s1.modCp (fun k => { k with waiting := k.waiting ++ [⟨op, ctag, p, found⟩] })

/-- A CMD frame that is accepted in sequence (R461). -/
def State.cmdAccepted (s : State) (op : BitVec 8) (ctag : BitVec 16) (p : List Byte) (found : List (Nat × EccFind)) : State :=
  match s.cp.record.find? (fun r => r.ctag == ctag) with
  | none => s.cmdNew op ctag p found
  | some r =>
    match r.status with
    | none => s.modCp (fun k => { k with freed := k.freed + 1 })
    | some st =>
      if cmdRepeatable r.opcode then s.cmdNew op ctag p found
      else (s.modCp (fun k => { k with freed := k.freed + 1 })).emit (rspFrame ctag r.opcode st true (r.payload.getD []))

/-- A CMD frame arrives (R453 to R456): it is discarded unless its LEN is legal and its SEQ is the next. -/
def State.command (s : State) (op : BitVec 8) (h : CpHdr) (p : List Byte) (found : List (Nat × EccFind)) : State :=
  if s.cp.st ≠ .up then s
  else if 4096 < p.length then s.discard
  else if h.seq ≠ s.cp.rxSeq then (s.cpArrives p.length).outOfOrder h.seq
  else
    let s1 := ((s.cpArrives p.length).modCp (fun k => { k with rxSeq := k.rxSeq + 1, nakAt := none })).takeAck h
    s1.cmdAccepted op h.ctag p found

/-! ### The command rows -/

/-- INFO (R466). -/
def execInfo (h : CpHdr) (p : List Byte) (s : State) : Host.Outcome State Fault Refusal := .next (s.command 0x01 h p [])
/-- ERR_CLEAR (R471). -/
def execErrClear (h : CpHdr) (p : List Byte) (s : State) : Host.Outcome State Fault Refusal := .next (s.command 0x02 h p [])
/-- MEM_READ (R467 to R469): `found` is what its check bits show. -/
def execMemRead (h : CpHdr) (p : List Byte) (found : List (Nat × EccFind)) (s : State) : Host.Outcome State Fault Refusal :=
  .next (s.command 0x10 h p found)
/-- MEM_WRITE (R467 to R469): `found` is what the units it reads show. -/
def execMemWrite (h : CpHdr) (p : List Byte) (found : List (Nat × EccFind)) (s : State) : Host.Outcome State Fault Refusal :=
  .next (s.command 0x11 h p found)
/-- REG_READ (R470). -/
def execRegRead (h : CpHdr) (p : List Byte) (s : State) : Host.Outcome State Fault Refusal := .next (s.command 0x12 h p [])
/-- REG_WRITE (R470). -/
def execRegWrite (h : CpHdr) (p : List Byte) (s : State) : Host.Outcome State Fault Refusal := .next (s.command 0x13 h p [])
/-- MOULD_LOAD (R407, R472). -/
def execMouldLoad (h : CpHdr) (p : List Byte) (s : State) : Host.Outcome State Fault Refusal := .next (s.command 0x20 h p [])
/-- MOULD_COMMIT (R406, R473). -/
def execMouldCommit (h : CpHdr) (p : List Byte) (s : State) : Host.Outcome State Fault Refusal := .next (s.command 0x21 h p [])
/-- POUR_START (R474, R475). -/
def execPourStart (h : CpHdr) (p : List Byte) (s : State) : Host.Outcome State Fault Refusal := .next (s.command 0x30 h p [])
/-- POUR_ABORT (R476). -/
def execPourAbort (h : CpHdr) (p : List Byte) (s : State) : Host.Outcome State Fault Refusal := .next (s.command 0x31 h p [])
/-- FLASK_RESET (R477). -/
def execFlaskReset (h : CpHdr) (p : List Byte) (s : State) : Host.Outcome State Fault Refusal := .next (s.command 0x32 h p [])
/-- ATTEST (R478). -/
def execAttest (h : CpHdr) (p : List Byte) (s : State) : Host.Outcome State Fault Refusal := .next (s.command 0x40 h p [])
/-- DEBUG_LEVEL (R479). -/
def execDebugLevel (h : CpHdr) (p : List Byte) (s : State) : Host.Outcome State Fault Refusal := .next (s.command 0x41 h p [])
/-- OWN (R480). -/
def execOwn (h : CpHdr) (p : List Byte) (s : State) : Host.Outcome State Fault Refusal := .next (s.command 0x42 h p [])
/-- DECOMMISSION (R481). -/
def execDecommission (h : CpHdr) (p : List Byte) (s : State) : Host.Outcome State Fault Refusal := .next (s.command 0x43 h p [])
/-- POWER_STATE (R482). -/
def execPowerState (h : CpHdr) (p : List Byte) (s : State) : Host.Outcome State Fault Refusal := .next (s.command 0x50 h p [])
/-- WARM_RESET (R483). -/
def execWarmReset (h : CpHdr) (p : List Byte) (s : State) : Host.Outcome State Fault Refusal := .next (s.command 0x51 h p [])

/-- BAD_OPCODE_COMMAND (R464): a CMD whose opcode is not in Table 15-5; a listed opcode is not this event. -/
def execBadOpcodeCommand (op : BitVec 8) (h : CpHdr) (p : List Byte) (s : State) : Host.Outcome State Fault Refusal :=
  .next (if cmdListed op then s else s.command op h p [])

/-- The point of no return of the command is its acceptance (Table 15-5): it is not timed. -/
def cmdUntimed (op : BitVec 8) : Bool := [0x30#8, 0x31, 0x32, 0x51].contains op

/-- A command that waits to start and has reached its time is answered and never starts. -/
def State.dropWaiting (s : State) (ctag : BitVec 16) : State :=
  match s.cp.waiting.find? (fun w => w.ctag == ctag && !cmdUntimed w.opcode) with
  | some w => (s.modCp (fun k => { k with waiting := k.waiting.erase w, freed := k.freed + 1 })).respond ctag w.opcode 0x12 []
  | none => s

/-- The command with this CTAG has run to its time since it was accepted (R465): 10 s, and 5 s for ATTEST. -/
def State.timeUp (s : State) (ctag : BitVec 16) : Bool :=
  (s.cp.record.find? (fun r => r.ctag == ctag)).all (fun r =>
    decide (r.time + (if r.opcode = 0x40#8 then 7000000000 else 14000000000) ≤ s.now))

/-- COMMAND_TIMEOUT (R465): a command that has reached its time before its point of no return is abandoned: the background
command, or one that still waits to start. -/
def execCommandTimeout (ctag : BitVec 16) (s : State) : Host.Outcome State Fault Refusal :=
  .next (if s.timeUp ctag = false then s else match s.bg with
    | some g =>
      if g.ctag = ctag ∧ g.past = false then s.abandon.respond ctag g.opcode 0x12 [] else s.dropWaiting ctag
    | none => s.dropWaiting ctag)

/-- FLASK_QUIET (R270): the flask has stopped and everything it had started is over; the commands that waited for it go
on. -/
def execFlaskQuiet (f : Fin 16) (s : State) : Host.Outcome State Fault Refusal :=
  .next (let s1 := (s.quietStep f).settleMould
    if (s.flask f).waiter.isSome = true ∧ (s1.flask f).stage = .idle then
      let s2 := s1.modCp (fun k => { k with blocked := false })
      State.runWaiting s2.cp.waiting.length s2
    else s1)

end Sys2Proof.Machine
end

