-- ==== Sys2Proof/Machine/Manage.lean ====
section
/-! DEFINITION. The management connector: the SMBus target with its PMBus commands, and the test access port (chapter 20,
Table 17-6). -/

namespace Sys2Proof.Machine

/-! ### SMBus (R595 to R597) -/

/-- A quotient rounded to nearest, ties to even. -/
def roundEven (num den : Nat) : Nat :=
  let q := num / den
  let r := num % den
  if 2 * r < den then q else if den < 2 * r then q + 1 else q + q % 2

/-- A LINEAR11 word (R596): a mantissa, kept within its eleven signed bits, and an exponent of five bits. -/
def linear11 (n y : Nat) : List Byte := leBytes 2 (n * 2 ^ 11 + min y 1023)

/-- Set CML of STATUS_WORD. -/
def State.setCml (s : State) : State := s.modPwr (fun p => { p with status := p.status ||| 0x0002#16 })

/-- The target answers with bytes. -/
def State.smbAnswer (s : State) (l : List Byte) : State := s.modPwr (fun p => { p with smbus := l })

/-- A command of the target (R595): a failing PEC discards it and sets CML; the target answers from the end of the charging
of the bulk capacitance on, in every state but Off. -/
def State.smbus (s : State) (pec : Bool) (act : State → State) : State :=
  if s.cocoonRuns = false then s else if pec then act s else s.setCml

/-- STATUS_WORD (Table 20-6). -/
def State.statusWord (s : State) : BitVec 16 := s.pwr.status ||| s.statusNow

/-- ALERT_N is driven low (Table 20-4). -/
def State.alertLow (s : State) : Bool := s.statusWord != 0

/-- The codes of Table 20-5. -/
def smbusListed (code : BitVec 8) : Bool :=
  [0x03#8, 0x79, 0x88, 0x89, 0x8D, 0x8E, 0x8F, 0x97, 0x98, 0xD0, 0xD1, 0xD2].contains code

/-- CLEAR_FAULTS (R597): bits whose condition has ended are cleared. -/
def execClearFaults (pec : Bool) (s : State) : Host.Outcome State Fault Refusal :=
  .next (s.smbus pec (fun s => s.modPwr (fun p => { p with status := s.statusNow })))
/-- STATUS_WORD (Table 20-6). -/
def execStatusWord (pec : Bool) (s : State) : Host.Outcome State Fault Refusal :=
  .next (s.smbus pec (fun s => s.smbAnswer (leBytes 2 s.statusWord.toNat)))
/-- READ_VIN: the input voltage, N = −4. -/
def execReadVin (pec : Bool) (s : State) : Host.Outcome State Fault Refusal :=
  .next (s.smbus pec (fun s => s.smbAnswer (linear11 28 (roundEven (s.pwr.vin * 16) 1000))))
/-- READ_IIN: the input current, N = −4. -/
def execReadIin (pec : Bool) (s : State) : Host.Outcome State Fault Refusal :=
  .next (s.smbus pec (fun s => s.smbAnswer (linear11 28 (roundEven (s.pwr.iin * 16) (10 ^ 6)))))
/-- READ_TEMPERATURE_1: the hottest stack, N = −2. -/
def execReadTemperature1 (pec : Bool) (s : State) : Host.Outcome State Fault Refusal :=
  .next (s.smbus pec (fun s => s.smbAnswer (linear11 30 (s.pwr.smax * 4))))
/-- READ_TEMPERATURE_2: the hottest core junction, N = −2. -/
def execReadTemperature2 (pec : Bool) (s : State) : Host.Outcome State Fault Refusal :=
  .next (s.smbus pec (fun s => s.smbAnswer (linear11 30 (s.pwr.cmax * 4))))
/-- READ_TEMPERATURE_3: the hub junction, N = −2. -/
def execReadTemperature3 (pec : Bool) (s : State) : Host.Outcome State Fault Refusal :=
  .next (s.smbus pec (fun s => s.smbAnswer (linear11 30 (s.pwr.hubT * 4))))
/-- READ_PIN: the input power, N = 2. -/
def execReadPin (pec : Bool) (s : State) : Host.Outcome State Fault Refusal :=
  .next (s.smbus pec (fun s => s.smbAnswer (linear11 2 (roundEven s.pwr.pin 4000))))
/-- PMBUS_REVISION. -/
def execPmbusRevision (pec : Bool) (s : State) : Host.Outcome State Fault Refusal :=
  .next (s.smbus pec (fun s => s.smbAnswer [0x33]))
/-- MFR_WAKE (R597): 0xA5 requests a wake; any other value sets CML. -/
def execMfrWake (v : BitVec 8) (pec : Bool) (s : State) : Host.Outcome State Fault Refusal :=
  .next (s.smbus pec (fun s => if v = 0xA5 then s.wake 4 2 else s.setCml))
/-- MFR_STICKY: ERR_STICKY [15:0]. -/
def execMfrSticky (pec : Bool) (s : State) : Host.Outcome State Fault Refusal :=
  .next (s.smbus pec (fun s => s.smbAnswer (leBytes 2 s.err.sticky.toNat)))
/-- MFR_POWER_STATE: PWR_STATUS STATE. -/
def execMfrPowerState (pec : Bool) (s : State) : Host.Outcome State Fault Refusal :=
  .next (s.smbus pec (fun s => s.smbAnswer (leBytes 1 s.powerCode)))

/-- SMBUS_INVALID_COMMAND (R596): a code that Table 20-5 lacks is not acknowledged and sets CML. -/
def execSmbusInvalidCommand (code : BitVec 8) (s : State) : Host.Outcome State Fault Refusal :=
  .next (if s.cocoonRuns = true ∧ smbusListed code = false then s.setCml else s)

/-! ### The test access port (R598, R32, Table 17-6) -/

/-- An instruction of the port with its data register. -/
def State.tapDr (s : State) (ir : BitVec 8) (dr : BitVec 128) : State := { s with tap := ⟨ir, dr⟩ }

/-- The port is within a module that has power. -/
def State.tapRuns (s : State) : Bool := s.cocoonRuns

/-- The data register holds a word, and above it what the manual leaves open (log 3). -/
def State.tapWord (s : State) (ir : BitVec 8) (w : Word) : State :=
  let (s1, l) := s.freeBytes 8
  s1.tapDr ir (BitVec.ofNat 128 (leNat l * 2 ^ 64 + w.toNat))

/-- The data register holds what the manual leaves open: nothing says what an access leaves there (log 3). -/
def State.tapOpen (s : State) (ir : BitVec 8) : State :=
  let (s1, l) := s.freeBytes 16
  s1.tapDr ir (BitVec.ofNat 128 (leNat l))

/-- A TAP reset (R598): IDCODE is selected; nothing outside the port changes. -/
def execTapReset (s : State) : Host.Outcome State Fault Refusal := .next (s.tapDr 0x01 s.tap.dr)

/-- A boundary-scan instruction: the register's cells are not in the manual; below Open it is zero. -/
def State.boundary (s : State) (ir : BitVec 8) : State :=
  if s.tapRuns = false then s
  else if s.sec.debug = 2 ∧ s.pwr.state ≠ .chrysalis then s.tapOpen ir else s.tapDr ir 0

/-- EXTEST. -/
def execExtest (s : State) : Host.Outcome State Fault Refusal := .next (s.boundary 0x00)
/-- SAMPLE/PRELOAD. -/
def execSamplePreload (s : State) : Host.Outcome State Fault Refusal := .next (s.boundary 0x02)
/-- IDCODE (Table 20-7). -/
def execIdcode (s : State) : Host.Outcome State Fault Refusal := .next (if s.tapRuns then s.tapDr 0x01 0x06400A5B else s)
/-- BYPASS (Table 20-7). -/
def execBypass (s : State) : Host.Outcome State Fault Refusal := .next (if s.tapRuns then s.tapDr 0xFF 0 else s)

/-- DBGREG (Table 20-7): command in [127:126], address in [125:64], data in [63:0]. What the level does not grant returns
zeros and changes nothing. -/
def execDbgreg (d : BitVec 128) (s : State) : Host.Outcome State Fault Refusal :=
  .next (let off := fld d 64 48
    let write := fld d 126 2 == 1
    if s.tapRuns = false then s
    else if s.pwr.state = .chrysalis ∨ s.regGranted write (regAt off) = false then s.tapDr 0x20 0
    else if write then
      match s.writeReg off (BitVec.ofNat 64 (fld d 0 64)) with
      | .ok s1 => s1.tapOpen 0x20
      | .error _ => s.tapOpen 0x20
    else if fld d 126 2 = 0 then
      match s.readReg off with
      | .ok v => s.tapWord 0x20 v
      | .error _ => s.tapOpen 0x20
    else s.tapOpen 0x20)

/-- DBGMEM (Table 20-7): one 8-byte word at a global address, at level Open alone; `found` is what its check bits show. -/
def execDbgmem (d : BitVec 128) (found : List (Nat × EccFind)) (s : State) : Host.Outcome State Fault Refusal :=
  .next (let a : CmdAddr := ⟨0xFFF, fld d 112 4, fld d 64 48, 8⟩
    if s.tapRuns = false then s
    else if s.sec.debug ≠ 2 ∨ s.pwr.state = .chrysalis then s.tapDr 0x21 0
    else if s.addrAsleep a = true ∨ s.addrOk a = false then s.tapOpen 0x21
    else if fld d 126 2 = 1 then ((s.writeMem a (leBytes 8 (fld d 0 64)) found).1).tapOpen 0x21
    else if fld d 126 2 = 0 then
      match s.readMem a found with
      | (s1, some l) => s1.tapWord 0x21 (BitVec.ofNat 64 (leNat l))
      | (s1, none) => s1.tapOpen 0x21
    else s.tapOpen 0x21)

end Sys2Proof.Machine
end

