-- ==== Sys2Proof/Machine/Dispatch.lean ====
section
/-! DEFINITION. The dispatch of a command to its meaning: one arm for each row of the table. -/

namespace Sys2Proof.Machine

/-- The effect of a command on everything but the queue. -/
def exec (i : Instr) (s : State) : Host.Outcome State Fault Refusal :=
  match i with
  | .add x => Sys2Proof.Machine.execAdd x s
  | .sub x => Sys2Proof.Machine.execSub x s
  | .mul x => Sys2Proof.Machine.execMul x s
  | .and x => Sys2Proof.Machine.execAnd x s
  | .or x => Sys2Proof.Machine.execOr x s
  | .xor x => Sys2Proof.Machine.execXor x s
  | .shl x => Sys2Proof.Machine.execShl x s
  | .shr x => Sys2Proof.Machine.execShr x s
  | .sra x => Sys2Proof.Machine.execSra x s
  | .min x => Sys2Proof.Machine.execMin x s
  | .max x => Sys2Proof.Machine.execMax x s
  | .addI x => Sys2Proof.Machine.execAddI x s
  | .subI x => Sys2Proof.Machine.execSubI x s
  | .mulI x => Sys2Proof.Machine.execMulI x s
  | .andI x => Sys2Proof.Machine.execAndI x s
  | .orI x => Sys2Proof.Machine.execOrI x s
  | .xorI x => Sys2Proof.Machine.execXorI x s
  | .shlI x => Sys2Proof.Machine.execShlI x s
  | .shrI x => Sys2Proof.Machine.execShrI x s
  | .sraI x => Sys2Proof.Machine.execSraI x s
  | .minI x => Sys2Proof.Machine.execMinI x s
  | .maxI x => Sys2Proof.Machine.execMaxI x s
  | .movi x => Sys2Proof.Machine.execMovi x s
  | .movhi x => Sys2Proof.Machine.execMovhi x s
  | .cmp x => Sys2Proof.Machine.execCmp x s
  | .cmpI x => Sys2Proof.Machine.execCmpI x s
  | .pand x => Sys2Proof.Machine.execPand x s
  | .por x => Sys2Proof.Machine.execPor x s
  | .pxor x => Sys2Proof.Machine.execPxor x s
  | .pnot x => Sys2Proof.Machine.execPnot x s
  | .br x => Sys2Proof.Machine.execBr x s
  | .brReg x => Sys2Proof.Machine.execBrReg x s
  | .brLink x => Sys2Proof.Machine.execBrLink x s
  | .brFork x => Sys2Proof.Machine.execBrFork x s
  | .hset x => Sys2Proof.Machine.execHset x s
  | .hget x => Sys2Proof.Machine.execHget x s
  | .halt x => Sys2Proof.Machine.execHalt x s
  | .commit x => Sys2Proof.Machine.execCommit x s
  | .fenceE x => Sys2Proof.Machine.execFenceE x s
  | .semWait x => Sys2Proof.Machine.execSemWait x s
  | .semPost x => Sys2Proof.Machine.execSemPost x s
  | .tokenWait x => Sys2Proof.Machine.execTokenWait x s
  | .tokenSignal x => Sys2Proof.Machine.execTokenSignal x s
  | .lmm x => Sys2Proof.Machine.execLmm x s
  | .lmmRes2 x => Sys2Proof.Machine.execLmmRes2 x s
  | .lmmRes4 x => Sys2Proof.Machine.execLmmRes4 x s
  | .lmmRes8 x => Sys2Proof.Machine.execLmmRes8 x s
  | .lmmRr x => Sys2Proof.Machine.execLmmRr x s
  | .tcfg x => Sys2Proof.Machine.execTcfg x s
  | .tzero x => Sys2Proof.Machine.execTzero x s
  | .tmove x => Sys2Proof.Machine.execTmove x s
  | .ntt x => Sys2Proof.Machine.execNtt x s
  | .intt x => Sys2Proof.Machine.execIntt x s
  | .auto x => Sys2Proof.Machine.execAuto x s
  | .vchain x => Sys2Proof.Machine.execVchain x s
  | .vred x => Sys2Proof.Machine.execVred x s
  | .vhistArm x => Sys2Proof.Machine.execVhistArm x s
  | .vhistClear x => Sys2Proof.Machine.execVhistClear x s
  | .vhistRead x => Sys2Proof.Machine.execVhistRead x s
  | .mred x => Sys2Proof.Machine.execMred x s
  | .rescale x => Sys2Proof.Machine.execRescale x s
  | .ld x => Sys2Proof.Machine.execLd x s
  | .ldS x => Sys2Proof.Machine.execLdS x s
  | .stS x => Sys2Proof.Machine.execStS x s
  | .ldH x => Sys2Proof.Machine.execLdH x s
  | .stH x => Sys2Proof.Machine.execStH x s
  | .ldC x => Sys2Proof.Machine.execLdC x s
  | .ldt x => Sys2Proof.Machine.execLdt x s
  | .stt x => Sys2Proof.Machine.execStt x s
  | .gather x => Sys2Proof.Machine.execGather x s
  | .scatter x => Sys2Proof.Machine.execScatter x s
  | .rput x => Sys2Proof.Machine.execRput x s
  | .rget x => Sys2Proof.Machine.execRget x s
  | .radd x => Sys2Proof.Machine.execRadd x s
  | .fill x => Sys2Proof.Machine.execFill x s
  | .cksum x => Sys2Proof.Machine.execCksum x s
  | .kexp x => Sys2Proof.Machine.execKexp x s
  | .queueFullIssue c t => Sys2Proof.Machine.execQueueFullIssue c t s
  | .tokenPlaceIssue c t => Sys2Proof.Machine.execTokenPlaceIssue c t s
  | .slotStallResume c t => Sys2Proof.Machine.execSlotStallResume c t s
  | .tokenWaitSatisfied c t => Sys2Proof.Machine.execTokenWaitSatisfied c t s
  | .semWaitSatisfied c t => Sys2Proof.Machine.execSemWaitSatisfied c t s
  | .fenceRelease c t => Sys2Proof.Machine.execFenceRelease c t s
  | .forkThreadStart c t => Sys2Proof.Machine.execForkThreadStart c t s
  | .lmeInstructionStart c => Sys2Proof.Machine.execLmeInstructionStart c s
  | .lmeInstructionComplete c => Sys2Proof.Machine.execLmeInstructionComplete c s
  | .lmeAbort c code => Sys2Proof.Machine.execLmeAbort c code s
  | .teInstructionStart c => Sys2Proof.Machine.execTeInstructionStart c s
  | .teInstructionComplete c => Sys2Proof.Machine.execTeInstructionComplete c s
  | .teAbort c perm => Sys2Proof.Machine.execTeAbort c perm s
  | .veInstructionStart c env => Sys2Proof.Machine.execVeInstructionStart c env s
  | .veInstructionComplete c => Sys2Proof.Machine.execVeInstructionComplete c s
  | .veAbort c => Sys2Proof.Machine.execVeAbort c s
  | .seInstructionStart c => Sys2Proof.Machine.execSeInstructionStart c s
  | .transferIssue c id => Sys2Proof.Machine.execTransferIssue c id s
  | .transferComplete c x found => Sys2Proof.Machine.execTransferComplete c x found s
  | .seInstructionComplete c id => Sys2Proof.Machine.execSeInstructionComplete c id s
  | .kexpHeaderArrival c id found => Sys2Proof.Machine.execKexpHeaderArrival c id found s
  | .transferTimeout c x => Sys2Proof.Machine.execTransferTimeout c x s
  | .remoteTokenDeliver c q => Sys2Proof.Machine.execRemoteTokenDeliver c q s
  | .tokenStarved c => Sys2Proof.Machine.execTokenStarved c s
  | .engineWatchdogExpiry c u => Sys2Proof.Machine.execEngineWatchdogExpiry c u s
  | .pourNoProgressTimeout f => Sys2Proof.Machine.execPourNoProgressTimeout f s
  | .flaskQuiet f => Sys2Proof.Machine.execFlaskQuiet f s
  | .pourNormalEnd f => Sys2Proof.Machine.execPourNormalEnd f s
  | .commitFlip f => Sys2Proof.Machine.execCommitFlip f s
  | .pourCodeLoaded f found => Sys2Proof.Machine.execPourCodeLoaded f found s
  | .info h p => Sys2Proof.Machine.execInfo h p s
  | .errClear h p => Sys2Proof.Machine.execErrClear h p s
  | .memRead h p found => Sys2Proof.Machine.execMemRead h p found s
  | .memWrite h p found => Sys2Proof.Machine.execMemWrite h p found s
  | .regRead h p => Sys2Proof.Machine.execRegRead h p s
  | .regWrite h p => Sys2Proof.Machine.execRegWrite h p s
  | .mouldLoad h p => Sys2Proof.Machine.execMouldLoad h p s
  | .mouldCommit h p => Sys2Proof.Machine.execMouldCommit h p s
  | .mouldApplyDone => Sys2Proof.Machine.execMouldApplyDone s
  | .pourStart h p => Sys2Proof.Machine.execPourStart h p s
  | .pourAbort h p => Sys2Proof.Machine.execPourAbort h p s
  | .flaskReset h p => Sys2Proof.Machine.execFlaskReset h p s
  | .attest h p => Sys2Proof.Machine.execAttest h p s
  | .debugLevel h p => Sys2Proof.Machine.execDebugLevel h p s
  | .own h p => Sys2Proof.Machine.execOwn h p s
  | .decommission h p => Sys2Proof.Machine.execDecommission h p s
  | .powerState h p => Sys2Proof.Machine.execPowerState h p s
  | .warmReset h p => Sys2Proof.Machine.execWarmReset h p s
  | .warmResetBegin => Sys2Proof.Machine.execWarmResetBegin s
  | .commandTimeout ctag => Sys2Proof.Machine.execCommandTimeout ctag s
  | .freeze v => Sys2Proof.Machine.execFreeze v s
  | .snap => Sys2Proof.Machine.execSnap s
  | .snapDone => Sys2Proof.Machine.execSnapDone s
  | .clrall => Sys2Proof.Machine.execClrall s
  | .cntValWrite k v => Sys2Proof.Machine.execCntValWrite k v s
  | .wlogWrite v => Sys2Proof.Machine.execWlogWrite v s
  | .wclr => Sys2Proof.Machine.execWclr s
  | .windowEnd => Sys2Proof.Machine.execWindowEnd s
  | .portEnWrite p en => Sys2Proof.Machine.execPortEnWrite p en s
  | .haltreq c v => Sys2Proof.Machine.execHaltreq c v s
  | .cpLock => Sys2Proof.Machine.execCpLock s
  | .cpLossOfLock => Sys2Proof.Machine.execCpLossOfLock s
  | .cpLivenessExpiry => Sys2Proof.Machine.execCpLivenessExpiry s
  | .cpSync p => Sys2Proof.Machine.execCpSync p s
  | .cpSyncAck p => Sys2Proof.Machine.execCpSyncAck p s
  | .cpSyncTimer => Sys2Proof.Machine.execCpSyncTimer s
  | .cpIdle h => Sys2Proof.Machine.execCpIdle h s
  | .cpNak h => Sys2Proof.Machine.execCpNak h s
  | .cpResendTimeout => Sys2Proof.Machine.execCpResendTimeout s
  | .cpIdleTimer => Sys2Proof.Machine.execCpIdleTimer s
  | .stickyEventTimer => Sys2Proof.Machine.execStickyEventTimer s
  | .fabTrainDone p => Sys2Proof.Machine.execFabTrainDone p s
  | .fabTrainTimeout p lanes => Sys2Proof.Machine.execFabTrainTimeout p lanes s
  | .fabPortRetryTimer p => Sys2Proof.Machine.execFabPortRetryTimer p s
  | .hello p d => Sys2Proof.Machine.execHello p d s
  | .keyx p d => Sys2Proof.Machine.execKeyx p d s
  | .keyxTimeout p => Sys2Proof.Machine.execKeyxTimeout p s
  | .fabLossOfLock p => Sys2Proof.Machine.execFabLossOfLock p s
  | .fabLivenessExpiry p => Sys2Proof.Machine.execFabLivenessExpiry p s
  | .idle p hack d => Sys2Proof.Machine.execIdle p hack d s
  | .fabIdleTimer p => Sys2Proof.Machine.execFabIdleTimer p s
  | .lsa p h d => Sys2Proof.Machine.execLsa p h d s
  | .lsaTimer => Sys2Proof.Machine.execLsaTimer s
  | .lsaAgeOut serial => Sys2Proof.Machine.execLsaAgeOut serial s
  | .routeRecomputeDone => Sys2Proof.Machine.execRouteRecomputeDone s
  | .lastseqTimeout p => Sys2Proof.Machine.execLastseqTimeout p s
  | .put p h d found => Sys2Proof.Machine.execPut p h d found s
  | .addFrame p h d found => Sys2Proof.Machine.execAddFrame p h d found s
  | .getReq p h d found => Sys2Proof.Machine.execGetReq p h d found s
  | .post p h d => Sys2Proof.Machine.execPost p h d s
  | .ack p h d => Sys2Proof.Machine.execAck p h d s
  | .nack p h d => Sys2Proof.Machine.execNack p h d s
  | .getResp p h d => Sys2Proof.Machine.execGetResp p h d s
  | .lost p h d => Sys2Proof.Machine.execLost p h d s
  | .crossbarParityError p h => Sys2Proof.Machine.execCrossbarParityError p h s
  | .meshParityError l fourth => Sys2Proof.Machine.execMeshParityError l fourth s
  | .scrub p working found => Sys2Proof.Machine.execScrub p working found s
  | .channelMoveDone st found => Sys2Proof.Machine.execChannelMoveDone st found s
  | .thermalSample stackT coreT hubT => Sys2Proof.Machine.execThermalSample stackT coreT hubT s
  | .governorTick mv mw => Sys2Proof.Machine.execGovernorTick mv mw s
  | .rampLimitTimer => Sys2Proof.Machine.execRampLimitTimer s
  | .coreFence c cause => Sys2Proof.Machine.execCoreFence c cause s
  | .fenceDeferredEffect c => Sys2Proof.Machine.execFenceDeferredEffect c s
  | .flaskRecovery f => Sys2Proof.Machine.execFlaskRecovery f s
  | .retainedCopyDone c found => Sys2Proof.Machine.execRetainedCopyDone c found s
  | .timeShareSwap c => Sys2Proof.Machine.execTimeShareSwap c s
  | .securityJobComplete => Sys2Proof.Machine.execSecurityJobComplete s
  | .bneVerifyComplete => Sys2Proof.Machine.execBneVerifyComplete s
  | .debugZeroiseDone => Sys2Proof.Machine.execDebugZeroiseDone s
  | .powerTransitionComplete failed => Sys2Proof.Machine.execPowerTransitionComplete failed s
  | .powerOn mv => Sys2Proof.Machine.execPowerOn mv s
  | .bulkCharged => Sys2Proof.Machine.execBulkCharged s
  | .trainingDone failed => Sys2Proof.Machine.execTrainingDone failed s
  | .powerLoss => Sys2Proof.Machine.execPowerLoss s
  | .inputFault overV => Sys2Proof.Machine.execInputFault overV s
  | .inputRecoveryTimer => Sys2Proof.Machine.execInputRecoveryTimer s
  | .presentMate => Sys2Proof.Machine.execPresentMate s
  | .presentBreak => Sys2Proof.Machine.execPresentBreak s
  | .resetN => Sys2Proof.Machine.execResetN s
  | .wakeN => Sys2Proof.Machine.execWakeN s
  | .clockFault d supply => Sys2Proof.Machine.execClockFault d supply s
  | .clearFaults pec => Sys2Proof.Machine.execClearFaults pec s
  | .statusWord pec => Sys2Proof.Machine.execStatusWord pec s
  | .readVin pec => Sys2Proof.Machine.execReadVin pec s
  | .readIin pec => Sys2Proof.Machine.execReadIin pec s
  | .readTemperature1 pec => Sys2Proof.Machine.execReadTemperature1 pec s
  | .readTemperature2 pec => Sys2Proof.Machine.execReadTemperature2 pec s
  | .readTemperature3 pec => Sys2Proof.Machine.execReadTemperature3 pec s
  | .readPin pec => Sys2Proof.Machine.execReadPin pec s
  | .pmbusRevision pec => Sys2Proof.Machine.execPmbusRevision pec s
  | .mfrWake v pec => Sys2Proof.Machine.execMfrWake v pec s
  | .mfrSticky pec => Sys2Proof.Machine.execMfrSticky pec s
  | .mfrPowerState pec => Sys2Proof.Machine.execMfrPowerState pec s
  | .smbusInvalidCommand code => Sys2Proof.Machine.execSmbusInvalidCommand code s
  | .tapReset => Sys2Proof.Machine.execTapReset s
  | .extest => Sys2Proof.Machine.execExtest s
  | .idcode => Sys2Proof.Machine.execIdcode s
  | .samplePreload => Sys2Proof.Machine.execSamplePreload s
  | .dbgreg d => Sys2Proof.Machine.execDbgreg d s
  | .dbgmem d found => Sys2Proof.Machine.execDbgmem d found s
  | .bypass => Sys2Proof.Machine.execBypass s
  | .undefinedOpcodeIssue op x => Sys2Proof.Machine.execUndefinedOpcodeIssue op x s
  | .badOpcodeCommand op h p => Sys2Proof.Machine.execBadOpcodeCommand op h p s
  | .cpFrameDiscard seq => Sys2Proof.Machine.execCpFrameDiscard seq s
  | .fabricFrameDiscard p why => Sys2Proof.Machine.execFabricFrameDiscard p why s
  | .sha512DigestDone => Sys2Proof.Machine.execSha512DigestDone s
  | .bneCurveCheckDone => Sys2Proof.Machine.execBneCurveCheckDone s
  | .fuseProgrammingDone => Sys2Proof.Machine.execFuseProgrammingDone s
  | .lifecycleZeroingDone => Sys2Proof.Machine.execLifecycleZeroingDone s
  | .selfTestDone failed => Sys2Proof.Machine.execSelfTestDone failed s
  | .resetNRelease => Sys2Proof.Machine.execResetNRelease s
  | .resetSequenceDone => Sys2Proof.Machine.execResetSequenceDone s
  | .timeShareSwapDone c => Sys2Proof.Machine.execTimeShareSwapDone c s

end Sys2Proof.Machine
end

