-- ==== Sys2Proof/Safety.lean ====
section
/-! DEFINITION. The terms in which statements are made: sound states, what a step leaves unchanged, and when an
instruction issues. -/

namespace Sys2Proof.Machine

/-! ### Sound states -/

/-- The state that a step leads to, when it leads to one. -/
def stepsTo (s t : State) : Prop := step s = .next t

/-- The memory, in both its versions, is in canonical form, and so are the marks of lost blocks and the window counters. -/
def State.sound (s : State) : Prop :=
  Memory.wf s.mem = true ∧ Sparse.wf none s.work = true ∧ Sparse.wf false s.lost = true ∧ Sparse.wf false s.workLost = true ∧
  Sparse.wf false s.foreign = true ∧ Sparse.wf ⟨0, 0, 0⟩ s.cnt.wins = true

/-- A Decommissioned module is Closed and no DEBUG_LEVEL runs on it, and a module without power is Closed (R540). -/
def State.closedWhenDone (s : State) : Prop :=
  (s.sec.lifecycle = 2 → s.sec.debug = 0 ∧ ∀ g, s.bg = some g → g.opcode ≠ 0x41#8) ∧
  (s.pwr.boot = .off ∨ s.pwr.boot = .charging → s.sec.debug = 0)

/-! ### Frames -/

/-- The state without its cores, its flasks and the values of its general counters. -/
def State.rest (s : State) : State :=
  { s with cores := [], flasks := [], cnt := { s.cnt with ctl := [], val := [] } }

/-- Every byte of memory reads in `t` as it does in `s`, whoever reads it. -/
def State.sameBytes (s t : State) : Prop := ∀ v key, t.readByte v key = s.readByte v key

/-- From `s` to `t` only core `c` changes, beside the general counters and the flasks' times of last progress. -/
def State.onlyCore (s t : State) (c : Nat) : Prop :=
  t.rest = s.rest ∧ (∀ d, d ≠ c → t.core d = s.core d) ∧
  (∀ f, { t.flask f with lastProgress := 0 } = { s.flask f with lastProgress := 0 }) ∧ s.sameBytes t

/-- A core without its threads and the record of who issued last and when. -/
def Core.sansThreads (k : Core) : Core := { k.modRec (fun r => { r with threads := [] }) with lastIssued := 0, issueAt := 0 }

/-- A core without its engine queues, its token queues, its threads and the record of who issued last and when. -/
def Core.sansQueues (k : Core) : Core :=
  { k.sansThreads.modRec (fun r => { r with tokq := [] }) with
    lme := { k.lme with queue := [], ticket := 0 }
    te := { k.te with queue := [], ticket := 0 }
    ve := { k.ve with queue := [], ticket := 0 }
    se := { k.se with queue := [], ticket := 0 } }

/-- The places of token queue `q` that instructions in the engine queues of a core have promised (R258). -/
def Core.promised (k : Core) (q : Nat) : Nat :=
  ((k.lme.queue ++ k.te.queue ++ k.ve.queue ++ k.se.queue).filter (fun e => e.op.sen && e.op.sq == q)).length

/-- From `s` to `t` only thread `n` of core `c` changes, beside what `onlyCore` excepts and the record of who issued
last and when. -/
def State.onlyThread (s t : State) (c n : Nat) : Prop :=
  s.onlyCore t c ∧ (t.core c).sansThreads = (s.core c).sansThreads ∧ ∀ u, u ≠ n → t.thread c u = s.thread c u

/-! ### Issue -/

/-- Instruction `o` issues now: its core issues and its thread runs, its words lie at the thread's PC (R248, R284), its guard
holds (R285), no check at issue fails (R605), no register it names is outstanding (R250), nothing stalls it (R66, R252,
R258), and its fetch meets no memory error (R366 to R368). -/
def State.issues (s : State) (o : Op) : Prop :=
  s.mayIssue o = true ∧ (o.xt = true → s.pcOk o.core ((s.thread o.core o.thread).pc + 8) = true) ∧ s.guardOn o = true ∧
  issueFault o (s.declared o.core) = none ∧ (s.thread o.core o.thread).interlocked o = false ∧ s.stallOf o = none ∧
  s.fetchThrough o = (s, true)

/-- The instruction after `o` lies in the code partition. -/
def State.nextOk (s : State) (o : Op) : Prop :=
  s.pcOk o.core ((s.thread o.core o.thread).pc + BitVec.ofNat 32 o.size) = true

/-- A thread that has issued `o` and goes on with the next instruction. -/
def Thread.past (x : Thread) (o : Op) : Thread := { x with pc := x.pc + BitVec.ofNat 32 o.size, run := .run, held := none }

/-- A thread that holds `o` from cycle `n` on. -/
def Thread.holds (x : Thread) (o : Op) (why : Hold) (n : Nat) : Thread := { x with run := .stall, held := some ⟨why, n, o⟩ }

/-- The outcome is a next state in which the issuing thread of `o` is `x` and nothing else has changed. -/
def State.leaves (s : State) (o : Op) (x : Thread) (out : Host.Outcome State Fault Refusal) : Prop :=
  ∃ t, out = .next t ∧ t.thread o.core o.thread = x ∧ s.onlyThread t o.core o.thread

/-! ### Messages -/

/-- A byte of the region that the mould reserves for the commit records of flask `f` (R277). -/
def State.inRecords (s : State) (f key : Nat) : Prop :=
  ∃ d m r, s.flaskDef f = some d ∧ s.mould = some m ∧ m.regions[d.crreg]? = some r ∧
    memKey r.space r.off ≤ key ∧ key < memKey r.space r.off + d.ncores * 147456

/-- A frame of this type, opcode, status, CTAG and payload is sent and unacknowledged, or waits to be sent (R457, R463). -/
def State.says (t : State) (type opcode status : BitVec 8) (ctag : BitVec 16) (payload : List Byte) : Prop :=
  ∃ g ∈ t.cp.held ++ t.cp.ready, g.type = type ∧ g.opcode = opcode ∧ g.status = status ∧ g.ctag = ctag ∧ g.payload = payload

/-- A frame is on a link, encrypted where the link is, or on the loopback; or it waits for credit at a port or for routes (R430,
R438). -/
def State.carries (t : State) (g : FabFrame) : Prop :=
  g ∈ t.fab.waiting ∨ (∃ p n, (p, t.wireForm p g n) ∈ t.fab.sent) ∨ ∃ p, g ∈ (t.port p).queue

/-- A response frame about the frame `h` with this payload is sent to `dst` or waits to be sent (R438, R443). -/
def State.sends (t : State) (type status : BitVec 8) (dst : BitVec 12) (h : FabHdr) (payload : List Byte) : Prop :=
  ∃ g : FabFrame, g.type = type ∧ g.hdr.status = status ∧ g.hdr.response = true ∧ g.hdr.dst = dst ∧ g.hdr.orig = h.orig ∧
    g.hdr.tag = h.tag ∧ g.hdr.addr = h.addr ∧ g.payload = payload ∧ t.carries g

/-- A response frame to the request `h` is sent to its source or waits to be sent (R443). -/
def State.answers (t : State) (type status : BitVec 8) (h : FabHdr) (payload : List Byte) : Prop :=
  t.sends type status h.src h payload

/-- A LOST for the frame `h` is sent to its originating core or waits to be sent (R440). -/
def State.loses (t : State) (h : FabHdr) : Prop := t.sends 0x23 fLinkLost (if h.response then h.dst else h.src) h []

/-- A frame with header `h` is the next in order on a link that is UP, with the ENC bit of the link (R421), or on the
loopback. -/
def State.receives (s : State) (p : Nat) (h : FabHdr) : Prop :=
  p = 32 ∨ (p < 32 ∧ (s.port p).st = 4 ∧ h.enc = (s.port p).enc ∧ h.hseq = (s.port p).rxSeq + 1)

/-- A frame with header `h` and payload `d` is accepted, and its payload in clear is `m`: the payload as it is on the loopback
and on a link without encryption, else what AES-256-GCM decrypts under the tag that it has (R421, R430, R431). -/
def State.accepted (s : State) (p : Nat) (f : FabFrame) (m : List Byte) : Prop :=
  s.receives p f.hdr ∧ (p = 32 ∨ (s.port p).enc = false → m = f.payload) ∧
    (p ≠ 32 → (s.port p).enc = true → let k := s.port p
      let iv := fabIv (k.rxCount + 1)
      f.hdr.gtag = BitVec.ofNat 96 (leNat (gcmTag k.keyRx iv f.aad f.payload)) ∧ m = gcmCrypt k.keyRx iv f.payload)

/-- A request or response frame of at most 2,048 payload bytes, whose receive channel has a buffer, is accepted with payload `m`
in clear (R420, R423). -/
def State.arrives (s : State) (p : Nat) (type : BitVec 8) (h : FabHdr) (d m : List Byte) : Prop :=
  s.accepted p ⟨type, h, d, none⟩ m ∧ d.length ≤ 2048 ∧ (p < 32 → s.buffered p (reqChan h) < 8)

/-- A request or response frame arrives with payload `m` in clear, and is for this module (R436). -/
def State.delivers (s : State) (p : Nat) (type : BitVec 8) (h : FabHdr) (d m : List Byte) : Prop :=
  s.arrives p type h d m ∧ s.forMe p h = true

/-- From `s` to `t` only the fabric and the counters change. -/
def State.onlyFabric (s t : State) : Prop := { t with fab := s.fab, cnt := s.cnt } = s

/-- From `s` to `t` only fabric port `p` and what has been sent change, beside the counters. -/
def State.onlyPort (s t : State) (p : Nat) : Prop :=
  s.onlyFabric t ∧ { t.fab with ports := s.fab.ports, sent := s.fab.sent } = s.fab ∧ ∀ q, q ≠ p → t.port q = s.port q

/-- Every block of every piece of a span is free of lost blocks and dead lines, as `v` sees it. -/
def State.clear (s : State) (v : Viewer) (l : List (Nat × Nat)) : Prop :=
  ∀ x ∈ l, ∀ b ∈ blocksOf x.1 x.2, s.deadLine (64 * b) = false ∧ s.blockLost v b = false

/-- A key lies in none of the pieces. -/
def outsideAll (l : List (Nat × Nat)) (key : Nat) : Prop := ∀ x ∈ l, ¬ (x.1 ≤ key ∧ key < x.1 + x.2)

/-- Bytes [key, key + n) as `v` sees them. -/
def State.sees (s : State) (v : Viewer) (key n : Nat) : List Byte := (List.range n).map (fun i => s.readByte v (key + i))

/-- The control link is up, and a sequenced frame with this header and payload is the next, of a legal length (R453 to R455). -/
def State.takes (s : State) (h : CpHdr) (p : List Byte) : Prop := s.cp.st = .up ∧ h.seq = s.cp.rxSeq ∧ p.length ≤ 4096

/-- A CMD frame is accepted, its CTAG is new, nothing holds it back, and it passes steps 1 to 7 of R464 (R461, R462). -/
def State.accepts (s : State) (op : BitVec 8) (h : CpHdr) (p : List Byte) : Prop :=
  s.takes h p ∧ s.cp.record.find? (fun r => r.ctag == h.ctag) = none ∧ s.cmdFlows = true ∧ s.cmdChecks op p = none

/-- From `s` to `t` only the control link and the counters change. -/
def State.onlyLink (s t : State) : Prop := { t with cp := s.cp, cnt := s.cnt } = s

/-- No byte of the span lies in a lost block or on a dead channel's line, as anyone but its pour sees it. -/
def State.readable (s : State) (a : CmdAddr) : Prop :=
  ∀ b ∈ blocksOf (memKey a.space a.off) a.len, s.deadLine (64 * b) = false ∧ s.blockLost .other b = false

/-! ### Faults -/

/-- From `s` to `t` the pour of core `c` has faulted (R270, R271): its flask stops, the pour and, where it held none, the core
record the fault, and no memory, thread, or state beyond cores and flasks has changed. -/
def State.pourFaulted (s t : State) (c unit thread : Nat) (pc : BitVec 32) (word : Word) (code : BitVec 8) : Prop :=
  ∃ f l, s.serving c = some (f, l) ∧ (t.flask f).stage = .stopping .fault ∧
    (t.flask f).fault = some ⟨code, l, BitVec.ofNat 8 unit, BitVec.ofNat 8 thread, pc, word, some s.now⟩ ∧
    ((s.core c).faultCode = 0 → (t.core c).faultCode = code ∧ (t.core c).faultUnit = BitVec.ofNat 4 unit ∧
      (t.core c).faultThread = BitVec.ofNat 4 thread ∧ (t.core c).faultPc = pc ∧ (t.core c).faultWord = word)

/-- The pour of core `c` runs, so a fault there is its first (R271). -/
def State.pourRuns (s : State) (c : Nat) : Prop := ∃ f l, s.serving c = some (f, l) ∧ (s.flask f).stage = .running

end Sys2Proof.Machine

/-- The instruction word that a row of Table 10-4 stands for; none for another row, or a VHIST row of another FORM. -/
def Sys2Proof.Instr.asOp : Sys2Proof.Instr → Option Sys2Proof.Machine.Op
  | .add i => some ⟨0x10, i⟩ | .sub i => some ⟨0x11, i⟩ | .mul i => some ⟨0x12, i⟩ | .and i => some ⟨0x13, i⟩
  | .or i => some ⟨0x14, i⟩ | .xor i => some ⟨0x15, i⟩ | .shl i => some ⟨0x16, i⟩ | .shr i => some ⟨0x17, i⟩
  | .sra i => some ⟨0x18, i⟩ | .min i => some ⟨0x19, i⟩ | .max i => some ⟨0x1A, i⟩
  | .addI i => some ⟨0x20, i⟩ | .subI i => some ⟨0x21, i⟩ | .mulI i => some ⟨0x22, i⟩ | .andI i => some ⟨0x23, i⟩
  | .orI i => some ⟨0x24, i⟩ | .xorI i => some ⟨0x25, i⟩ | .shlI i => some ⟨0x26, i⟩ | .shrI i => some ⟨0x27, i⟩
  | .sraI i => some ⟨0x28, i⟩ | .minI i => some ⟨0x29, i⟩ | .maxI i => some ⟨0x2A, i⟩
  | .movi i => some ⟨0x2B, i⟩ | .movhi i => some ⟨0x2C, i⟩ | .cmp i => some ⟨0x30, i⟩ | .cmpI i => some ⟨0x31, i⟩
  | .pand i => some ⟨0x34, i⟩ | .por i => some ⟨0x35, i⟩ | .pxor i => some ⟨0x36, i⟩ | .pnot i => some ⟨0x37, i⟩
  | .br i => some ⟨0x08, i⟩ | .brReg i => some ⟨0x09, i⟩ | .brLink i => some ⟨0x0A, i⟩ | .brFork i => some ⟨0x0B, i⟩
  | .hset i => some ⟨0x0C, i⟩ | .hget i => some ⟨0x0D, i⟩ | .halt i => some ⟨0x01, i⟩ | .commit i => some ⟨0x02, i⟩
  | .fenceE i => some ⟨0x03, i⟩ | .semWait i => some ⟨0x04, i⟩ | .semPost i => some ⟨0x05, i⟩
  | .tokenWait i => some ⟨0x06, i⟩ | .tokenSignal i => some ⟨0x07, i⟩
  | .lmm i => some ⟨0x40, i⟩ | .lmmRes2 i => some ⟨0x41, i⟩ | .lmmRes4 i => some ⟨0x42, i⟩ | .lmmRes8 i => some ⟨0x43, i⟩
  | .lmmRr i => some ⟨0x44, i⟩ | .tcfg i => some ⟨0x48, i⟩ | .tzero i => some ⟨0x49, i⟩ | .tmove i => some ⟨0x4A, i⟩
  | .ntt i => some ⟨0x50, i⟩ | .intt i => some ⟨0x51, i⟩ | .auto i => some ⟨0x52, i⟩
  | .vchain i => some ⟨0x60, i⟩ | .vred i => some ⟨0x61, i⟩
  | .vhistArm i => if Sys2Proof.Machine.fld i.bits 27 2 = 0 ∨ Sys2Proof.Machine.fld i.bits 27 2 = 3 then some ⟨0x62, i⟩ else none
  | .vhistClear i => if Sys2Proof.Machine.fld i.bits 27 2 = 1 then some ⟨0x62, i⟩ else none
  | .vhistRead i => if Sys2Proof.Machine.fld i.bits 27 2 = 2 then some ⟨0x62, i⟩ else none
  | .mred i => some ⟨0x63, i⟩ | .rescale i => some ⟨0x64, i⟩
  | .ld i => some ⟨0x70, i⟩ | .ldS i => some ⟨0x71, i⟩ | .ldH i => some ⟨0x72, i⟩ | .ldC i => some ⟨0x73, i⟩
  | .stS i => some ⟨0x74, i⟩ | .stH i => some ⟨0x75, i⟩ | .ldt i => some ⟨0x76, i⟩ | .stt i => some ⟨0x77, i⟩
  | .gather i => some ⟨0x78, i⟩ | .scatter i => some ⟨0x79, i⟩ | .rput i => some ⟨0x7A, i⟩ | .rget i => some ⟨0x7B, i⟩
  | .radd i => some ⟨0x7C, i⟩ | .fill i => some ⟨0x7D, i⟩ | .cksum i => some ⟨0x7E, i⟩ | .kexp i => some ⟨0x7F, i⟩
  | .undefinedOpcodeIssue op i => if Sys2Proof.Machine.opcodeListed op.toNat then none else some ⟨op, i⟩
  | _ => none
end

