-- ==== Sys2Proof/Certificates/Slice0/Obligations.lean ====
section
/-! DEFINITION. The statements for the provers. -/

open Sys2Proof Sys2Proof.Machine

/-! ### Steps -/

/-- A step takes the command at the front of the queue and answers what the command does to the state with the rest of the
queue, and that is always a next state: no command faults or is refused. -/
def Obligations.StepRunsTheFront : Prop :=
  ∀ (c : Instr) (s : State), step { s with pending := c :: s.pending } = exec c s ∧ ∃ t, exec c s = .next t

/-- On an empty queue the block idles and time passes (the model's choice, log 13): one mesh cycle while the mesh clock runs, one
cocoon cycle, counted as four, while only the cocoon runs, and nothing changes without power. Besides the time only the
counters, and the no-progress times of flasks with a halted core (R542), move. -/
def Obligations.EmptyQueueLetsTimePass : Prop :=
  ∀ s : State, s.pending = [] → ∃ t, step s = .next t ∧
    t.now = s.now + (if s.hubRuns = true then 1 else if s.cocoonRuns = true then 4 else 0) ∧
    (∀ c, t.core c = s.core c) ∧ { t.rest with now := 0, cnt := s.cnt } = { s.rest with now := 0, cnt := s.cnt } ∧
    { t.cnt with ctl := [], val := [], live := [] } = { s.cnt with ctl := [], val := [], live := [] } ∧
    (∀ f, { t.flask f with lastProgress := 0 } = { s.flask f with lastProgress := 0 }) ∧
    (∀ f, (s.hosts f).any (fun c => (s.core c).haltreq) = false → t.flask f = s.flask f) ∧ s.sameBytes t

/-! ### Scalar, predicate, branch and slot instructions -/

/-- The register forms write f(sA, sB) to sD, on 64-bit words that wrap, and leave every other register, predicate, thread,
core, special register and byte of memory as it was (R294, Table 10-5). -/
def Obligations.RegisterFormsCompute : Prop :=
  ∀ (i : Ins) (s : State),
    let form (opc : BitVec 8) (f : Word → Word → Word) (c : Instr) : Prop :=
      let o : Op := ⟨opc, i⟩
      let x := s.thread i.core i.thread
      s.issues o → s.nextOk o →
        s.leaves o ((x.setReg (fld i.bits 46 5) (f (x.reg (fld i.bits 41 5)) (x.reg (fld i.bits 36 5)))).past o) (exec c s)
    form 0x10 (fun a b => a + b) (.add i) ∧ form 0x11 (fun a b => a - b) (.sub i) ∧ form 0x12 (fun a b => a * b) (.mul i) ∧
    form 0x13 (fun a b => a &&& b) (.and i) ∧ form 0x14 (fun a b => a ||| b) (.or i) ∧ form 0x15 (fun a b => a ^^^ b) (.xor i) ∧
    form 0x16 (fun a b => a <<< (b.toNat % 64)) (.shl i) ∧ form 0x17 (fun a b => a >>> (b.toNat % 64)) (.shr i) ∧
    form 0x18 (fun a b => a.sshiftRight (b.toNat % 64)) (.sra i) ∧
    form 0x19 (fun a b => if a.toInt < b.toInt then a else b) (.min i) ∧
    form 0x1A (fun a b => if a.toInt < b.toInt then b else a) (.max i)

/-- The immediate forms compute with the sign-extended 32-bit immediate; MOVI writes it, MOVHI writes it to the high half
(R294, Table 10-5). Nothing else changes. -/
def Obligations.ImmediateFormsCompute : Prop :=
  ∀ (i : Ins) (s : State),
    let imm : Word := (BitVec.ofNat 32 (fld i.bits 0 32)).signExtend 64
    let form (opc : BitVec 8) (f : Word → Word → Word) (c : Instr) : Prop :=
      let o : Op := ⟨opc, i⟩
      let x := s.thread i.core i.thread
      s.issues o → s.nextOk o →
        s.leaves o ((x.setReg (fld i.bits 46 5) (f (x.reg (fld i.bits 41 5)) imm)).past o) (exec c s)
    form 0x20 (fun a b => a + b) (.addI i) ∧ form 0x21 (fun a b => a - b) (.subI i) ∧ form 0x22 (fun a b => a * b) (.mulI i) ∧
    form 0x23 (fun a b => a &&& b) (.andI i) ∧ form 0x24 (fun a b => a ||| b) (.orI i) ∧ form 0x25 (fun a b => a ^^^ b) (.xorI i) ∧
    form 0x26 (fun a b => a <<< (b.toNat % 64)) (.shlI i) ∧ form 0x27 (fun a b => a >>> (b.toNat % 64)) (.shrI i) ∧
    form 0x28 (fun a b => a.sshiftRight (b.toNat % 64)) (.sraI i) ∧
    form 0x29 (fun a b => if a.toInt < b.toInt then a else b) (.minI i) ∧
    form 0x2A (fun a b => if a.toInt < b.toInt then b else a) (.maxI i) ∧
    form 0x2B (fun _ b => b) (.movi i) ∧
    (let o : Op := ⟨0x2C, i⟩
     let x := s.thread i.core i.thread
     let d := fld i.bits 46 5
     s.issues o → s.nextOk o →
       s.leaves o ((x.setReg d (BitVec.ofNat 32 (fld i.bits 0 32) ++ (x.reg d).setWidth 32 : Word)).past o) (exec (.movhi i) s))

/-- CMP and CMP.I write the comparison that CC selects, the predicate instructions AND, OR, exclusive OR and NOT of their
sources (R295, R296). Nothing else changes. Whatever a write left in its place, p0 reads 1 (R245). -/
def Obligations.PredicatesAreWritten : Prop :=
  ∀ (i : Ins) (s : State),
    let x := s.thread i.core i.thread
    let cc := fld i.bits 45 3
    let compare (a b : Word) : Bool :=
      match cc with
      | 0 => decide (a = b)
      | 1 => decide (a ≠ b)
      | 2 => decide (a.toInt < b.toInt)
      | 3 => decide (a.toInt ≤ b.toInt)
      | 4 => decide (a.toNat < b.toNat)
      | _ => decide (a.toNat ≤ b.toNat)
    let form (opc : BitVec 8) (v : Bool) (c : Instr) : Prop :=
      let o : Op := ⟨opc, i⟩
      let d := fld i.bits 48 3
      s.issues o → s.nextOk o → ∃ p : BitVec 8,
        s.leaves o ({ x with p := p }.past o) (exec c s) ∧
        ∀ n < 8, n ≠ 0 → p.getLsbD n = (if n = d then v else x.p.getLsbD n)
    form 0x30 (compare (x.reg (fld i.bits 40 5)) (x.reg (fld i.bits 35 5))) (.cmp i) ∧
    form 0x31 (compare (x.reg (fld i.bits 40 5)) ((BitVec.ofNat 32 (fld i.bits 0 32)).signExtend 64)) (.cmpI i) ∧
    form 0x34 (x.pred (fld i.bits 45 3) && x.pred (fld i.bits 42 3)) (.pand i) ∧
    form 0x35 (x.pred (fld i.bits 45 3) || x.pred (fld i.bits 42 3)) (.por i) ∧
    form 0x36 (x.pred (fld i.bits 45 3) != x.pred (fld i.bits 42 3)) (.pxor i) ∧
    form 0x37 (!x.pred (fld i.bits 45 3)) (.pnot i) ∧
    ∀ (y : Thread) (n : Nat) (v : Bool), (y.setPred n v).pred 0 = true

/-- BR goes to PC + OFF, BR.REG to sA[31:0], BR.LINK also writes PC + 8 to sD. A target that is not a word of the code
partition faults with F_WINDOW at fetch (R248, R297). -/
def Obligations.BranchesGo : Prop :=
  ∀ (i : Ins) (s : State),
    let x := s.thread i.core i.thread
    let rel : BitVec 32 := x.pc + BitVec.ofNat 32 (fld i.bits 0 32)
    let form (opc : BitVec 8) (y : Thread) (target : BitVec 32) (c : Instr) : Prop :=
      let o : Op := ⟨opc, i⟩
      s.issues o →
        (s.pcOk i.core target = true → s.leaves o { y with pc := target } (exec c s)) ∧
        (s.pcOk i.core target = false → ∃ t f l, exec c s = .next t ∧ s.serving i.core = some (f, l) ∧
          (t.flask f).stage = .stopping .fault ∧
          (t.flask f).fault = some ⟨fWindow, l, 0, BitVec.ofNat 8 i.thread, target, 0, some s.now⟩ ∧
          (s.hosts f).all (fun c => (t.core c).se.queue == [] && (t.core c).lme.queue == [] && (t.core c).te.queue == [] &&
            (t.core c).ve.queue == []) = true)
    form 0x08 x rel (.br i) ∧
    form 0x09 x ((x.reg (fld i.bits 46 5)).setWidth 32) (.brReg i) ∧
    form 0x0A (x.setReg (fld i.bits 46 5) (x.pc.setWidth 64 + 8)) rel (.brLink i)

/-- BR.FORK starts thread T at its target with the registers of Table 9-2 when T is HALTED and all it issued has ended; until
then the forking thread stalls (R245, R246). FORK_THREAD_START ends that stall. -/
def Obligations.ForkStartsAThread : Prop :=
  ∀ (i : Ins) (s : State),
    let o : Op := ⟨0x0B, i⟩
    let x := s.thread i.core i.thread
    let n := fld i.bits 47 4
    let target : BitVec 32 := x.pc + BitVec.ofNat 32 (fld i.bits 0 32)
    let free : Prop := (s.thread i.core n).run = .halted ∧ ∀ e ∈ (s.core i.core).outstanding, e.op.thread ≠ n
    let started (t : State) : Prop := t.thread i.core i.thread = x.past o ∧
      (t.thread i.core n).pc = target ∧ (t.thread i.core n).run = .run ∧ (t.thread i.core n).p = 1 ∧
      (t.thread i.core n).reg 0 = BitVec.ofNat 64 n ∧ (t.thread i.core n).reg 5 = x.reg (fld i.bits 42 5) ∧
      (∀ f l, s.serving i.core = some (f, l) → (t.thread i.core n).reg 1 = BitVec.ofNat 64 l ∧
        (t.thread i.core n).reg 4 = (s.flask f).arg ∧
        ∀ d, s.flaskDef f = some d → (t.thread i.core n).reg 2 = BitVec.ofNat 64 d.ncores) ∧
      (t.thread i.core n).reg 3 = s.fab.addr.setWidth 64 ∧ (∀ k, 6 ≤ k → (t.thread i.core n).reg k = 0) ∧
      (∀ u, u ≠ i.thread → u ≠ n → t.thread i.core u = s.thread i.core u) ∧ s.onlyCore t i.core
    (s.issues o → s.nextOk o → s.pcOk i.core target = true →
      (free → ∃ t, exec (.brFork i) s = .next t ∧ started t) ∧
      (¬ free → s.leaves o (x.holds o (.fork i.thread) (s.issueCycle i.core)) (exec (.brFork i) s))) ∧
    (∀ m, x.held = some ⟨.fork i.thread, m, o⟩ → s.coreIssues i.core = true → i.thread.val ≠ n → s.nextOk o →
      s.pcOk i.core target = true → free → ∃ t, exec (.forkThreadStart i.core i.thread) s = .next t ∧ started t)

/-- HSET writes the eight bytes W of slot H, low byte first, and no other byte of it; HGET reads them (R298, R5). -/
def Obligations.SlotWordsAreSetAndGot : Prop :=
  ∀ (i : Ins) (s : State),
    let x := s.thread i.core i.thread
    let slot (t : State) (h b : Nat) : Byte := Sparse.get 0 (t.core i.core).arch.rcd.slots (128 * h + b)
    (let o : Op := ⟨0x0C, i⟩
     let v := x.reg (fld i.bits 32 5)
     s.issues o → s.nextOk o → ∃ t, exec (.hset i) s = .next t ∧ t.thread i.core i.thread = x.past o ∧ s.onlyCore t i.core ∧
       (∀ u, u ≠ i.thread → t.thread i.core u = s.thread i.core u) ∧
       (∀ b < 8, slot t (fld i.bits 41 10) (8 * fld i.bits 37 4 + b) = BitVec.ofNat 8 (v.toNat / 256 ^ b)) ∧
       (∀ a, ¬ (128 * fld i.bits 41 10 + 8 * fld i.bits 37 4 ≤ a ∧ a < 128 * fld i.bits 41 10 + 8 * fld i.bits 37 4 + 8) →
         slot t 0 a = slot s 0 a)) ∧
    (let o : Op := ⟨0x0D, i⟩
     s.issues o → s.nextOk o → ∃ v : Word,
       s.leaves o ((x.setReg (fld i.bits 46 5) v).past o) (exec (.hget i) s) ∧
       ∀ b < 8, BitVec.ofNat 8 (v.toNat / 256 ^ b) = slot s (fld i.bits 36 10) (8 * fld i.bits 32 4 + b))

/-! ### Ordering instructions -/

/-- HALT halts the thread. FENCE.E lets it go on when nothing it issued to a masked engine is incomplete, and stalls it
otherwise; FENCE_RELEASE ends the stall, and not before. Nothing else changes (R247, R268). COMMIT stalls its thread at the barrier, and a
NOTIFY is remembered for the commit of its flask (R275, R280). -/
def Obligations.OrderingInstructionsHold : Prop :=
  ∀ (i : Ins) (s : State),
    let x := s.thread i.core i.thread
    let mask : BitVec 4 := BitVec.ofNat 4 (fld i.bits 47 4)
    let busy : Prop := ∃ b u, (b, u) ∈ [(3, 4), (2, 3), (1, 2), (0, 1)] ∧ mask.getLsbD b = true ∧
      ∃ e ∈ (s.core i.core).outstandingIn u, e.op.thread = i.thread
    (s.issues ⟨0x01, i⟩ → s.leaves ⟨0x01, i⟩ { x with run := .halted, pc := x.pc + 8 } (exec (.halt i) s)) ∧
    (s.issues ⟨0x03, i⟩ → s.nextOk ⟨0x03, i⟩ →
      (¬ busy → s.leaves ⟨0x03, i⟩ (x.past ⟨0x03, i⟩) (exec (.fenceE i) s)) ∧
      (busy → s.leaves ⟨0x03, i⟩ (x.holds ⟨0x03, i⟩ (.fence mask) (s.issueCycle i.core)) (exec (.fenceE i) s))) ∧
    (∀ n, x.held = some ⟨.fence mask, n, ⟨0x03, i⟩⟩ → s.coreIssues i.core = true → s.nextOk ⟨0x03, i⟩ → ¬ busy →
      s.leaves ⟨0x03, i⟩ (x.past ⟨0x03, i⟩) (exec (.fenceRelease i.core i.thread) s)) ∧
    (∀ n, x.held = some ⟨.fence mask, n, ⟨0x03, i⟩⟩ → busy → exec (.fenceRelease i.core i.thread) s = .next s) ∧
    (∀ f l, s.issues ⟨0x02, i⟩ → s.serving i.core = some (f, l) → ∃ t, exec (.commit i) s = .next t ∧
      t.thread i.core i.thread = x.holds ⟨0x02, i⟩ .commit (s.issueCycle i.core) ∧
      (t.flask f).notify = ((s.flask f).notify || bitAt i.bits 50) ∧
      { t.flask f with notify := false, lastProgress := 0 } = { s.flask f with notify := false, lastProgress := 0 } ∧
      t.rest = s.rest ∧ (∀ d, d ≠ i.core.val → t.core d = s.core d) ∧
      (∀ g, g ≠ f → { t.flask g with lastProgress := 0 } = { s.flask g with lastProgress := 0 }) ∧ s.sameBytes t ∧
      (t.core i.core).sansThreads = (s.core i.core).sansThreads ∧ ∀ u, u ≠ i.thread → t.thread i.core u = s.thread i.core u)

/-- SEM.WAIT takes 1 from a half that is not 0 and stalls otherwise, SEM.POST adds N and saturates, and SEM_WAIT_SATISFIED
ends the stall, and not before (R266). The other half, the other pairs and all else stay. -/
def Obligations.SemaphoresCount : Prop :=
  ∀ (i : Ins) (s : State),
    let x := s.thread i.core i.thread
    let p := fld i.bits 43 8
    let empty : Bool := fld i.bits 42 1 == 1
    let half (t : State) (q : Nat) (e : Bool) : Nat := if e then ((t.core i.core).sem q).empty else ((t.core i.core).sem q).full
    let moved (o : Op) (n : Nat) (out : Host.Outcome State Fault Refusal) : Prop := ∃ t, out = .next t ∧
      t.thread i.core i.thread = x.past o ∧ s.onlyCore t i.core ∧ half t p empty = n ∧ half t p (!empty) = half s p (!empty) ∧
      (∀ q, q ≠ p → (t.core i.core).sem q = (s.core i.core).sem q) ∧
      (t.core i.core).sansThreads.modRec (fun r => { r with sems := [] }) =
        (s.core i.core).sansThreads.modRec (fun r => { r with sems := [] }) ∧
      ∀ u, u ≠ i.thread → t.thread i.core u = s.thread i.core u
    (s.issues ⟨0x04, i⟩ → s.nextOk ⟨0x04, i⟩ →
      (1 ≤ half s p empty → moved ⟨0x04, i⟩ (half s p empty - 1) (exec (.semWait i) s)) ∧
      (half s p empty = 0 → s.leaves ⟨0x04, i⟩ (x.holds ⟨0x04, i⟩ (.semWait p empty) (s.issueCycle i.core)) (exec (.semWait i) s))) ∧
    (s.issues ⟨0x05, i⟩ → s.nextOk ⟨0x05, i⟩ →
      moved ⟨0x05, i⟩ (min 0xFFFF (half s p empty + fld i.bits 34 8)) (exec (.semPost i) s)) ∧
    (∀ n b, x.held = some ⟨.semWait p b, n, ⟨0x04, i⟩⟩ → s.coreIssues i.core = true → s.nextOk ⟨0x04, i⟩ → 1 ≤ half s p empty →
      moved ⟨0x04, i⟩ (half s p empty - 1) (exec (.semWaitSatisfied i.core i.thread) s)) ∧
    (∀ n b, x.held = some ⟨.semWait p b, n, ⟨0x04, i⟩⟩ → half s p empty = 0 → exec (.semWaitSatisfied i.core i.thread) s = .next s)

/-- TOKEN.WAIT takes n tokens of a queue that holds as many and serves it first, and stalls otherwise; TOKEN.SIGNAL adds n
tokens where they fit beside the promised places, and stalls otherwise; the two ends of those stalls do the same, and not before
(R262, R263). All else stays. -/
def Obligations.TokensMove : Prop :=
  ∀ (i : Ins) (s : State),
    let x := s.thread i.core i.thread
    let k := s.core i.core
    let q := fld i.bits 45 6
    let n := fld i.bits 39 6
    let moved (o : Op) (m : Nat) (out : Host.Outcome State Fault Refusal) : Prop := ∃ t, out = .next t ∧
      t.thread i.core i.thread = x.past o ∧ s.onlyCore t i.core ∧
      (t.core i.core).tokq q = ⟨m, (k.tokq q).reserved⟩ ∧ (∀ p, p ≠ q → (t.core i.core).tokq p = k.tokq p) ∧
      (t.core i.core).sansThreads.modRec (fun r => { r with tokq := [] }) = k.sansThreads.modRec (fun r => { r with tokq := [] }) ∧
      ∀ u, u ≠ i.thread → t.thread i.core u = s.thread i.core u
    let first (ticket : Nat) : Prop :=
      ∀ w ∈ k.waiters q, ticket < w.1 ∨ (ticket = w.1 ∧ 4 + i.thread.val ≤ w.2)
    (s.issues ⟨0x06, i⟩ → s.nextOk ⟨0x06, i⟩ →
      (n ≤ (k.tokq q).count ∧ first (s.issueCycle i.core) → moved ⟨0x06, i⟩ ((k.tokq q).count - n) (exec (.tokenWait i) s)) ∧
      (¬ (n ≤ (k.tokq q).count ∧ first (s.issueCycle i.core)) →
        s.leaves ⟨0x06, i⟩ (x.holds ⟨0x06, i⟩ (.tokenWait q n) (s.issueCycle i.core)) (exec (.tokenWait i) s))) ∧
    (∀ m, x.held = some ⟨.tokenWait q n, m, ⟨0x06, i⟩⟩ → s.coreIssues i.core = true → s.nextOk ⟨0x06, i⟩ →
      n ≤ (k.tokq q).count → first m → moved ⟨0x06, i⟩ ((k.tokq q).count - n) (exec (.tokenWaitSatisfied i.core i.thread) s)) ∧
    (∀ m, x.held = some ⟨.tokenWait q n, m, ⟨0x06, i⟩⟩ → (k.tokq q).count < n → exec (.tokenWaitSatisfied i.core i.thread) s = .next s) ∧
    (s.issues ⟨0x07, i⟩ → s.nextOk ⟨0x07, i⟩ →
      ((k.tokq q).count + (k.tokq q).reserved + n ≤ 32 → moved ⟨0x07, i⟩ ((k.tokq q).count + n) (exec (.tokenSignal i) s)) ∧
      (32 < (k.tokq q).count + (k.tokq q).reserved + n →
        s.leaves ⟨0x07, i⟩ (x.holds ⟨0x07, i⟩ (.signalPlace q n) (s.issueCycle i.core)) (exec (.tokenSignal i) s))) ∧
    (∀ m, x.held = some ⟨.signalPlace q n, m, ⟨0x07, i⟩⟩ → s.coreIssues i.core = true → s.nextOk ⟨0x07, i⟩ →
      (k.tokq q).count + (k.tokq q).reserved + n ≤ 32 →
      moved ⟨0x07, i⟩ ((k.tokq q).count + n) (exec (.tokenPlaceIssue i.core i.thread) s)) ∧
    (∀ m, x.held = some ⟨.signalPlace q n, m, ⟨0x07, i⟩⟩ → s.coreIssues i.core = true →
      32 < (k.tokq q).count + (k.tokq q).reserved + n → exec (.tokenPlaceIssue i.core i.thread) s = .next s)

/-! ### Issue -/

/-- An engine instruction that issues enters its engine's queue behind what waits there, with its PC and the scalar values it
names, and reserves a place in its signal queue; its thread goes on (R252, R258, R289). The other queues of the core, its
other threads and all else stay. It holds of lmm, lmmRes2, lmmRes4, lmmRes8, lmmRr, tcfg, tzero, tmove, ntt, intt, auto,
vchain, vred, vhistArm, vhistClear, vhistRead, mred, rescale, ld, ldS, stS, ldH, stH, ldC, ldt, stt, gather, scatter, rput, rget,
radd, fill, cksum and kexp. -/
def Obligations.EngineInstructionsEnterTheirQueue : Prop :=
  ∀ (c : Instr) (o : Op) (s : State), c.asOp = some o → unitOf o.code ≠ 0 → s.issues o → s.nextOk o →
    let x := s.thread o.core o.thread
    let k := s.core o.core
    let e : QEnt := ⟨o, x.pc, (readRegs o).map x.reg, s.issueCycle o.core⟩
    let queue (k : Core) (u : Nat) : List QEnt := if u = 4 then k.se.queue else (k.engine u).queue
    ∃ t, exec c s = .next t ∧
      queue (t.core o.core) (unitOf o.code) = queue k (unitOf o.code) ++ [e] ∧
      (∀ u ∈ [1, 2, 3, 4], u ≠ unitOf o.code → queue (t.core o.core) u = queue k u) ∧
      t.thread o.core o.thread = { x.past o with busy := x.busy ++ writeRegs o } ∧
      (∀ u, u ≠ o.thread → t.thread o.core u = s.thread o.core u) ∧
      (∀ q, (t.core o.core).tokq q = (if o.sen = true ∧ q = o.sq then ⟨(k.tokq q).count, (k.tokq q).reserved + 1⟩ else k.tokq q)) ∧
      (t.core o.core).sansQueues = k.sansQueues ∧ s.onlyCore t o.core

/-- An instruction whose guard is 0 is skipped: its thread goes on past it, and it enters no queue, reserves no place, writes
nothing and raises no fault (R251, R285). -/
def Obligations.GuardSkips : Prop :=
  ∀ (c : Instr) (o : Op) (s : State), c.asOp = some o → s.mayIssue o = true → s.fetchThrough o = (s, true) →
    s.guardOn o = false → s.nextOk o →
    s.leaves o ((s.thread o.core o.thread).past o) (exec c s)

/-- An executed instruction that fails a check at issue faults with the code of the first it fails: the pour records the
first fault with its core, thread, PC and word, SEQ_FAULT records it where it held none, the flask stops, and what waits in
the engine queues of its cores is discarded (R270, R271, R286, R605). UNDEFINED_OPCODE_ISSUE is such an instruction. Behind
the last instruction of the code partition the fetch faults with F_WINDOW at its PC (R248). A
fetch from a block that is lost or cannot be corrected faults with F_ECC_UNCORRECTABLE (R367, R368). -/
def Obligations.IssueFaults : Prop :=
  (∀ (c : Instr) (o : Op) (s : State) (f l : Nat) (code : BitVec 8), c.asOp = some o → s.mayIssue o = true →
    s.fetchThrough o = (s, true) → (o.xt = true → s.pcOk o.core ((s.thread o.core o.thread).pc + 8) = true) → s.guardOn o = true →
    issueFault o (s.declared o.core) = some code → s.serving o.core = some (f, l) →
    (opcodeListed o.code = false → code = fDescFormat) ∧
    ∃ t, exec c s = .next t ∧ (t.flask f).stage = .stopping .fault ∧
      (t.flask f).fault = some ⟨code, l, 0, BitVec.ofNat 8 o.thread, (s.thread o.core o.thread).pc, o.word, some s.now⟩ ∧
      ((s.core o.core).faultCode = 0 → (t.core o.core).faultCode = code ∧ (t.core o.core).faultUnit = 0 ∧
        (t.core o.core).faultThread = BitVec.ofNat 4 o.thread ∧ (t.core o.core).faultPc = (s.thread o.core o.thread).pc ∧
        (t.core o.core).faultWord = o.word) ∧
      (∀ d ∈ s.hosts f, (t.core d).outstanding = ((s.core d).lme.flights.map (·.ent)) ++ ((s.core d).te.flights.map (·.ent)) ++
        ((s.core d).ve.flights.map (·.ent)) ++ ((s.core d).se.active.map (·.ent))) ∧
      (∀ d n, t.thread d n = s.thread d n) ∧ t.rest = s.rest ∧ s.sameBytes t) ∧
  (∀ (c : Instr) (o : Op) (s : State) (f l : Nat), c.asOp = some o → s.mayIssue o = true → (s.fetchThrough o).2 = false →
    s.serving o.core = some (f, l) → ∃ t, exec c s = .next t ∧ (t.flask f).stage = .stopping .fault ∧
      (t.flask f).fault = some ⟨fEcc, l, 0, BitVec.ofNat 8 o.thread, (s.thread o.core o.thread).pc, o.word, some s.now⟩) ∧
  ∀ (c : Instr) (o : Op) (s : State) (f l : Nat), c.asOp = some o → s.issues o → ¬ s.nextOk o → s.serving o.core = some (f, l) →
    (unitOf o.code ≠ 0 ∨ o.code = 0x0C ∨ o.code = 0x0D ∨ 0x10 ≤ o.code) →
    let pc := (s.thread o.core o.thread).pc + BitVec.ofNat 32 o.size
    ∃ t, exec c s = .next t ∧ (t.flask f).stage = .stopping .fault ∧
      (t.flask f).fault = some ⟨fWindow, l, 0, BitVec.ofNat 8 o.thread, pc, 0, some s.now⟩ ∧ (t.thread o.core o.thread).pc = pc ∧
      ((s.core o.core).faultCode = 0 → (t.core o.core).faultCode = fWindow ∧ (t.core o.core).faultPc = pc)

/-- An instruction that a slot, a signal queue without a place or a full engine queue stops does not issue and does not fault:
its thread enters STALL and holds it. When the cause has gone, the instruction issues: an engine instruction enters its
engine's queue, HGET reads its slot and HSET writes it, and the thread goes on (R66, R252, R258). -/
def Obligations.StallsHoldAndEnd : Prop :=
  (∀ (c : Instr) (o : Op) (s : State) (w : Hold) (ev : Nat), c.asOp = some o → s.mayIssue o = true →
    s.fetchThrough o = (s, true) → (o.xt = true → s.pcOk o.core ((s.thread o.core o.thread).pc + 8) = true) → s.guardOn o = true →
    issueFault o (s.declared o.core) = none → (s.thread o.core o.thread).interlocked o = false → s.stallOf o = some (w, ev) →
    s.leaves o ((s.thread o.core o.thread).holds o w (s.slotCycle o.core)) (exec c s)) ∧
  ∀ (c : Fin 64) (n : Fin 16) (s : State) (m : Nat) (o : Op) (w : Hold),
    let x := s.thread c n
    let queue (k : Core) : List QEnt := if unitOf o.code = 4 then k.se.queue else (k.engine (unitOf o.code)).queue
    let slots (t : State) : Nat → Byte := Sparse.get 0 (t.core c).arch.rcd.slots
    let row : Instr := if w = .queueFull then .queueFullIssue c n else if w = .tokenPlace then .tokenPlaceIssue c n else .slotStallResume c n
    w ∈ [Hold.queueFull, Hold.tokenPlace, Hold.slot] → x.held = some ⟨w, m, o⟩ → o.core = c → o.thread = n →
    s.coreIssues c = true → s.stallOf o = none → s.nextOk o →
    ∃ t, exec row s = .next t ∧ (∀ u, u ≠ n.val → t.thread c u = s.thread c u) ∧ s.onlyCore t c ∧
      (unitOf o.code ≠ 0 → queue (t.core c) = queue (s.core c) ++ [⟨o, x.pc, (readRegs o).map x.reg, s.issueCycle c⟩] ∧
        t.thread c n = { x.past o with busy := x.busy ++ writeRegs o }) ∧
      (o.code = 0x0C → t.thread c n = x.past o ∧
        (∀ b < 8, slots t (128 * o.f 41 10 + 8 * o.f 37 4 + b) = BitVec.ofNat 8 ((x.reg (o.f 32 5)).toNat / 256 ^ b))) ∧
      (o.code = 0x0D → ∃ v, t.thread c n = (x.setReg (o.f 46 5) v).past o ∧
        ∀ b < 8, BitVec.ofNat 8 (v.toNat / 256 ^ b) = slots s (128 * o.f 36 10 + 8 * o.f 32 4 + b))


/-! ### Fixed-latency engines -/

/-- The head of a fixed-latency engine that may start (R120, R174, R234, R256) and passes its start checks leaves its queue
with the token it waited for and is in flight, with the start cycle, occupancy and result latency of its timing; the engine
is free for the next from its start plus its occupancy. -/
def Obligations.EnginesStartTheirHead : Prop :=
  ∀ (c : Fin 64) (s : State),
    let started (u : Nat) (check : State → QEnt → Except (BitVec 8) Plan) (row : Instr) : Prop :=
      ∀ (e : QEnt) (rest : List QEnt) (p : Plan), ((s.core c).engine u).queue = e :: rest → s.headReady c u e = true →
        check (s.popHead c u e) e = .ok p → ∃ t f, exec row s = .next t ∧
          ((t.core c).engine u).queue = rest ∧ ((t.core c).engine u).flights = ((s.core c).engine u).flights ++ [f] ∧
          f.ent = e ∧ f.start = s.startCycle c u e ∧ f.occ = p.occ ∧ f.lat = p.lat ∧ f.writes = p.writes ∧ f.abort = p.abort ∧
          ((t.core c).engine u).free = s.startCycle c u e + p.occ ∧
          (∀ q, (t.core c).tokq q = (if e.op.wen = true ∧ q = e.op.wq then
            ⟨((s.core c).tokq q).count - 1, ((s.core c).tokq q).reserved⟩ else (s.core c).tokq q)) ∧
          (∀ n, t.thread c n = s.thread c n) ∧ ∀ d, d ≠ c.val → (t.core d).arch = (s.core d).arch
    started 1 (lmeCheck c) (.lmeInstructionStart c) ∧
    started 2 (teCheck c) (.teInstructionStart c) ∧
    (∀ e rest, ((s.core c).engine 3).queue = e :: rest → mredReads s c e = false →
      ∀ env, started 3 (veCheck c env) (.veInstructionStart c env))

/-- An instruction of a fixed-latency engine that fails a start check aborts without effect: it leaves its queue with its
token, its place in its signal queue is released like those of all that is discarded with it, and its pour faults with the code
of the check (R113, R167, R241, R259, R270). -/
def Obligations.StartChecksFault : Prop :=
  ∀ (c : Fin 64) (s : State) (u : Nat) (check : State → QEnt → Except (BitVec 8) Plan) (row : Instr) (e : QEnt)
    (rest : List QEnt) (code : BitVec 8),
    (u = 1 ∧ check = lmeCheck c ∧ row = .lmeInstructionStart c) ∨ (u = 2 ∧ check = teCheck c ∧ row = .teInstructionStart c) ∨
      (u = 3 ∧ check = veCheck c none ∧ row = .veInstructionStart c none ∧ mredReads s c e = false) →
    ((s.core c).engine u).queue = e :: rest → s.headReady c u e = true → check (s.popHead c u e) e = .error code → s.pourRuns c →
    ∃ t, exec row s = .next t ∧ s.pourFaulted t c u e.op.thread e.pc e.op.word code ∧
      (∀ f l, s.serving c = some (f, l) → c.val ∈ s.hosts f → ((t.core c).engine u).queue = [] ∧
        ∀ q, ((t.core c).tokq q).reserved = ((s.core c).tokq q).reserved - (s.core c).promised q) ∧
      (∀ q, ((t.core c).tokq q).count = ((s.core c).tokq q).count - (if e.op.wen = true ∧ q = e.op.wq then 1 else 0)) ∧
      ((t.core c).engine u).flights = ((s.core c).engine u).flights ∧
      (t.core c).arch.tiles = (s.core c).arch.tiles ∧ (t.core c).arch.bufs = (s.core c).arch.bufs ∧
      (t.core c).arch.rcd.slots = (s.core c).arch.rcd.slots ∧ (∀ n, t.thread c n = s.thread c n) ∧ t.rest = s.rest ∧ s.sameBytes t

/-- The earliest flight of a fixed-latency engine completes (R124, R178, R238): it leaves the engine, its reserved place
becomes a token (R259), and the larger NOISE and the kept UNRELIABLE stand in the slot it writes back (R135). Memory, the
other engines and the threads stay. -/
def Obligations.EnginesComplete : Prop :=
  ∀ (c : Fin 64) (s : State) (u : Nat) (row : Instr) (f : Flight),
    (u = 2 ∧ row = .teInstructionComplete c) ∨ (u = 3 ∧ row = .veInstructionComplete c) ∨
      (u = 1 ∧ row = .lmeInstructionComplete c) →
    firstFlight ((s.core c).engine u).flights = some f → f.abort = none → s.coreAlive c = true →
    ∃ t, exec row s = .next t ∧ ((t.core c).engine u).flights = ((s.core c).engine u).flights.erase f ∧
      ((t.core c).engine u).queue = ((s.core c).engine u).queue ∧
      (∀ q, (t.core c).tokq q = (if f.ent.op.sen = true ∧ q = f.ent.op.sq then
        ⟨((s.core c).tokq q).count + 1, ((s.core c).tokq q).reserved - 1⟩ else (s.core c).tokq q)) ∧
      (∀ k ∈ f.cover, ((t.core c).tile k).valid = true) ∧
      (∀ h m, f.slot = some h → f.md = some m → h < 1024 → m.noise < 2 ^ 16 → ((s.core c).desc h).noise < 2 ^ 16 →
        ((t.core c).desc h).noise = max ((s.core c).desc h).noise m.noise ∧
        ((t.core c).desc h).unreliable = (((s.core c).desc h).unreliable || m.unreliable)) ∧
      (f.slot = none → (t.core c).arch.rcd.slots = (s.core c).arch.rcd.slots) ∧
      (∀ v ∈ [1, 2, 3], v ≠ u → (t.core c).engine v = (s.core c).engine v) ∧ (t.core c).se = (s.core c).se ∧
      (∀ n, t.thread c n = s.thread c n) ∧ s.onlyCore t c

/-- An instruction in flight aborts: LME_ABORT, TE_ABORT and VE_ABORT each complete: it leaves its engine and produces no
token, its place is released, the slot it writes back becomes POISON, the tiles it writes are not valid, and its pour faults
with its code, word and PC (R79, R126, R168, R173, R242, R259). A TE_ABORT that names a slice is F_PERM_CHECK, unless the
instruction's own fault lies in that slice or before it. -/
def Obligations.EnginesAbort : Prop :=
  ∀ (c : Fin 64) (s : State) (f : Flight), s.coreAlive c = true → s.pourRuns c →
    let aborted (u : Nat) (code : BitVec 8) (out : Host.Outcome State Fault Refusal) : Prop := ∃ t, out = .next t ∧
      s.pourFaulted t c u f.ent.op.thread f.ent.pc f.ent.op.word code ∧
      ((t.core c).engine u).flights = ((s.core c).engine u).flights.erase f ∧
      (∀ q, ((t.core c).tokq q).count = ((s.core c).tokq q).count) ∧
      (∀ g l, s.serving c = some (g, l) → c.val ∈ s.hosts g → ∀ q, ((t.core c).tokq q).reserved =
        ((s.core c).tokq q).reserved - (if f.ent.op.sen = true ∧ q = f.ent.op.sq then 1 else 0) - (s.core c).promised q) ∧
      (∀ h, f.slot = some h → h < 1024 → ((t.core c).desc h).poison = true) ∧
      (∀ r ∈ f.writes, isA r.buf = true ∨ isB r.buf = true ∨ isC r.buf = true → ((t.core c).tile r.buf).valid = false) ∧
      (u = 2 → code = fPermCheck → bitAt t.err.sticky sPermCheck = true) ∧
      (∀ d n, t.thread d n = s.thread d n) ∧ s.sameBytes t
    (∀ code, firstFlight (s.core c).lme.flights = some f → f.abort = some code → aborted 1 code (exec (.lmeAbort c code) s)) ∧
    (∀ code, firstFlight (s.core c).ve.flights = some f → f.abort = some code → aborted 3 code (exec (.veAbort c) s)) ∧
    (∀ code, firstFlight (s.core c).te.flights = some f → f.abort = some code → aborted 2 code (exec (.teAbort c none) s)) ∧
    (∀ j code, firstFlight (s.core c).te.flights = some f → f.abort = some code → f.abortAt ≤ j →
      aborted 2 code (exec (.teAbort c (some j)) s)) ∧
    (∀ j, firstFlight (s.core c).te.flights = some f → f.ent.op.code = 0x52 → j < f.ent.op.ns → f.abort = none ∨ j < f.abortAt →
      aborted 2 fPermCheck (exec (.teAbort c (some j)) s))

/-! ### What the engines compute -/

/-- NTT computes Σ x[t] ρ^t modulo q with ρ = ψ^(2 br(i) + 1) (R154). AUTO in the coefficient domain moves x[i] to position
i × k mod N, negated where it wraps, so every source word goes to one place (R170). -/
def Obligations.TransformWords : Prop :=
  (∀ (q psi logn i : Nat) (x : List Nat), 0 < q → x.length = 2 ^ logn → i < 2 ^ logn →
    nttWord q psi logn x i = ((List.range (2 ^ logn)).map (fun t => x.getD t 0 * psi ^ ((2 * bitrev logn i + 1) * t))).sum % q) ∧
  ∀ (q logn k i : Nat) (x : List Nat), 0 < q → 1 ≤ logn → k % 2 = 1 → x.length = 2 ^ logn → (∀ w ∈ x, w < q) → i < 2 ^ logn →
    let n := 2 ^ logn
    let p := i * k % (2 * n)
    (autoCoeff q n k x).length = n ∧
    (p < n → (autoCoeff q n k x).getD p 0 = x.getD i 0) ∧
    (n ≤ p → (autoCoeff q n k x).getD (p - n) 0 = (q - x.getD i 0) % q)

/-- The data effect of a TE instruction that starts: the N words of destination slice j are the transform of source slice j
under the prime that the instruction selects, read at its start, where no other engine's instruction in flight touches the same
words (R154, R155, R160, R164, R170, R171). -/
def Obligations.TransformsWriteTheirSlices : Prop :=
  ∀ (c : Fin 64) (s : State) (e : QEnt) (rest : List QEnt) (p : Plan) (ch : Chain),
    let o := e.op
    (s.core c).te.queue = e :: rest → s.headReady c 2 e = true → teCheck c (s.popHead c 2 e) e = .ok p → p.abort = none →
    breaksDistance (s.core c).te.flights o (s.startCycle c 2 e) p.reads p.writes = false →
    (s.core c).unshared 2 p.reads p.writes = true → s.chain o.teChain = some ch →
    ∃ t, exec (.teInstructionStart c) s = .next t ∧
      (∀ j i pr, j < o.ns → i < 2 ^ ch.logn → (tePrime ch o ((s.core c).desc (o.x 54 10)) j).bind (fun n => ch.primes[n]?) = some pr →
        (t.core c).bufWord o.teDst ((o.d0 + j) * 2 ^ ch.logn + i) =
          (teSlice o.code pr ch.logn (o.x 0 18) (o.teDomain ((s.core c).desc (o.x 54 10)))
            ((s.core c).slice o.teSrc ch.logn (o.s0 + j))).getD i 0 % 2 ^ 32) ∧
      (∀ b, b ≠ o.teDst → (t.core c).buf b = (s.core c).buf b) ∧ (t.core c).arch.tiles = (s.core c).arch.tiles ∧
      s.sameBytes t

/-- TZERO leaves zeros in every byte and cell of the tile it names, and no status bit, where no other engine's instruction in
flight touches them (R107, R326). -/
def Obligations.TzeroZeroes : Prop :=
  ∀ (c : Fin 64) (s : State) (e : QEnt) (rest : List QEnt) (p : Plan),
    (s.core c).lme.queue = e :: rest → s.headReady c 1 e = true → e.op.code = 0x49 →
    lmeCheck c (s.popHead c 1 e) e = .ok p → breaksDistance (s.core c).lme.flights e.op (s.startCycle c 1 e) p.reads p.writes = false →
    (s.core c).unshared 1 p.reads p.writes = true →
    ∃ t, exec (.lmeInstructionStart c) s = .next t ∧
      (∀ u ∈ tilesOf e.op.reg, ((t.core c).tile u).data = [] ∧ ((t.core c).tile u).cells = [] ∧ ((t.core c).tile u).status = []) ∧
      (∀ u, u ∉ tilesOf e.op.reg → ((t.core c).tile u) = ((s.core c).tile u)) ∧ s.sameBytes t

/-! ### The stream engine -/

/-- SE_INSTRUCTION_START completes: the head of the stream engine's queue that may start and passes its checks becomes active with a copy of each descriptor
it names; one that fails a check aborts without effect, its place released and its register free, and faults (R65, R259,
R323, R343). -/
def Obligations.StreamEngineStartsItsHead : Prop :=
  ∀ (c : Fin 64) (s : State) (e : QEnt) (rest : List QEnt),
    (s.core c).se.queue = e :: rest → s.seReady c e = true →
    (seCheck (s.popHead c 4 e) c e = none → ∃ t a, exec (.seInstructionStart c) s = .next t ∧ (t.core c).se.queue = rest ∧
      (t.core c).se.active = (s.core c).se.active ++ [a] ∧ a.id = (s.core c).se.nextId ∧ (t.core c).se.nextId = a.id + 1 ∧
      a.ent = e ∧ a.descs = e.op.copied.map (fun h => ((s.core c).desc h).raw) ∧ a.xfers = [] ∧ a.fault = none ∧
      (∀ q, (t.core c).tokq q = (if e.op.wen = true ∧ q = e.op.wq then
        ⟨((s.core c).tokq q).count - 1, ((s.core c).tokq q).reserved⟩ else (s.core c).tokq q)) ∧
      (∀ n, t.thread c n = s.thread c n) ∧ s.onlyCore t c) ∧
    (∀ code, seCheck (s.popHead c 4 e) c e = some code → s.pourRuns c → e.op.core = c → ∃ t, exec (.seInstructionStart c) s = .next t ∧
      s.pourFaulted t c 4 e.op.thread e.pc e.op.word code ∧ (t.core c).se.active = (s.core c).se.active ∧
      (∀ f l, s.serving c = some (f, l) → c.val ∈ s.hosts f → (t.core c).se.queue = [] ∧
        ∀ q, ((t.core c).tokq q).reserved = ((s.core c).tokq q).reserved - (s.core c).promised q) ∧
      t.thread c e.op.thread = { s.thread c e.op.thread with
        busy := (writeRegs e.op).foldl (fun b r => b.erase r) (s.thread c e.op.thread).busy } ∧
      (∀ n, n ≠ e.op.thread → t.thread c n = s.thread c n) ∧ t.rest = s.rest ∧ s.sameBytes t)

/-- An active instruction whose turn it is, and whose writes have none to issue, issues its next read as one transfer of one
or more access units, which takes a tag and is numbered and timed; nothing is read yet (R340, R341, R343, R357). -/
def Obligations.TransfersIssue : Prop :=
  ∀ (c : Fin 64) (s : State) (id : Nat) (a : SeAct) (x : Acc) (n : Nat),
    let u := a.front s c false
    (s.core c).actOf id = some a → a.id = id → s.coreAlive c = true → s.dutyOf c 0 ≠ 0 → a.fault = none → a.ent.op.code ≠ 0x7F →
    (s.turnOrder c).find? (fun j => (s.issueOf c j).isSome) = some id → s.walkId c ≠ some id →
    a.moved s c = false → s.tryPhase c a true = none → u < a.total → a.phaseNeed s c false u = .acc x →
    a.ent.op.remoteRead = false → s.stackOpen x = true → (s.core c).tagFree 0 = true →
    a.extend s c false false u x 4096 (u + 1) x = some n →
    ∃ t b, exec (.transferIssue c id) s = .next t ∧ (t.core c).actOf id = some b ∧ b.nextR = u + (n + 1) ∧
      b.xfers = a.xfers ++ [⟨(s.core c).se.nextX, .data, 0, u, n + 1, x.block false, 0, s.now, []⟩] ∧ b.got = a.got ∧
      b.ent = a.ent ∧ b.descs = a.descs ∧ (t.core c).se.nextX = (s.core c).se.nextX + 1 ∧ (t.core c).se.turn = id ∧
      (∀ j, j ≠ id → (t.core c).actOf j = (s.core c).actOf j) ∧ (t.core c).se.queue = (s.core c).se.queue ∧
      (∀ n, t.thread c n = s.thread c n) ∧ s.onlyCore t c

/-- A read transfer of a copy that completes within its time and without error delivers, for each of its access units, the
bytes that the pour sees; its tag is free (R341, R343). -/
def Obligations.ReadsDeliver : Prop :=
  ∀ (c : Fin 64) (s : State) (num : Nat) (a : SeAct) (x : Xfer),
    (s.core c).xferOf num = some (a, x) → (s.core c).actOf a.id = some a → s.coreAlive c = true → x.kind = .data → x.pool = 0 →
    s.inTime c x = true → a.ent.op.code = 0x70 → a.fault = none → (s.landXfer c a.id x []).2 = none →
    ∃ t b, exec (.transferComplete c num []) s = .next t ∧ (t.core c).actOf a.id = some b ∧
      b.xfers = a.xfers.filter (fun y => y.num != num) ∧
      ((∀ u y, x.u0 ≤ u → u < x.u0 + x.n → a.readNeed s u = .acc y → y.bit = none ∧ y.len ≤ 256) →
        ∀ u y, x.u0 ≤ u → u < x.u0 + x.n → a.readNeed s u = .acc y →
          b.unitGot u y.len = s.accData c y ∧ Sparse.get false b.arrived u = true) ∧
      s.sameBytes t ∧ ∀ n, t.thread c n = s.thread c n

/-- A write transfer of LD or ST.S that is the next to land on its line changes memory only inside the access units it carries;
one that carries a single unit leaves there the low bytes of ST.S's register, and the bytes that LD has read where no source
of its own lies (R77, R308, R309, R341, R344). -/
def Obligations.WritesLand : Prop :=
  ∀ (c : Fin 64) (s : State) (num : Nat) (a : SeAct) (x : Xfer),
    let span (y : Acc) (key : Nat) : Prop := ∃ pc ∈ s.accPieces c y, pc.1 ≤ key ∧ key < pc.1 + pc.2
    (s.core c).xferOf num = some (a, x) → (s.core c).actOf a.id = some a → s.coreAlive c = true → x.kind = .data → x.pool = 1 →
    s.inTime c x = true → a.mustWait x = false →
    a.ent.op.code = 0x70 ∨ a.ent.op.code = 0x74 → a.dirty = false → a.fault = none → (s.landXfer c a.id x []).2 = none →
    ∃ t, exec (.transferComplete c num []) s = .next t ∧
      (∀ key, (∀ u y, x.u0 ≤ u → u < x.u0 + x.n → a.writeNeed u = .acc y → ¬ span y key) →
        ∀ v, t.readByte v key = s.readByte v key) ∧
      (∀ y i, x.n = 1 → a.writeNeed x.u0 = .acc y → y.bit = none → y.space ≠ 3 → i < y.len →
        let b := t.readByte (.pour (s.viewOf c)) (memKey y.space y.off.toNat + i)
        (a.ent.op.code = 0x74 → b = BitVec.ofNat 8 ((a.ent.val 0).toNat / 256 ^ i)) ∧
        (a.ent.op.code = 0x70 → fmtPlane (a.desc 0).fmt = false → a.blurs s x.u0 y = [] →
          b = (a.unitGot x.u0 y.len).getD i 0)) ∧
      (∀ n, t.thread c n = s.thread c n)

/-- A stream-engine instruction whose transfers have all ended completes: LD.S and CKSUM write their register, LD.H its slot
and LD.C its chain-table entry, its reserved place becomes a token, and its post to a core of its own flask reaches the semaphore it
names there, where no core is shared (R260, R306, R309, R310, R312, R321). -/
def Obligations.StreamEngineCompletes : Prop :=
  ∀ (c : Fin 64) (s : State) (id : Nat) (a : SeAct),
    let o := a.ent.op
    (s.core c).actOf id = some a → s.coreAlive c = true → a.fault = none → a.moved s c = true → a.owesPost = false → a.posted ≠ 1 →
    a.dirty = false → o.core = c →
    ∃ t, exec (.seInstructionComplete c id) s = .next t ∧ (t.core c).actOf id = none ∧
      (∀ q, (t.core c).tokq q = (if o.sen = true ∧ q = o.sq then
        ⟨((s.core c).tokq q).count + 1, ((s.core c).tokq q).reserved - 1⟩ else (s.core c).tokq q)) ∧
      (o.code = 0x71 → (t.thread c o.thread).reg (o.f 32 5) = BitVec.ofNat 64 (leNat (a.unitGot 0 (2 ^ o.f 25 2))) ∧
        (∀ r, r ≠ o.f 32 5 → (t.thread c o.thread).reg r = (s.thread c o.thread).reg r) ∧
        (t.thread c o.thread).busy = (s.thread c o.thread).busy.erase (o.f 32 5)) ∧
      (o.code = 0x7E → a.total = 0 → (t.thread c o.thread).reg (o.f 22 5) = 0) ∧
      (o.code = 0x7E → a.total ≠ 0 → (t.thread c o.thread).reg (o.f 22 5) = (crc32c (a.message s)).setWidth 64) ∧
      (o.code = 0x72 → ∀ b < 128, Sparse.get 0 (t.core c).arch.rcd.slots (128 * o.f 27 10 + b) = (a.unitGot 0 128).getD b 0) ∧
      (o.code = 0x73 → ∀ b < 64, Sparse.get 0 (t.core c).arch.rcd.ctab (64 * o.f 32 5 + b) = (a.unitGot 0 64).getD b 0) ∧
      (∀ f l d, s.serving c = some (f, l) → o.x 23 1 = 1 → o.remoteWrite = false →
        (s.flask f).shares = [] → (s.hosts f)[o.x 8 6]? = some d →
        (t.core d).sem (o.x 14 8) = (if o.x 22 1 = 1
          then { (s.core d).sem (o.x 14 8) with empty := min 0xFFFF (((s.core d).sem (o.x 14 8)).empty + 1) }
          else { (s.core d).sem (o.x 14 8) with full := min 0xFFFF (((s.core d).sem (o.x 14 8)).full + 1) })) ∧
      (∀ n, n ≠ o.thread → t.thread c n = s.thread c n) ∧ s.sameBytes t

/-- A KEXP whose key header arrives and passes its checks may begin its data stream and its key set is logged; one that fails
a check faults with the code of the first it fails (R197, R198, R525). -/
def Obligations.KeyHeadersAreChecked : Prop :=
  ∀ (c : Fin 64) (s : State) (id : Nat) (a : SeAct) (x : Xfer) (ch : Chain),
    let h : List Byte := s.accData c a.headerAcc
    let key : Word := BitVec.ofNat 64 (leAt h 8 8)
    (s.core c).actOf id = some a → a.xfers.find? (fun y => y.kind == .header) = some x → s.coreAlive c = true → a.fault = none →
    s.inTime c x = true → (s.readAll c [a.headerAcc] []).2 = true → s.chain (a.desc 1).chain = some ch →
    (headerCheck h (a.desc 0) (a.desc 1) ch = none → ∃ t b, exec (.kexpHeaderArrival c id []) s = .next t ∧
      (t.core c).actOf id = some b ∧ b.checked = true ∧ b.descs = a.descs.take 4 ++ [h] ∧
      b.xfers = a.xfers.filter (fun y => y.num != x.num) ∧
      (key ∈ t.sec.ksids ∨ (256 ≤ t.sec.ksids.length ∧ t.sec.ksovf = true)) ∧ (∀ k ∈ s.sec.ksids, k ∈ t.sec.ksids) ∧
      s.sameBytes t ∧ ∀ n, t.thread c n = s.thread c n) ∧
    (∀ code, headerCheck h (a.desc 0) (a.desc 1) ch = some code → s.pourRuns c → ∃ t,
      exec (.kexpHeaderArrival c id []) s = .next t ∧ s.pourFaulted t c 4 a.ent.op.thread a.ent.pc a.ent.op.word code ∧
      t.sec.ksids = s.sec.ksids ∧ s.sameBytes t) ∧
    (leAt h 0 4 ≠ 0x474E4B48 → headerCheck h (a.desc 0) (a.desc 1) ch = some fDescFormat) ∧
    (headerOk h (a.desc 0) ch = true → leAt h 8 8 ≠ (a.desc 1).ksid ∨ bytesAt h 16 16 ≠ ch.fprint →
      headerCheck h (a.desc 0) (a.desc 1) ch = some fKeySet) ∧
    (headerOk h (a.desc 0) ch = true → leAt h 8 8 = (a.desc 1).ksid → bytesAt h 16 16 = ch.fprint →
      leAt h 6 1 ≠ (a.desc 0).ktype ∨ leAt h 32 4 ≠ (a.desc 0).galois → headerCheck h (a.desc 0) (a.desc 1) ch = some fGalois)

/-- A transfer whose timer has run out gives back its tag, and its instruction faults with F_TIMEOUT: it ends when no transfer
of it is outstanding, and issues none until then (R314, R357, R358). -/
def Obligations.TransfersTimeOut : Prop :=
  ∀ (c : Fin 64) (s : State) (num : Nat) (a : SeAct) (x : Xfer),
    (s.core c).xferOf num = some (a, x) → (s.core c).actOf a.id = some a → s.coreAlive c = true → s.inTime c x = false → a.fault = none →
    s.pourRuns c → a.id < (s.core c).se.nextId → (∀ w, (s.core c).se.walk = some w → w.id ≠ a.id) →
    ∃ t, exec (.transferTimeout c num) s = .next t ∧
      s.pourFaulted t c 4 a.ent.op.thread a.ent.pc a.ent.op.word fTimeout ∧
      (a.xfers.filter (fun y => y.num != num) = [] → (t.core c).actOf a.id = none) ∧
      (a.xfers.filter (fun y => y.num != num) ≠ [] → ∃ b, (t.core c).actOf a.id = some b ∧ b.fault = some fTimeout ∧
        b.xfers = a.xfers.filter (fun y => y.num != num) ∧ exec (.transferIssue c a.id) t = .next t) ∧
      (∀ n, n ≠ a.ent.op.thread → t.thread c n = s.thread c n)

/-! ### Pours -/

/-- The code of a pour lies in every CODE partition of the flask once stage 4 ends, and thread 0 of every core starts at the
entry point with the argument in s4 (R244, R245). -/
def Obligations.PoursStart : Prop :=
  ∀ (f : Fin 16) (s : State),
    let x := s.flask f
    let src := memKey (fld x.code 48 4) (fld x.code 0 48)
    let loaded := State.copyCodes f [] (s.codeCores f) s
    x.stage = .loading → (loaded.flask f).stage = .loading → fld x.code 48 4 < 3 → fld x.code 0 48 + x.codelen ≤ 2 ^ 48 →
    x.codelen ≤ 2 ^ 25 → x.shares = [] → ∃ t, exec (.pourCodeLoaded f []) s = .next t ∧ (t.flask f).stage = .running ∧
      (∀ c ∈ x.map, (t.thread c 0).run = .run ∧ (t.thread c 0).pc = x.entry ∧ (t.thread c 0).p = 1 ∧
        (t.thread c 0).reg 0 = 0 ∧ (t.thread c 0).reg 4 = x.arg) ∧
      (∀ c l, (c, l) ∈ s.codeCores f → ∀ i < x.codelen,
        t.readByte .other (memKey 3 (c * 2 ^ 25 + i)) = s.readByte .other (src + i)) ∧
      (∀ v key, key < 3 * 2 ^ 48 → t.readByte v key = s.readByte v key)

/-- A pour whose threads have all halted and whose instructions have all completed ends normally: its working versions become
the committed ones, a POUR_END with status 0 and the commit count follows, and the flask is idle (R273, R276, R280). Of the bytes
that the mould reserves for commit records nothing is said (R277, log 29). -/
def Obligations.PoursEnd : Prop :=
  ∀ (f : Fin 16) (s : State), (s.flask f).stage = .running → s.flaskDone f = true → s.allThreads f Thread.isHalted = true → s.sound →
    ∃ t p, exec (.pourNormalEnd f) s = .next t ∧ (t.flask f).stage = .idle ∧ (∀ c ∈ s.hosts f, t.serving c = none) ∧
      (∀ key, key < 3 * 2 ^ 48 → ¬ s.inRecords f key → t.readByte .other key = s.readByte (.pour f) key) ∧
      t.says 0x12 0x01 0 0 p ∧ p.length = 24 ∧ p.getD 0 0 = BitVec.ofNat 8 f ∧ p.getD 1 0xFF = 0 ∧
      leAt p 12 4 = ((s.flask f).cseq + 1) % 2 ^ 32

/-- COMMIT_FLIP completes: a commit flips every working version at once, counts, keeps what a replay starts from, and lets every
waiting thread go on behind its COMMIT (R275 to R277). Of the bytes that the mould reserves for commit records nothing is said
(log 29). -/
def Obligations.CommitsFlip : Prop :=
  ∀ (f : Fin 16) (s : State), (s.flask f).stage = .running → s.flaskDone f = true →
    s.allThreads f (fun x => x.isHalted || x.atCommit) = true → s.allThreads f Thread.isHalted = false →
    (s.hosts f).all (fun c => !(s.core c).haltreq) = true → s.sound →
    ∃ t, exec (.commitFlip f) s = .next t ∧
      (∀ key, ¬ s.inRecords f key → t.readByte .other key = s.readByte (.pour f) key) ∧
      (∀ key, ¬ s.inRecords f key → t.readByte (.pour f) key = s.readByte (.pour f) key) ∧
      (t.flask f).cseq = ((s.flask f).cseq + 1) % 2 ^ 32 ∧ (t.flask f).notify = false ∧
      (t.flask f).records.length = (s.hosts f).length ∧
      (∀ l c, (s.hosts f)[l]? = some c → (s.flask f).shares.all (fun x => x.parked != l) = true →
        (t.flask f).records[l]? = some (s.core c).arch.rcd.resumed) ∧
      (∀ c ∈ s.hosts f, ∀ n, t.thread c n = (if (s.thread c n).atCommit
        then { s.thread c n with run := .run, held := none, pc := (s.thread c n).pc + 8 } else s.thread c n)) ∧
      ((s.flask f).notify = true → s.cp.ready = [] → t.says 0x12 0x02 0 0 (leBytes 1 f ++ [0, 0, 0] ++ leBytes 4 (t.flask f).cseq))

/-- A flask that a fault or an abort stops ends its pour when it is quiet: its working versions are discarded, and POUR_END
reports the first fault with its core, unit, thread, PC and word, or status 0xFF (R270, R271, R280). -/
def Obligations.StoppedPoursEnd : Prop :=
  ∀ (f : Fin 16) (s : State) (why : StopWhy),
    let x := (s.flask f).fault.getD ⟨0xFF, 0, 0, 0, 0, 0, none⟩
    why = .fault ∨ why = .abort → (s.flask f).stage = .stopping why → s.flaskQuietNow f = true → (s.flask f).waiter = none →
    ∃ t, exec (.flaskQuiet f) s = .next t ∧ (t.flask f).stage = .idle ∧ (∀ c ∈ s.hosts f, t.serving c = none) ∧
      (∀ v key, key < 3 * 2 ^ 48 → s.vbOwner key = some f.val → s.vbOwner (64 * (key / 64)) = some f.val →
        t.readByte v key = s.readByte .other key) ∧
      (∀ key, key < 3 * 2 ^ 48 → t.readByte .other key = s.readByte .other key) ∧
      t.says 0x12 0x01 0 0 (leBytes 1 f ++ [x.code, x.unit, x.thread] ++ leBytes 1 x.lcore ++ [0, 0, 0] ++ leBytes 4 x.pc.toNat ++
        leBytes 4 (s.flask f).cseq ++ leBytes 8 x.word.toNat)

/-- A token-starved core faults with F_TOKEN_UNDERFLOW against its lowest-numbered waiting thread; an engine's instruction that
outlasts the watchdog aborts, and a pour that makes no progress ends, both with F_TIMEOUT (R265, R272). -/
def Obligations.StarvationAndTimersFault : Prop :=
  ∀ (s : State),
    (∀ (c : Fin 64) (n : Nat) (h : Held), s.coreIssues c = true → (s.core c).starved = true → n < 16 →
      (s.thread c n).starving = true → (s.thread c n).held = some h → (∀ m < n, (s.thread c m).starving = false) →
      ∃ t, exec (.tokenStarved c) s = .next t ∧ s.pourFaulted t c 0 n (s.thread c n).pc h.op.word fTokenUnderflow ∧
        t.rest = s.rest ∧ s.sameBytes t) ∧
    (∀ (c : Fin 64) (u : FixedEngine) (f : Flight),
      firstFlight ((s.core c).engine (unitIndex u)).flights = some f → s.coreAlive c = true → s.pourRuns c →
      f.start + ((s.flaskOf c).map (·.wdog)).getD 10000 * 700 < s.cycle →
      ∃ t, exec (.engineWatchdogExpiry c u) s = .next t ∧
        s.pourFaulted t c (unitIndex u) f.ent.op.thread f.ent.pc f.ent.op.word fTimeout ∧
        ((t.core c).engine (unitIndex u)).flights = ((s.core c).engine (unitIndex u)).flights.erase f ∧ s.sameBytes t) ∧
    (∀ (f : Fin 16), (s.flask f).stage = .running →
      (s.flask f).lastProgress + ((s.flaskDef f).map (·.noprog)).getD 1000000 * 1400 ≤ s.now →
      (s.hosts f).all (fun c => !(s.core c).haltreq) = true → (s.flask f).fault = none →
      ∃ t, exec (.pourNoProgressTimeout f) s = .next t ∧ (t.flask f).stage = .stopping .fault ∧
        (t.flask f).fault = some ⟨fTimeout, 0, 0, 0, 0, 0, none⟩ ∧ t.rest = s.rest ∧ s.sameBytes t)

/-! ### Commands of the control port -/

/-- A command that fails one of steps 1 to 7 of R464 is answered with the status of the first that fails, and has no other
effect: an opcode that is not listed (BAD_OPCODE_COMMAND) with 0x01, a wrong length with 0x02, a field out of range with
0x03, a lifecycle state that does not allow it with 0x04, engine buffers without debug level Open with 0x05, a power state that
withholds it with 0x06, and what it conflicts with with 0x07. A command whose CTAG is in the record with a response, and whose
recorded opcode is not repeatable, is answered with the recorded response and not executed again (R461). -/
def Obligations.CommandsAreChecked : Prop :=
  ∀ (h : CpHdr) (p : List Byte) (found : List (Nat × EccFind)) (s : State),
    let row (op : BitVec 8) : Instr :=
      match op.toNat with
      | 0x01 => .info h p | 0x02 => .errClear h p | 0x10 => .memRead h p found | 0x11 => .memWrite h p found
      | 0x12 => .regRead h p | 0x13 => .regWrite h p | 0x20 => .mouldLoad h p | 0x21 => .mouldCommit h p
      | 0x30 => .pourStart h p | 0x31 => .pourAbort h p | 0x32 => .flaskReset h p | 0x40 => .attest h p
      | 0x41 => .debugLevel h p | 0x42 => .own h p | 0x43 => .decommission h p | 0x50 => .powerState h p
      | 0x51 => .warmReset h p | _ => .badOpcodeCommand op h p
    (∀ (op st : BitVec 8), s.takes h p → s.cp.record.find? (fun r => r.ctag == h.ctag) = none → s.cmdFlows = true →
      s.cmdChecks op p = some st →
      (∃ t, exec (row op) s = .next t ∧ t.says 0x11 op st h.ctag [] ∧ s.onlyLink t) ∧
      (cmdListed op = false → st = 0x01) ∧ (cmdListed op = true → cmdLenOk op p.length = false → st = 0x02) ∧
      (cmdListed op = true → cmdLenOk op p.length = true → cmdFieldsOk op p = false → st = 0x03) ∧
      (cmdListed op = true → cmdLenOk op p.length = true → cmdFieldsOk op p = true → s.lifecycleAllows op = false → st = 0x04) ∧
      (cmdListed op = true → cmdLenOk op p.length = true → cmdFieldsOk op p = true → s.lifecycleAllows op = true →
        let closed : Prop := (op = 0x10#8 ∨ op = 0x11#8) ∧ (cmdAddr op p).space = 4 ∧ s.sec.debug ≠ 2
        (closed → st = 0x05) ∧ (¬ closed → s.powerDenies op p = true → st = 0x06) ∧
        (¬ closed → s.powerDenies op p = false → s.busyFor op p = true ∧ st = 0x07))) ∧
    (∀ (op st : BitVec 8) (r : CmdRec), s.takes h p → s.cp.record.find? (fun r => r.ctag == h.ctag) = some r → r.status = some st →
      cmdRepeatable r.opcode = false → ∃ t, exec (row op) s = .next t ∧ t.says 0x11 r.opcode st h.ctag (r.payload.getD []) ∧
        s.onlyLink t)

/-- INFO, REG_READ and ERR_CLEAR complete. INFO reports the serial number, the lifecycle, debug and power states, whether a mould
is committed, the module has an address and a background command runs, the address, and which flasks run a pour; REG_READ
a register's value, or the status of a register that is absent or not granted; ERR_CLEAR clears the sticky bits it names, returns
the word as it was, and frees the captures tied to them (R466, R470, R471, R514). A register is read once the frame is accepted,
so only one that shows the link or a counter can differ from its value before. -/
def Obligations.QueriesAnswer : Prop :=
  ∀ (h : CpHdr) (p : List Byte) (s : State),
    (s.accepts 0x01 h p → ∃ t q, exec (.info h p) s = .next t ∧ t.says 0x11 0x01 0 h.ctag q ∧ s.onlyLink t ∧ q.length = 32 ∧
      leAt q 0 8 = s.sec.serial.toNat ∧ leAt q 11 1 = s.sec.lifecycle % 256 ∧ leAt q 12 1 = s.sec.debug % 256 ∧
      leAt q 13 1 = s.powerCode % 256 ∧
      (∀ b < 3, (leAt q 14 1).testBit b = ([s.mould.isSome, s.fab.addrv, s.bg.isSome].getD b false)) ∧
      leAt q 16 2 = (if s.fab.addrv = true then s.fab.addr.toNat else 0) ∧ ∀ f < 16, (leAt q 18 2).testBit f = s.pourOn f) ∧
    (∀ off v, s.accepts 0x12 h p → s.regOff p = some off → s.readReg off = .ok v → off < 0x400000 ∨ 0x3000000 ≤ off →
      ¬ (0x800 ≤ off % 0x10000 ∧ off % 0x10000 < 0x900) → off < 0x4000000 →
      ∃ t, exec (.regRead h p) s = .next t ∧ t.says 0x11 0x12 0 h.ctag (leBytes 8 v.toNat) ∧ s.onlyLink t) ∧
    (∀ off, s.accepts 0x12 h p → s.regOff p = some off → ∃ t u, exec (.regRead h p) s = .next t ∧ s.onlyLink t ∧ s.onlyLink u ∧
      (match u.readReg off with
        | .ok v => t.says 0x11 0x12 0 h.ctag (leBytes 8 v.toNat)
        | .error e => t.says 0x11 0x12 e h.ctag [])) ∧
    (s.accepts 0x12 h p → s.regOff p = none → ∃ t, exec (.regRead h p) s = .next t ∧ t.says 0x11 0x12 0x0C h.ctag [] ∧ s.onlyLink t) ∧
    (s.accepts 0x02 h p → ∃ t, exec (.errClear h p) s = .next t ∧
      t.says 0x11 0x02 0 h.ctag (leBytes 8 s.err.sticky.toNat) ∧
      t.err.sticky = s.err.sticky &&& ~~~(BitVec.ofNat 64 (leAt p 0 8)) ∧
      bitAt t.err.eccInfo 63 = (bitAt s.err.eccInfo 63 && !bitAt (BitVec.ofNat 64 (leAt p 0 8)) sEccUncorr) ∧
      bitAt t.err.fenceInfo 63 = (bitAt s.err.fenceInfo 63 && !bitAt (BitVec.ofNat 64 (leAt p 0 8)) sCoreFenced) ∧
      bitAt t.err.linkInfo 63 = (bitAt s.err.linkInfo 63 && !bitAt (BitVec.ofNat 64 (leAt p 0 8)) sLinkDown) ∧
      bitAt t.err.permInfo 63 = (bitAt s.err.permInfo 63 && !bitAt (BitVec.ofNat 64 (leAt p 0 8)) sPermCheck) ∧
      t.err.cores = s.err.cores ∧ { t with err := s.err, cp := s.cp, cnt := s.cnt } = s)

/-- MEM_READ returns the committed bytes of a span that R467 allows; MEM_WRITE leaves its data there and every other byte as it
was; both are answered 0, of the engine buffers too (R467, R468). A span of version-buffered memory whose flask runs a pour is busy to a write; a span
that R467 does not allow is answered 0x0C, and a read that finds an error which the code cannot correct 0x0D (R469). -/
def Obligations.MemoryCommandsMoveBytes : Prop :=
  ∀ (h : CpHdr) (p : List Byte) (s : State),
    (let a := cmdAddr 0x10 p
     (s.accepts 0x10 h p → s.addrOk a = true → a.space = 4 → ∀ found, ∃ t, exec (.memRead h p found) s = .next t ∧ s.onlyLink t ∧
       t.says 0x11 0x10 0 h.ctag ((List.range a.len).map (fun i => s.readBuf (a.off + i)))) ∧
     (s.accepts 0x10 h p → s.addrOk a = false → ∀ found, ∃ t, exec (.memRead h p found) s = .next t ∧ s.onlyLink t ∧
       t.says 0x11 0x10 0x0C h.ctag []) ∧
     (s.accepts 0x10 h p → s.addrOk a = true → a.space ≠ 4 → s.readable a → ∀ key, memKey a.space a.off ≤ key →
       key < memKey a.space a.off + a.len → ∃ t, exec (.memRead h p [(key, .uncorrectable)]) s = .next t ∧
       t.says 0x11 0x10 0x0D h.ctag [] ∧ bitAt t.err.sticky sEccUncorr = true ∧ s.sameBytes t) ∧
     (s.accepts 0x10 h p → s.addrOk a = true → a.space ≠ 4 → s.readable a →
       ∃ t, exec (.memRead h p []) s = .next t ∧ s.onlyLink t ∧
         t.says 0x11 0x10 0 h.ctag ((List.range a.len).map (fun i => s.readByte .other (memKey a.space a.off + i))))) ∧
    (let a := cmdAddr 0x11 p
     s.accepts 0x11 h p → s.addrOk a = true → a.space ≠ 4 → s.readable a → s.vbBusy a = false →
       ∃ t, exec (.memWrite h p []) s = .next t ∧ t.says 0x11 0x11 0 h.ctag [] ∧
         (∀ i < a.len, t.readByte .other (memKey a.space a.off + i) = p.getD (16 + i) 0) ∧
         (∀ v key, ¬ (memKey a.space a.off ≤ key ∧ key < memKey a.space a.off + a.len) → t.readByte v key = s.readByte v key) ∧
         { t with cp := s.cp, cnt := s.cnt, mem := s.mem, lost := s.lost, cores := s.cores } = s ∧
         ∀ c, { t.core c with se := (s.core c).se } = s.core c) ∧
    (let a := cmdAddr 0x11 p
     s.accepts 0x11 h p → s.addrOk a = true → a.space = 4 → ∀ found,
       ∃ t, exec (.memWrite h p found) s = .next t ∧ t.says 0x11 0x11 0 h.ctag [] ∧
         (∀ i < a.len, bufAt ((a.off + i) % 2 ^ 23) ≠ .nothing → t.readBuf (a.off + i) = p.getD (16 + i) 0) ∧
         (∀ o, ¬ (a.off ≤ o ∧ o < a.off + a.len) → t.readBuf o = s.readBuf o) ∧ s.sameBytes t) ∧
    (let a := cmdAddr 0x11 p
     s.accepts 0x11 h p → s.addrOk a = true → s.vbBusy a = true →
       ∃ t, exec (.memWrite h p []) s = .next t ∧ t.says 0x11 0x11 0x07 h.ctag [] ∧ s.onlyLink t) ∧
    (let a := cmdAddr 0x11 p
     s.accepts 0x11 h p → s.addrOk a = false →
       ∃ t, exec (.memWrite h p []) s = .next t ∧ t.says 0x11 0x11 0x0C h.ctag [] ∧ s.onlyLink t)

/-- REG_WRITE sets the fields that software may write and answers 0: HAZCHK of a core at debug level Observe or Open (R283),
ENCRYPT and EN of a fabric port (R448); a write that is not granted, or names no register, changes nothing and answers the
status of its first failing check (R470). -/
def Obligations.RegisterWritesAct : Prop :=
  ∀ (h : CpHdr) (p : List Byte) (s : State) (off : Nat),
    let v : Word := BitVec.ofNat 64 (leAt p 8 8)
    s.accepts 0x13 h p → s.regOff p = some off →
    (∀ c, c < 64 → off = 0x10000 * c → s.sec.debug ≠ 0 → (s.pwr.state = .run ∨ s.pwr.state = .idle) →
      ∃ t, exec (.regWrite h p) s = .next t ∧ t.says 0x11 0x13 0 h.ctag [] ∧ (t.core c).hazchk = bitAt v 0 ∧
        { t.core c with hazchk := false } = { s.core c with hazchk := false } ∧ (∀ d, d ≠ c → t.core d = s.core d) ∧
        { t with cp := s.cp, cnt := s.cnt, cores := s.cores } = s) ∧
    (∀ q, q < 32 → off = 0x200A108 + 0x20 * q → s.pwr.state ≠ .chrysalis →
      ∃ t, exec (.regWrite h p) s = .next t ∧ t.says 0x11 0x13 0 h.ctag [] ∧ (t.port q).encrypt = bitAt v 1 ∧
        (t.port q).en = bitAt v 0 ∧ (∀ c, t.core c = s.core c) ∧ s.sameBytes t) ∧
    (∀ st, s.writeReg off v = .error st → ∃ t, exec (.regWrite h p) s = .next t ∧ t.says 0x11 0x13 st h.ctag [] ∧ s.onlyLink t) ∧
    (∀ c, c < 64 → off = 0x10000 * c → s.sec.debug = 0 → s.writeReg off v = .error 0x05)

/-- MOULD_LOAD at offset 0 begins a staged image and at its end appends to it; any other offset is answered 0x0F and stages
nothing; MOULD_COMMIT whose early checks pass hashes the image (R407, R472, R473). When the image has been applied it is the
committed mould, with no pour running and nothing staged, and the command is answered 0 (R409, R412). -/
def Obligations.MouldImagesAreStaged : Prop :=
  ∀ (h : CpHdr) (p : List Byte) (s : State),
    (s.accepts 0x20 h p →
      (leAt p 0 4 = 0 → ∃ t, exec (.mouldLoad h p) s = .next t ∧ t.staged = p.drop 16 ∧ t.says 0x11 0x20 0 h.ctag [] ∧
        { t with cp := s.cp, cnt := s.cnt, staged := s.staged, mouldStatus := s.mouldStatus } = s) ∧
      (leAt p 0 4 ≠ 0 → leAt p 0 4 = s.staged.length → ∃ t, exec (.mouldLoad h p) s = .next t ∧ t.staged = s.staged ++ p.drop 16 ∧
        t.says 0x11 0x20 0 h.ctag [] ∧ { t with cp := s.cp, cnt := s.cnt, staged := s.staged, mouldStatus := s.mouldStatus } = s) ∧
      (leAt p 0 4 ≠ 0 → leAt p 0 4 ≠ s.staged.length → ∃ t, exec (.mouldLoad h p) s = .next t ∧ t.says 0x11 0x20 0x0F h.ctag [] ∧
        s.onlyLink t)) ∧
    (s.accepts 0x21 h p → s.checksEarly = none → ∃ t, exec (.mouldCommit h p) s = .next t ∧
      t.bg = some ⟨0x21, h.ctag, .hashing, []⟩ ∧ t.mouldStatus.stage = 2 ∧ t.sec = { s.sec with sha := s.sec.sha ++ [.mould] } ∧
      t.mould = s.mould ∧ t.staged = s.staged ∧ s.sameBytes t) ∧
    (∀ r, s.accepts 0x21 h p → s.checksEarly = some r → ∃ t, exec (.mouldCommit h p) s = .next t ∧
      t.says 0x11 0x21 0x0E h.ctag r.payload ∧ t.mould = s.mould ∧ t.staged = s.staged ∧ t.bg = none ∧ s.sameBytes t) ∧
    (∀ g, s.bg = some g → g.opcode = 0x21#8 → g.stage = .applying → ∃ t, exec .mouldApplyDone s = .next t ∧
      t.mould = some (mouldOf s.staged) ∧ t.bg = none ∧ t.says 0x11 0x21 0 g.ctag [] ∧ t.digest = mouldDigest s.staged ∧
      t.staged = [] ∧ t.mouldStatus.stage = 0 ∧ t.mouldStatus.reason = 0 ∧ t.mouldCount = s.mouldCount + 1 ∧
      t.sec = { s.sec with ksids := [], ksovf := false } ∧ (∀ f, (t.flask f).stage = .idle) ∧
      t.pwr = { s.pwr with
        clken := (mouldOf s.staged).clken.setWidth 100, slew := (mouldOf s.staged).slew, pcap := (mouldOf s.staged).pcap } ∧
      ∀ c < 64, (t.core c).serves = none)

/-- POUR_START on an idle flask whose cores are all there is answered 0 and seats the pour: every core of the flask is at its
pour-start state with no fault recorded, its WORK partitions read zero, and the code is being loaded (R244, R282, R362, R474,
R475). -/
def Obligations.PourStartSeatsThePour : Prop :=
  ∀ (h : CpHdr) (p : List Byte) (s : State) (d : FlaskDef),
    let f := leAt p 0 1
    s.accepts 0x30 h p → s.mould.isSome = true → s.flaskDef f = some d → s.pourOn f = false → s.codeOk d p = true →
    s.err.mouldDead = false → s.err.meshDead = false → d.mincores ≤ (s.unfencedCores d).length → s.orphansOf f = [] → (s.flask f).shares = [] →
    (s.hosts f).Nodup →
    ∃ t, exec (.pourStart h p) s = .next t ∧ t.says 0x11 0x30 0 h.ctag [] ∧ (t.flask f).stage = .loading ∧
      (t.flask f).arg = BitVec.ofNat 64 (leAt p 24 8) ∧ (t.flask f).entry = BitVec.ofNat 32 (leAt p 4 4) ∧
      (t.flask f).codelen = leAt p 8 4 ∧ (t.flask f).fault = none ∧ (t.flask f).cseq = 0 ∧
      (∀ l c, (s.hosts f)[l]? = some c → t.serving c = some (f, l) ∧ (t.core c).arch = Arch.init ∧ (t.core c).faultCode = 0 ∧
        ∀ g i, g < 16 → (d.part l g).1 = 1 → i < 2 ^ 21 →
          t.readByte .other (memKey 3 (c * 2 ^ 25 + g * 2 ^ 21 + i)) = 0) ∧
      (∀ v key, key < 3 * 2 ^ 48 → t.readByte v key = s.readByte v key)

/-- POUR_ABORT and FLASK_RESET stop the pour of their flask, discard what its cores have queued, and are answered when it is
quiet; FLASK_RESET of an idle flask is answered at once and leaves its cores at their defaults (R270, R476, R477, R570). -/
def Obligations.FlaskCommandsStop : Prop :=
  ∀ (h : CpHdr) (p : List Byte) (s : State) (d : FlaskDef),
    let f := leAt p 0 1
    s.mould.isSome = true → s.flaskDef f = some d →
    (∀ op row why, (op = 0x31#8 ∧ row = Instr.pourAbort h p ∧ why = StopWhy.abort) ∨ (op = 0x32 ∧ row = .flaskReset h p ∧ why = .reset) →
      s.accepts op h p → (s.flask f).stage = .running → ∃ t, exec row s = .next t ∧ (t.flask f).stage = .stopping why ∧
        (t.flask f).waiter = some (h.ctag, op) ∧ t.cp.blocked = true ∧
        (∀ c ∈ s.hosts f, (t.core c).lme.queue = [] ∧ (t.core c).te.queue = [] ∧ (t.core c).ve.queue = [] ∧ (t.core c).se.queue = []) ∧
        (∀ c n, t.thread c n = s.thread c n) ∧ s.sameBytes t) ∧
    (s.accepts 0x32 h p → s.pourOn f = false → ∃ t, exec (.flaskReset h p) s = .next t ∧ t.says 0x11 0x32 0 h.ctag [] ∧
      (∀ c ∈ d.coreList ++ d.spareList ++ s.hosts f, s.fenced c = false →
        (t.core c).arch = Arch.init ∧ (t.core c).serves = none ∧ (t.core c).faultCode = 0 ∧ (t.core c).hazchk = false) ∧
      t.draws = s.draws + 1 ∧ ∀ v key, key < 3 * 2 ^ 48 → t.readByte v key = s.readByte v key)

/-- The background commands begin: ATTEST assembles its report around the nonce it was given, OWN checks its key's point,
DECOMMISSION and a token of DEBUG_LEVEL ask for the owner's signature to be verified, and a level that is no raise to Open
holds at once (R478 to R481, R524, R533, R536, R537). -/
def Obligations.BackgroundCommandsBegin : Prop :=
  ∀ (h : CpHdr) (p : List Byte) (s : State),
    (s.accepts 0x40 h p → ∃ t r, exec (.attest h p) s = .next t ∧ t.bg = some ⟨0x40, h.ctag, .hashing, r⟩ ∧ r.length = 3328 ∧
      bytesAt r 48 64 = bytesAt p 0 64 ∧ t.sec = { s.sec with sha := s.sec.sha ++ [.report] } ∧
      { t with bg := s.bg, sec := s.sec, cp := s.cp, cnt := s.cnt } = s) ∧
    (s.accepts 0x41 h p → leAt p 0 1 < 2 → leAt p 0 1 ≠ s.sec.debug → ∃ t, exec (.debugLevel h p) s = .next t ∧
      t.says 0x11 0x41 0 h.ctag [] ∧ t.sec.debug = leAt p 0 1 ∧ t.bg = none ∧
      (leAt p 0 1 = 0 → ∀ c < 64, (t.core c).hazchk = false ∧ (t.core c).haltreq = false) ∧ s.sameBytes t) ∧
    (s.accepts 0x41 h p → leAt p 0 1 = 2 → s.sec.debug ≠ 2 → s.sec.lifecycle = 1 → p.length = 272 → s.tokenOk (p.drop 16) = true →
      ∃ t j, exec (.debugLevel h p) s = .next t ∧ t.bg = some ⟨0x41, h.ctag, .verifying, p⟩ ∧ t.sec.bne = s.sec.bne ++ [j] ∧
        j.purpose = .debug ∧ j.digest = beNat (sha512 (bytesAt (p.drop 16) 0 120)) ∧ t.sec.debug = s.sec.debug) ∧
    (s.accepts 0x42 h p → beNat (bytesAt p 16 66) < ecP → beNat (bytesAt p 82 66) < ecP → beNat (bytesAt p 16 66) ≠ 0 →
      ∃ t, exec (.own h p) s = .next t ∧ t.bg = some ⟨0x42, h.ctag, .checking, p⟩ ∧
        t.sec.bneShort = s.sec.bneShort ++ [⟨.own, beNat (bytesAt p 16 66), beNat (bytesAt p 82 66), 0, 0, 0⟩] ∧
        t.sec.lifecycle = s.sec.lifecycle ∧ s.sameBytes t) ∧
    (s.accepts 0x43 h p → ∃ t j, exec (.decommission h p) s = .next t ∧ t.bg = some ⟨0x43, h.ctag, .verifying, p⟩ ∧
      t.sec.bne = s.sec.bne ++ [j] ∧ j.purpose = .decommission ∧ j.x = beNat (bytesAt s.sec.ownerKey 0 66) ∧
      j.r = beNat (bytesAt p 16 66) ∧ t.sec.lifecycle = s.sec.lifecycle ∧ s.sameBytes t)

/-- POWER_STATE is answered at once for the state in force and begins the transition otherwise, answered before Chrysalis
begins; during a transition the state it names waits. WARM_RESET is answered, after a background command with 0x13, and holds
back what follows; COMMAND_TIMEOUT answers 0x12 for a background command that has not passed its point of no return, or for
one that waits to start, unless its acceptance is that point (R465, R482, R483, R559). -/
def Obligations.PowerCommandsBegin : Prop :=
  ∀ (h : CpHdr) (p : List Byte) (s : State),
    let goal : Power := if leAt p 0 1 = 0 then .run else if leAt p 0 1 = 1 then .idle else if leAt p 0 1 = 2 then .doze else .chrysalis
    (s.accepts 0x50 h p → s.changing = false →
      (goal = s.pwr.state → ∃ t, exec (.powerState h p) s = .next t ∧ t.says 0x11 0x50 0 h.ctag [] ∧ s.onlyLink t) ∧
      (goal ≠ s.pwr.state → ∃ t, exec (.powerState h p) s = .next t ∧ t.pwr.target = some goal ∧ t.pwr.state = s.pwr.state ∧
        (goal = .chrysalis → t.says 0x11 0x50 0 h.ctag [] ∧ t.pwr.rstEntry = 0) ∧
        (goal ≠ .chrysalis → t.bg = some ⟨0x50, h.ctag, .transition, p⟩) ∧ s.sameBytes t)) ∧
    (s.accepts 0x50 h p → s.changing = true → ∃ t, exec (.powerState h p) s = .next t ∧
      t.pwr = { s.pwr with later := s.pwr.later ++ [(goal, 0)] } ∧ t.bg = some ⟨0x50, h.ctag, .waiting, p⟩ ∧ s.sameBytes t) ∧
    (s.accepts 0x51 h p → s.bg = none → ∃ t, exec (.warmReset h p) s = .next t ∧ t.says 0x11 0x51 0 h.ctag [] ∧
      t.pwr.boot = .warmPending ∧ t.cp.blocked = true ∧ { t with cp := s.cp, cnt := s.cnt, pwr := s.pwr } = s) ∧
    (∀ g, s.accepts 0x51 h p → s.bg = some g → ∃ t, exec (.warmReset h p) s = .next t ∧ t.says 0x11 0x51 0 h.ctag [] ∧
      t.says 0x11 g.opcode 0x13 g.ctag [] ∧ t.bg = none ∧ t.pwr.boot = .warmPending ∧ s.sameBytes t) ∧
    (∀ ctag, s.bg = none → (∀ w ∈ s.cp.waiting, w.ctag = ctag → w.opcode ∈ [0x30#8, 0x31, 0x32, 0x51]) →
      exec (.commandTimeout ctag) s = .next s) ∧
    (∀ ctag r, s.cp.record.find? (fun r => r.ctag == ctag) = some r →
      s.now < r.time + (if r.opcode = 0x40#8 then 7000000000 else 14000000000) → exec (.commandTimeout ctag) s = .next s) ∧
    (∀ ctag w, s.bg = none → s.timeUp ctag = true →
      s.cp.waiting.find? (fun w => w.ctag == ctag && !cmdUntimed w.opcode) = some w → ∃ t, exec (.commandTimeout ctag) s = .next t ∧
      t.cp.waiting = s.cp.waiting.erase w ∧ t.says 0x11 w.opcode 0x12 ctag [] ∧ s.onlyLink t) ∧
    (∀ g, s.bg = some g → g.past = false → s.timeUp g.ctag = true → ∃ t, exec (.commandTimeout g.ctag) s = .next t ∧ t.bg = none ∧
      t.says 0x11 g.opcode 0x12 g.ctag [] ∧ t.mould = s.mould ∧ t.sec.lifecycle = s.sec.lifecycle ∧ t.sec.debug = s.sec.debug ∧
      s.sameBytes t)

/-! ### The control link -/

/-- The control link is brought up by lock and a SYNC exchange, at whose end both counts restart and what was held is sent
again; losing it sets S_LINK_DOWN, captures it, counts, and keeps every frame (R451, R457, R459, R460). -/
def Obligations.ControlLinkComesAndGoes : Prop :=
  ∀ (s : State) (p : List Byte),
    (s.cp.st = .down ∨ s.cp.st = .locking → s.hubRuns = true → ∃ t g, exec .cpLock s = .next t ∧ t.cp.st = .sync ∧
      t.cp.gotSync = false ∧ t.cp.gotAck = false ∧ t.cp.lane = s.cp.lane ++ [g] ∧ g.type = 0x03 ∧ g.payload = s.syncBytes ∧
      t.cp.held = s.cp.held ∧ s.onlyLink t) ∧
    (syncOk p = true → s.cp.st = .sync → s.cp.gotAck = false → ∃ t g, exec (.cpSync p) s = .next t ∧ t.cp.st = .sync ∧
      t.cp.gotSync = true ∧ t.cp.peerBufs = leAt p 4 2 ∧ t.cp.lane = s.cp.lane ++ [g] ∧ g.type = 0x04 ∧ s.onlyLink t) ∧
    (syncOk p = true → s.cp.st = .sync → s.cp.gotAck = true → ∃ t, exec (.cpSync p) s = .next t ∧ t.cp.st = .up ∧ t.cp.rxSeq = 0 ∧
      s.onlyLink t) ∧
    (syncOk p = true → s.cp.st = .up → ∃ t, exec (.cpSync p) s = .next t ∧ t.cp.st = .sync ∧ t.cp.gotSync = true ∧
      t.cp.gotAck = false ∧ t.cp.held = s.cp.held ∧ t.cp.ready = s.cp.ready ∧ s.onlyLink t) ∧
    (syncOk p = true → s.cp.st = .sync → s.cp.gotSync = false → ∃ t, exec (.cpSyncAck p) s = .next t ∧
      t.cp = { s.cp with gotAck := true, peerBufs := leAt p 4 2, heard := s.now } ∧ s.onlyLink t) ∧
    (syncOk p = true → s.cp.st = .sync → s.cp.gotSync = true → ∃ t, exec (.cpSyncAck p) s = .next t ∧ t.cp.st = .up ∧
      t.cp.rxSeq = 0 ∧ t.cp.freed = 0 ∧ (∃ l, (t.cp.held ++ t.cp.ready).map (fun g => (g.type, g.opcode, g.ctag, g.payload)) = l ∧
        l = (s.cp.held ++ s.cp.ready).map (fun g => (g.type, g.opcode, g.ctag, g.payload))) ∧ s.onlyLink t) ∧
    (s.cp.st = .sync → s.cp.syncAt + 140000 ≤ s.now → ∃ t g, exec .cpSyncTimer s = .next t ∧
      t.cp = { s.cp with lane := s.cp.lane ++ [g], syncAt := s.now } ∧ g.type = 0x03 ∧
      g.payload = s.syncBytes ∧ s.onlyLink t) ∧
    (∀ row, (row = Instr.cpLossOfLock ∧ (s.cp.st = .sync ∨ s.cp.st = .up)) ∨ (row = .cpLivenessExpiry ∧ s.cp.st = .up ∧ s.cp.heard + 1400000 ≤ s.now) →
      ∃ t, exec row s = .next t ∧ t.cp = { s.cp with st := .locking, downs := min 0xFFFF (s.cp.downs + 1) } ∧
        bitAt t.err.sticky sLinkDown = true ∧ bitAt t.err.linkInfo 63 = true ∧ { t with cp := s.cp, cnt := s.cnt, err := s.err } = s)

/-- On a link that is up, an IDLE drops the frames its ACKSEQ acknowledges, a NAK or the resend timer sends every held frame
again and sets S_LINK_RETRY, the idle timer sends an IDLE, a frame that is discarded counts, and one ahead of its turn draws
a NAK, and another only after 10 µs (R453 to R456, R458). STICKY_EVENT_TIMER reports the sticky bits that went to 1 since the
last report (R485). -/
def Obligations.ControlLinkKeepsOrder : Prop :=
  ∀ (s : State) (h : CpHdr) (q : BitVec 32), s.cp.st = .up →
    (∀ f r, s.cp.held = f :: r → h.ackseq = f.seq + 1 → s.cp.ready = [] → ∃ t, exec (.cpIdle h) s = .next t ∧ t.cp.held = r ∧
      t.cp.st = .up ∧ s.onlyLink t) ∧
    (∀ f r, s.cp.held = f :: r → h.ackseq = f.seq → s.cp.ready = [] → ∃ t, exec (.cpNak h) s = .next t ∧ t.cp.held = s.cp.held ∧
      (∃ l, t.cp.lane = s.cp.lane ++ l ∧ l.map (fun g => (g.type, g.seq, g.payload)) = s.cp.held.map (fun g => (g.type, g.seq, g.payload))) ∧
      bitAt t.err.sticky sLinkRetry = true) ∧
    (s.cp.held ≠ [] → s.cp.ackAt + 70000 ≤ s.now → ∃ t, exec .cpResendTimeout s = .next t ∧ t.cp.held = s.cp.held ∧ t.cp.resends = min 0xFFFF (s.cp.resends + 1) ∧
      (∃ l, t.cp.lane = s.cp.lane ++ l ∧ l.map (fun g => (g.type, g.seq, g.payload)) = s.cp.held.map (fun g => (g.type, g.seq, g.payload))) ∧
      bitAt t.err.sticky sLinkRetry = true) ∧
    (∃ t g, exec .cpIdleTimer s = .next t ∧ t.cp = { s.cp with lane := s.cp.lane ++ [g] } ∧ g.type = 0x01 ∧
      g.ackseq = s.cp.rxSeq ∧ g.credit = s.cp.freed ∧ s.onlyLink t) ∧
    (∃ t, exec (.cpFrameDiscard none) s = .next t ∧ t = { s with cp := { s.cp with discards := min 0xFFFF (s.cp.discards + 1) } }) ∧
    (q = s.cp.rxSeq + 1 → (∀ n, s.cp.nakAt = some n → n + 14000 ≤ s.now) → ∃ t g,
      exec (.cpFrameDiscard (some q)) s = .next t ∧ t.cp.nakAt = some s.now ∧ t.cp.naks = min 0xFFFF (s.cp.naks + 1) ∧ t.cp.lane = s.cp.lane ++ [g] ∧ g.type = 0x02 ∧ t.cp.rxSeq = s.cp.rxSeq) ∧
    (∀ n, q = s.cp.rxSeq + 1 → s.cp.nakAt = some n → s.now < n + 14000 → ∃ t, exec (.cpFrameDiscard (some q)) s = .next t ∧
      t = { s with cp := { s.cp with discards := min 0xFFFF (s.cp.discards + 1) } }) ∧
    (s.err.raised ≠ 0 → s.eventsShared < 496 → (∀ n, s.cp.stickyAt = some n → n + 1400000 ≤ s.now) → s.cp.ready = [] → ∃ t, exec .stickyEventTimer s = .next t ∧
      { t with cp := s.cp, cnt := s.cnt } = { s with err := { s.err with raised := 0 } } ∧
      t.says 0x12 0x03 0 0 (leBytes 8 s.err.sticky.toNat ++ leBytes 8 s.err.raised.toNat)) ∧
    (s.cp.held = [] ∨ s.now < s.cp.ackAt + 70000 → exec .cpResendTimeout s = .next s) ∧
    (s.now < s.cp.heard + 1400000 → exec .cpLivenessExpiry s = .next s) ∧
    (s.err.raised = 0 ∨ (∃ n, s.cp.stickyAt = some n ∧ s.now < n + 1400000) → exec .stickyEventTimer s = .next s)

/-! ### Counters -/

/-- FREEZE is set or cleared, and its setting takes the time; SNAP starts a copy, which SNAP_DONE ends with the general counters
and their OVF, the window counters and the times in the snapshot buffer; CLRALL zeroes the general counters and their OVF, at once or
when the copy ends; CNT_VAL_WRITE sets one counter, a core's only above level Closed; WLOG_WRITE takes 10 to 30 and empties the windows,
WCLR zeroes each PEAK, and WINDOW_END closes the windows where the time is a multiple of their length. None of them changes
anything but the counters (R577, R579, R580, R582, R584 to R586, R588). -/
def Obligations.CountersObey : Prop :=
  ∀ (s : State) (v : Bool) (x : BitVec 48) (w : BitVec 5) (k : CounterId) (n p : Nat),
    let out (c : Instr) (post : Cnt → Prop) : Prop := ∃ t, exec c s = .next t ∧ post t.cnt ∧ { t with cnt := s.cnt } = s
    let win (c : Cnt) (p : Nat) : Win := Sparse.get ⟨0, 0, 0⟩ c.wins p
    let val (c : Cnt) (n : Nat) : BitVec 48 := Sparse.get 0 c.val n
    let ovf (c : Cnt) (n : Nat) : Bool := bitAt (Sparse.get 0 c.ctl n) 31
    let word (c : Cnt) (n : Nat) : Word := Sparse.get 0 c.snap n
    let copied (c : Cnt) : Prop := c.snapBusy = false ∧ c.snapSeq = s.cnt.snapSeq + 1 ∧ c.wins = s.cnt.wins ∧
      fld (word c 0) 0 48 = s.cnt.snapStart % 2 ^ 48 ∧ fld (word c 1) 0 48 = s.cnt.frzTime % 2 ^ 48 ∧
      (word c 2).toNat = (s.cnt.snapSeq + 1).toNat ∧
      (n < 1216 → fld (word c (8 + n)) 0 48 = (val s.cnt n).toNat ∧ bitAt (word c (8 + n)) 48 = ovf s.cnt n) ∧
      (p < 129 → (word c (1224 + 2 * p)).toNat = (win s.cnt p).last % 2 ^ 48 ∧ (word c (1225 + 2 * p)).toNat = (win s.cnt p).peak % 2 ^ 48)
    out (.freeze v) (fun c => c.freeze = v ∧ c.val = s.cnt.val ∧ c.ctl = s.cnt.ctl ∧ c.wins = s.cnt.wins ∧
      c.frzTime = (if v = true ∧ s.cnt.freeze = false then s.now else s.cnt.frzTime)) ∧
    (s.cnt.snapBusy = false → out .snap (fun c => c.snapBusy = true ∧ c.snapStart = s.now ∧ c.val = s.cnt.val ∧ c.snap = s.cnt.snap ∧
      c.wins = s.cnt.wins)) ∧
    (s.cnt.snapBusy = true → out .snap (fun c => c = s.cnt)) ∧
    (s.cnt.snapBusy = true → s.cnt.clearDue = false → out .snapDone (fun c => copied c ∧ c.val = s.cnt.val ∧ c.ctl = s.cnt.ctl)) ∧
    (s.cnt.snapBusy = true → s.cnt.clearDue = true → out .snapDone (fun c => copied c ∧ c.clearDue = false ∧ val c n = 0 ∧ ovf c n = false)) ∧
    (s.cnt.snapBusy = false → exec .snapDone s = .next s) ∧
    (s.cnt.snapBusy = false → out .clrall (fun c => val c n = 0 ∧ ovf c n = false ∧ c.wins = s.cnt.wins ∧ c.snap = s.cnt.snap)) ∧
    (s.cnt.snapBusy = true → out .clrall (fun c => c.val = s.cnt.val ∧ c.ctl = s.cnt.ctl ∧ c.clearDue = true)) ∧
    (s.sec.debug ≠ 0 ∨ (∀ c m, k ≠ .core c m) → out (.cntValWrite k x) (fun c => val c (counterIndex k) = x ∧
      (∀ j, j ≠ counterIndex k → val c j = val s.cnt j) ∧ c.ctl = s.cnt.ctl ∧ c.wins = s.cnt.wins)) ∧
    (s.sec.debug = 0 → ∀ c m, exec (.cntValWrite (.core c m) x) s = .next s) ∧
    (10 ≤ w.toNat ∧ w.toNat ≤ 30 → out (.wlogWrite w) (fun c => c.wlog = w ∧ win c p = ⟨0, 0, 0⟩ ∧ c.val = s.cnt.val)) ∧
    (¬ (10 ≤ w.toNat ∧ w.toNat ≤ 30) → out (.wlogWrite w) (fun c => c = s.cnt)) ∧
    (s.sound → out .wclr (fun c => win c p = { win s.cnt p with peak := 0 } ∧ c.val = s.cnt.val)) ∧
    (s.sound → s.now % 2 ^ s.cnt.wlog.toNat = 0 → s.cnt.winAt ≠ s.now → s.cnt.winSkip = false → out .windowEnd (fun c =>
      c.val = s.cnt.val ∧ c.winAt = s.now ∧ win c p = ⟨0, (win s.cnt p).cur, max (win s.cnt p).peak (win s.cnt p).cur⟩)) ∧
    (s.sound → s.now % 2 ^ s.cnt.wlog.toNat = 0 → s.cnt.winAt ≠ s.now → s.cnt.winSkip = true → out .windowEnd (fun c =>
      c.val = s.cnt.val ∧ c.winSkip = false ∧ win c p = { win s.cnt p with cur := 0 })) ∧
    (s.now % 2 ^ s.cnt.wlog.toNat ≠ 0 ∨ s.cnt.winAt = s.now → exec .windowEnd s = .next s)

/-! ### The fabric -/

/-- A port that trains sends its HELLO when its lanes align and goes DOWN with the lanes that failed otherwise; a port that is
DOWN, MISMATCH or AUTH_FAIL trains again; the far end's HELLO leads to UP without encryption, to KEYX with the certificate chain sent
where both ends encrypt and both modules are Owned with equal key hashes, to AUTH_FAIL where not, and to MISMATCH where one end
alone encrypts; EN takes a port to DISABLED and back (R416, R425 to R428, R448). -/
def Obligations.FabricPortsComeUp : Prop :=
  ∀ (p : Fin 32) (d : List Byte) (lanes : BitVec 8) (s : State),
    let k := s.port p
    let calm (t : State) : Prop := (∀ c, t.core c = s.core c) ∧ s.sameBytes t ∧ ∀ q, q ≠ p → (t.port q).st = (s.port q).st
    (k.st = 1 → ∃ t g, exec (.fabTrainDone p) s = .next t ∧ t.port p = { k with st := 2, since := s.now, laneFail := 0 } ∧
      t.fab.sent = s.fab.sent ++ [(p.val, g)] ∧ g.type = 0x02 ∧ g.payload = s.helloBytes p ∧ s.onlyPort t p) ∧
    (k.st = 1 → lanes ≠ 0 → k.since + 280000000 ≤ s.now → ∃ t, exec (.fabTrainTimeout p lanes) s = .next t ∧
      t.port p = { k with st := 0, since := s.now, laneFail := lanes } ∧
      t.fab.sent = s.fab.sent ∧ s.onlyPort t p) ∧
    (k.en = true → k.st = 0 ∨ k.st = 5 ∨ k.st = 6 → s.hubRuns = true → k.since + 1400000000 ≤ s.now → ∃ t, exec (.fabPortRetryTimer p) s = .next t ∧
      t.port p = { k with st := 1, since := s.now, encNow := k.encrypt } ∧ t.fab.sent = s.fab.sent ∧ s.onlyPort t p) ∧
    (k.st = 2 → helloOk d = true → (leAt d 11 1 == 1) ≠ k.encNow → ∃ t, exec (.hello p d) s = .next t ∧ (t.port p).st = 5 ∧ calm t) ∧
    (k.st = 2 → helloOk d = true → leAt d 11 1 ≠ 1 → k.encNow = false → ∃ t, exec (.hello p d) s = .next t ∧ (t.port p).st = 4 ∧
      (t.port p).enc = false ∧ (t.port p).rxSeq = 0 ∧ (t.port p).peerSerial = BitVec.ofNat 64 (leAt d 0 8) ∧
      (t.port p).naddr = BitVec.ofNat 12 (leAt d 8 2) ∧ (t.port p).nport = BitVec.ofNat 5 (leAt d 10 1) ∧ calm t) ∧
    (k.st = 2 → helloOk d = true → leAt d 11 1 = 1 → k.encNow = true → ∃ t, exec (.hello p d) s = .next t ∧ calm t ∧
      (s.sec.lifecycle = 1 ∧ bytesAt d 14 64 = bytesAt s.sec.ownerHash 0 64 → (t.port p).st = 3 ∧
        ∃ g, t.fab.sent = s.fab.sent ++ [(p.val, g)] ∧ g.type = 0x03 ∧ g.payload = (List.range 1024).map Config.cert ++ (t.port p).myNonce) ∧
      (¬ (s.sec.lifecycle = 1 ∧ bytesAt d 14 64 = bytesAt s.sec.ownerHash 0 64) → (t.port p).st = 6)) ∧
    (∃ t, exec (.portEnWrite p false) s = .next t ∧ (t.port p).st = 7 ∧ (t.port p).en = false ∧ calm t) ∧
    (k.st = 7 → s.hubRuns = true → ∃ t, exec (.portEnWrite p true) s = .next t ∧
      t.port p = { k with st := 1, since := s.now, en := true, encNow := k.encrypt } ∧ t.fab.sent = s.fab.sent ∧ s.onlyPort t p) ∧
    (k.st = 7 → s.hubRuns = false → ∃ t, exec (.portEnWrite p true) s = .next t ∧
      t.port p = { k with st := 0, since := s.now, en := true } ∧ t.fab.sent = s.fab.sent ∧ s.onlyPort t p) ∧
    (k.st ≠ 7 → ∃ t, exec (.portEnWrite p true) s = .next t ∧ t.port p = { k with en := true } ∧ t.fab.sent = s.fab.sent ∧ s.onlyPort t p)

/-- A port that loses lock, or hears nothing while UP, goes DOWN with S_LINK_DOWN; its keys are destroyed, no route uses it and
its unacknowledged frames are held; a failed key exchange leads to AUTH_FAIL; a frame that fails its checks counts and, on a port
that is UP, asks for a resend, and the eighth tag failure within 1 s takes the port DOWN; an IDLE frees what it acknowledges, its
RTRY sends the rest again as it was, and the idle timer sends an IDLE (R420 to R424, R430, R431, R434, R439, R440, R528). -/
def Obligations.FabricPortsGoDown : Prop :=
  ∀ (p : Fin 32) (s : State),
    let k := s.port p
    let calm (t : State) : Prop := (∀ c, t.core c = s.core c) ∧ s.sameBytes t
    let recent := (k.tagFails.filter (fun n => decide (s.now < n + 1400000000))).length
    let counted (why : DiscardCause) (t : State) : Prop :=
      (t.port p).crcerr = (if why = .crc ∨ why = .invalid then min 0xFFFF (k.crcerr + 1) else k.crcerr) ∧
      (t.port p).fecunc = (if why = .codeword then min 0xFFFF (k.fecunc + 1) else k.fecunc) ∧
      (t.port p).authfail = (if why = .tagFailed then min 0xFFFF (k.authfail + 1) else k.authfail)
    (∀ row, (row = Instr.fabLossOfLock p ∧ (k.st = 2 ∨ k.st = 3 ∨ k.st = 4)) ∨ (row = .fabLivenessExpiry p ∧ k.st = 4 ∧ k.heard + 1400000 ≤ s.now) →
      ∃ t, exec row s = .next t ∧ (t.port p).st = 0 ∧ (t.port p).keyTx = [] ∧ (t.port p).keyRx = [] ∧
        bitAt t.err.sticky sLinkDown = true ∧ bitAt t.err.linkInfo 63 = true ∧ calm t ∧
        (k.st = 4 → (∀ dst, p.val ∉ t.hops dst) ∧ (t.port p).caught = k.replay)) ∧
    (k.st = 3 → s.sec.sp.head? = some (.ecdh p) → s.sec.spAt + 7000000000 ≤ s.now → ∃ t, exec (.keyxTimeout p) s = .next t ∧ (t.port p).st = 6 ∧
      (t.port p).keyTx = [] ∧ (t.port p).keyRx = [] ∧ calm t) ∧
    (∀ why, k.st = 4 → why ≠ .tagFailed ∨ recent < 7 → ∃ t g, exec (.fabricFrameDiscard p why) s = .next t ∧ counted why t ∧
      (t.port p).st = 4 ∧ t.fab.sent = s.fab.sent ++ [(p.val, g)] ∧ g.type = 0x01 ∧ g.payload.getD 17 0 = 1 ∧
      bitAt t.err.sticky sLinkRetry = true ∧ calm t) ∧
    (∀ why, k.st = 2 ∨ k.st = 3 → ∃ t, exec (.fabricFrameDiscard p why) s = .next t ∧ counted why t ∧ t.fab.sent = s.fab.sent ∧ calm t) ∧
    (k.st = 4 → 7 ≤ recent → ∃ t, exec (.fabricFrameDiscard p .tagFailed) s = .next t ∧ counted .tagFailed t ∧ (t.port p).st = 0 ∧
      bitAt t.err.sticky sLinkDown = true ∧ calm t) ∧
    (∀ hack d, k.st = 4 → d.length = 18 →
      let r := k.replay.drop (((k.replay.findIdx? (fun f => f.hdr.hseq == hack)).map (· + 1)).getD 0)
      ∃ t, exec (.idle p hack d) s = .next t ∧ (t.port p).hackRx = hack ∧ (t.port p).st = 4 ∧ calm t ∧
        (∀ ch < 17, (t.port p).creditGot.getD ch 0 = leAt d ch 1) ∧ (∃ more, (t.port p).replay = r ++ more) ∧
        (k.queue = [] → (t.port p).replay = r ∧ (bitAt (d.getD 17 0) 0 = false → t.fab.sent = s.fab.sent) ∧
          (bitAt (d.getD 17 0) 0 = true → t.fab.sent = s.fab.sent ++
            r.zipIdx.map (fun f => (p.val, s.wireForm p f.1 (k.txCount - r.length + 1 + f.2)))))) ∧
    (k.st = 4 → ∃ t g, exec (.fabIdleTimer p) s = .next t ∧ t.port p = k ∧ t.fab.sent = s.fab.sent ++ [(p.val, g)] ∧ g.type = 0x01 ∧
      g.payload.getD 17 1 = 0 ∧ s.onlyPort t p)

/-- The module floods its link state on every port that is UP and has credit, takes newer link state of others and sends it on,
leaves older, drops what has aged, and computes its routes from it; frames that wait for a LASTSEQ that does not come are lost (R433,
R437, R440). -/
def Obligations.LinkStateSpreads : Prop :=
  ∀ (s : State),
    let open' (q : Nat) : Prop := q < 32 ∧ (s.port q).st = 4 ∧ (s.port q).replay.length < 256 ∧ (s.port q).queue = [] ∧
      (s.port q).hasCredit 16 = true
    let flooded (t : State) (q : Nat) (a : Lsa) : Prop := ∃ g, g.type = 0x04 ∧ g.hdr.enc = (s.port q).enc ∧ g.payload = a.bytes ∧
      (q, s.wireForm q g ((s.port q).txCount + 1)) ∈ t.fab.sent
    (s.hubRuns = true → ∃ t, exec .lsaTimer s = .next t ∧ t.fab.lsaSeq = s.fab.lsaSeq + 1 ∧ s.onlyFabric t ∧
      ∀ q, open' q → flooded t q { s.ownLsa with seq := s.fab.lsaSeq + 1 }) ∧
    (∀ serial, s.now < Sparse.get 0 s.fab.ages serial.toNat + 5600000000 → exec (.lsaAgeOut serial) s = .next s) ∧
    (∀ serial, Sparse.get 0 s.fab.ages serial.toNat + 5600000000 ≤ s.now → ∃ t, exec (.lsaAgeOut serial) s = .next t ∧ s.onlyFabric t ∧ t.fab.ports = s.fab.ports ∧
      ∀ a, a ∈ t.fab.db ↔ a ∈ s.fab.db ∧ a.serial ≠ serial) ∧
    (∀ (p : Fin 32) h d m a, s.accepted p ⟨0x04, h, d, none⟩ m → parseLsa m = some a → a.serial ≠ s.sec.serial →
      ((∀ b ∈ s.fab.db, b.serial = a.serial → b.seq.toNat < a.seq.toNat) → ∃ t, exec (.lsa p h d) s = .next t ∧
        a ∈ t.fab.db ∧ (∀ b ∈ t.fab.db, b.serial = a.serial → b = a) ∧ (t.port p).rxSeq = h.hseq ∧ s.onlyFabric t ∧
        ((∀ q < 32, (s.port q).caught = []) → ∀ q, q ≠ p → open' q → flooded t q a)) ∧
      ((∃ b ∈ s.fab.db, b.serial = a.serial ∧ a.seq.toNat ≤ b.seq.toNat) → ∃ t, exec (.lsa p h d) s = .next t ∧
        t.fab.db = s.fab.db ∧ (t.port p).rxSeq = h.hseq ∧ s.onlyFabric t)) ∧
    ((s.computeRoutes.map (·.1)).Nodup → ∃ t, exec .routeRecomputeDone s = .next t ∧ t.fab.emptied = [] ∧
      t.fab.nreach = 1 + s.computeRoutes.length ∧ (∀ r ∈ s.computeRoutes, t.hops r.1 = r.2.2) ∧
      ((∀ c < 64, ∀ a ∈ (s.core c).se.active, ∀ x ∈ a.xfers, x.pool ≠ 2 ∧ x.kind ≠ .post) → s.onlyFabric t)) ∧
    (∀ (p : Fin 32), s.now < (s.port p).downAt + 1400000 → exec (.lastseqTimeout p) s = .next s) ∧
    (∀ (p : Fin 32), (s.port p).downAt + 1400000 ≤ s.now → ∃ t, exec (.lastseqTimeout p) s = .next t ∧ (t.port p).caught = [] ∧
      (∀ f ∈ (s.port p).caught, f.carries = true → t.loses f.hdr) ∧ s.onlyFabric t)

/-- A request that is delivered acts at its target as R444 and R446 say: PUT writes its data, ADD adds each word below the
prime, GET_REQ answers with the bytes it names, POST adds to the semaphore half and the inbound token queue of the receiving
core; each is answered, a token that finds its queue full when a place has freed; and a request that fails a check is answered NACK
with its fault and changes nothing but the fabric and its counters. A POST of an instruction whose pour has ended since is answered
and discarded (R355). A frame for another module goes on with its hop count raised; one discarded in the crossbar, past its last hop or
without a route is lost (R423, R436, R441, R447). A remote token that waits at a full queue takes the place that frees (R264). -/
def Obligations.RemoteRequestsAct : Prop :=
  ∀ (p : Fin 33) (h : FabHdr) (d m : List Byte) (s : State),
    let sp := fld h.addr 48 4
    let off := fld h.addr 0 48
    let old : Bool := (List.range 16).any (fun g => (s.flask g).oldPeers.contains (insOf h))
    (∀ f, s.delivers p 0x10 h d m → s.remoteCheck h m.length true = .ok f →
      let l := s.pieces f sp off m.length
      let v := s.writerOf p h f
      s.clear v l → ∃ t, exec (.put p h d []) s = .next t ∧ t.answers 0x20 0 h [] ∧
        (∀ key, outsideAll l key → ∀ w, t.readByte w key = s.readByte w key) ∧
        ∀ key, l = [(key, m.length)] → t.sees v key m.length = m) ∧
    (∀ f q key, s.delivers p 0x11 h d m → s.remoteCheck h m.length true = .ok f → s.addPrime h = some q → m.length % 4 = 0 →
      s.pieces f sp off m.length = [(key, m.length)] →
      let v := s.writerOf p h f
      let word (t : State) (i : Nat) : Nat := leNat (t.sees v (key + 4 * i) 4)
      s.clear v [(key, m.length)] →
        ((∀ i < m.length / 4, word s i < q) → ∃ t, exec (.addFrame p h d []) s = .next t ∧ t.answers 0x20 0 h [] ∧
          (∀ i < m.length / 4, word t i = (word s i + leAt m (4 * i) 4) % q % 2 ^ 32) ∧
          ∀ k, outsideAll [(key, m.length)] k → ∀ w, t.readByte w k = s.readByte w k) ∧
        ((∃ i < m.length / 4, q ≤ word s i) → ∃ t, exec (.addFrame p h d []) s = .next t ∧ t.answers 0x21 fModulus h [] ∧
          s.sameBytes t)) ∧
    (∀ f key, s.delivers p 0x12 h d m → leAt m 0 4 ≤ 2048 → s.remoteCheck h (leAt m 0 4) false = .ok f →
      s.pieces f sp off (leAt m 0 4) = [(key, leAt m 0 4)] → s.clear .other [(key, leAt m 0 4)] →
      ∃ t, exec (.getReq p h d []) s = .next t ∧ t.answers 0x22 0 h (s.sees .other key (leAt m 0 4)) ∧ s.sameBytes t) ∧
    (∀ found row code, (row = Instr.put p h d found ∧ s.delivers p 0x10 h d m ∧ s.remoteCheck h m.length true = .error code) ∨
        (row = .addFrame p h d found ∧ s.delivers p 0x11 h d m ∧ s.remoteCheck h m.length true = .error code) ∨
        (row = .getReq p h d found ∧ s.delivers p 0x12 h d m ∧ leAt m 0 4 ≤ 2048 ∧ s.remoteCheck h (leAt m 0 4) false = .error code) ∨
        (row = .post p h d ∧ s.delivers p 0x13 h d m ∧ s.remoteCheck h 1 false = .error code) →
      ∃ t, exec row s = .next t ∧ t.answers 0x21 code h [] ∧ s.onlyFabric t) ∧
    (∀ f, s.delivers p 0x13 h d m → s.remoteCheck h 1 false = .ok f →
      (old = true → ∃ t, exec (.post p h d) s = .next t ∧ t.answers 0x20 0 h [] ∧ (∀ c, t.core c = s.core c) ∧ s.sameBytes t) ∧
      (old = false → s.pourOn f = false ∨ ((s.flaskDef f).map (·.ncores)).getD 0 ≤ h.pcore.toNat →
        ∃ t, exec (.post p h d) s = .next t ∧ t.answers 0x21 fWindow h [] ∧ s.onlyFabric t)) ∧
    (∀ f def' c, s.delivers p 0x13 h d m → s.remoteCheck h 1 false = .ok f → old = false → s.pourOn f = true → s.flaskDef f = some def' →
      h.pcore.toNat < def'.ncores → (s.flask f).shares = [] → (s.hosts f)[h.pcore.toNat]? = some c →
      let q := 48 + h.rtq.toNat
      let x := (s.core c).tokq q
      let fits : Prop := x.count + x.reserved + 1 ≤ 32 ∧
        (s.core c).remoteTok.any (fun t => t.1 + 48 == q && t.2.2.pcore.toNat == h.pcore.toNat) = false
      ∃ t, exec (.post p h d) s = .next t ∧
        (t.core c).sem h.spair.toNat = (if h.spen = true then (if h.shalf = true
          then { (s.core c).sem h.spair.toNat with empty := min 0xFFFF (((s.core c).sem h.spair.toNat).empty + 1) }
          else { (s.core c).sem h.spair.toNat with full := min 0xFFFF (((s.core c).sem h.spair.toNat).full + 1) })
          else (s.core c).sem h.spair.toNat) ∧
        (h.rten = false ∨ fits → t.answers 0x20 0 h [] ∧ (t.core c).remoteTok = (s.core c).remoteTok) ∧
        (h.rten = true → fits → (t.core c).tokq q = ⟨x.count + 1, x.reserved⟩) ∧
        (h.rten = true → ¬ fits → (t.core c).tokq q = x ∧ (t.core c).remoteTok = (s.core c).remoteTok ++ [(h.rtq.toNat, p.val, h)]) ∧
        (∀ n, t.thread c n = s.thread c n) ∧ (∀ e, e ≠ c → t.core e = s.core e) ∧ s.sameBytes t) ∧
    (s.receives p h → ∃ t, exec (.crossbarParityError p h) s = .next t ∧ t.loses h ∧ bitAt t.err.sticky sLinkRetry = true ∧ s.sameBytes t) ∧
    (∀ found row type, (row = Instr.put p h d found ∧ type = 0x10#8) ∨ (row = .addFrame p h d found ∧ type = 0x11) ∨
        (row = .getReq p h d found ∧ type = 0x12) ∨ (row = .post p h d ∧ type = 0x13) ∨ (row = .ack p h d ∧ type = 0x20) ∨
        (row = .nack p h d ∧ type = 0x21) ∨ (row = .getResp p h d ∧ type = 0x22) ∨ (row = .lost p h d ∧ type = 0x23) →
      s.arrives p type h d m → s.forMe p h = false →
      let gone : Prop := (h.response = false ∧ (s.fab.oldAddr = some h.dst ∨ h.dst = 0xFFF)) ∨ h.hop = 7 ∨ s.routable h.dst.toNat = false
      (gone → ∃ t, exec row s = .next t ∧ t.loses h ∧ s.onlyFabric t) ∧
      (¬ gone → ∃ t g, exec row s = .next t ∧ t.carries g ∧ g.type = type ∧ g.payload = m ∧ g.hdr.hop = h.hop + 1 ∧ g.hdr.dst = h.dst ∧
        g.hdr.src = h.src ∧ g.hdr.orig = h.orig ∧ g.hdr.tag = h.tag ∧ g.hdr.addr = h.addr ∧ s.onlyFabric t)) ∧
    (∀ (c : Fin 64) (q : Fin 16) (f l : Nat) (w : Nat × Nat × FabHdr),
      let k := s.core c
      s.serving c = some (f, l) → k.remoteTok.find? (fun t => t.1 == q.val && t.2.2.pcore.toNat == l) = some w →
      (k.tokq (48 + q)).count + (k.tokq (48 + q)).reserved + 1 ≤ 32 → s.coreAlive c = true →
      ∃ t, exec (.remoteTokenDeliver c q) s = .next t ∧
        (t.core c).tokq (48 + q) = ⟨(k.tokq (48 + q)).count + 1, (k.tokq (48 + q)).reserved⟩ ∧
        (∀ p, p ≠ 48 + q.val → (t.core c).tokq p = k.tokq p) ∧ (t.core c).remoteTok = k.remoteTok.erase w ∧
        (w.2.1 ≠ 33 → t.answers 0x20 0 w.2.2 []) ∧ (∀ d, d ≠ c.val → t.core d = s.core d) ∧ (∀ n, t.thread c n = s.thread c n) ∧
        s.sameBytes t)

/-- The answer of a remote transfer that is within its time ends it at the originating core: ACK and GET_RESP with its effect done and
its data delivered, NACK with the fault that the target raised, LOST with F_LINK_LOST (R357, R442, R443, R446). -/
def Obligations.RemoteAnswersEnd : Prop :=
  ∀ (p : Fin 33) (h : FabHdr) (d m : List Byte) (s : State) (a : SeAct) (x : Xfer),
    let c := h.orig.toNat
    let rest := a.xfers.filter (fun y => y.num != x.num)
    (s.core c).tagOf h.tag.toNat = some (a, x) → (s.core c).actOf a.id = some a → s.coreAlive c = true → s.inTime c x = true →
    a.fault = none → a.dirty = false →
    (s.delivers p 0x20 h d m → ∃ t b, exec (.ack p h d) s = .next t ∧ (t.core c).actOf a.id = some b ∧ b.xfers = rest ∧ b.fault = none ∧
      b.posted = (if x.kind = .post then 2 else a.posted) ∧ b.landed = (if x.kind = .post then a.landed else true) ∧ b.got = a.got ∧
      (∀ n, t.thread c n = s.thread c n) ∧ s.sameBytes t) ∧
    (s.delivers p 0x22 h d m → a.ent.op.code = 0x7B → ∃ t b, exec (.getResp p h d) s = .next t ∧ (t.core c).actOf a.id = some b ∧
      b.xfers = rest ∧ b.fault = none ∧ (∀ n, t.thread c n = s.thread c n) ∧ s.sameBytes t ∧
      ∀ w, w ≤ 256 → (∀ u, x.u0 ≤ u → u < x.u0 + x.n → ∃ y, a.readNeed s u = .acc y ∧ y.len = w) →
        ∀ j < x.n, b.unitGot (x.u0 + j) w = bytesAt m (j * w) w ∧ Sparse.get false b.arrived (x.u0 + j) = true) ∧
    (∀ row code, (row = Instr.nack p h d ∧ s.delivers p 0x21 h d m ∧ code = h.status) ∨
        (row = .lost p h d ∧ s.delivers p 0x23 h d m ∧ code = fLinkLost) → s.pourRuns c →
      ∃ t, exec row s = .next t ∧ s.pourFaulted t c 4 a.ent.op.thread a.ent.pc a.ent.op.word code ∧
        (rest = [] → (t.core c).actOf a.id = none) ∧
        (rest ≠ [] → ∃ b, (t.core c).actOf a.id = some b ∧ b.fault = some code ∧ b.xfers = rest) ∧
        (∀ n, n ≠ a.ent.op.thread → t.thread c n = s.thread c n) ∧ s.sameBytes t)

/-! ### Failures -/

/-- A fenced core is out of its pour with what it held, its cause and count are recorded and fused where Table 16-3 says so, and
its flask stops for recovery; a scratchpad fence waits for the pour to end, and every fence for a DEBUG_LEVEL, OWN or DECOMMISSION
past its point of no return. A mesh link that fails for good fences its core, or default paths around it replace the paths that cross
it, or it is a bridge, whose second failure ends every pour. Scrubbing marks lost blocks without a fault; a word of the module's own
memories that SECDED cannot correct fences its core, or ends every pour and drops the mould; a channel move maps its channel out; and
HALTREQ needs level Open (R182, R369, R373, R377, R382, R487, R488, R490 to R497, R541, R545). -/
def Obligations.FailuresAreContained : Prop :=
  ∀ (c : Fin 64) (s : State),
    let cut (cause : FenceCause) (t : State) : Prop := t.fenced c = true ∧ (t.errCore c).cause = fenceCode cause ∧
      (t.errCore c).count = min 255 ((s.errCore c).count + 1) ∧ (t.errCore c).deferred = false ∧ bitAt t.err.sticky sCoreFenced = true ∧
      (cause = .tileWord ∨ cause = .sequencerWord → bitAt t.err.sticky sEccUncorr = true) ∧
      (t.core c).arch = Arch.init ∧ t.serving c = none ∧ t.pwr.gatings = s.pwr.gatings ++ [c.val] ∧
      (fusedAtOnce cause = true ∨ 1 ≤ (s.errCore c).count → s.coreFuse.length < 16 → c.val ∈ t.coreFuse) ∧
      (∀ e n, e ≠ c.val → t.thread e n = s.thread e n) ∧
      ((s.core c).se.active = [] → ∀ v key, key < 3 * 2 ^ 48 → t.readByte v key = s.readByte v key) ∧
      ∀ f, s.pourOf c = some f → (s.flask f).stage = .running ∨ (s.flask f).stage = .loading ∨ (s.flask f).stage = .copying →
        (t.flask f).stage = .stopping .recover ∧
        ((s.flask f).orphans = [] → (s.flask f).shares = [] → ∀ l, (s.hosts f)[l]? = some c.val → (l, c.val) ∈ (t.flask f).orphans)
    let ended (code : BitVec 8) (t : State) : Prop := ∀ f < 16, (s.flask f).stage = .running → (s.flask f).fault = none →
      (t.flask f).stage = .stopping .fault ∧ (t.flask f).fault = some ⟨code, 0, 0, 0, 0, 0, none⟩
    (∀ cause, s.fencesWait = false → s.fenced c = false → cause ≠ .scratchpadWord → ∃ t, exec (.coreFence c cause) s = .next t ∧ cut cause t) ∧
    (s.fencesWait = false → s.fenced c = false → 2 ≤ (s.core c).spadUe →
      (s.pourOf c = none → ∃ t, exec (.coreFence c .scratchpadWord) s = .next t ∧ cut .scratchpadWord t) ∧
      (s.pourOf c ≠ none → ∃ t, exec (.coreFence c .scratchpadWord) s = .next t ∧ (t.errCore c).deferred = true ∧
        t.fenced c = false ∧ { t with err := s.err } = s)) ∧
    (∀ cause, s.fencesWait = true → s.fenced c = false → cause ≠ .scratchpadWord ∨ 2 ≤ (s.core c).spadUe →
      exec (.coreFence c cause) s = .next { s with err := { s.err with fencesDue := s.err.fencesDue ++ [(c.val, cause)] } }) ∧
    ((s.core c).spadUe < 2 → exec (.coreFence c .scratchpadWord) s = .next s) ∧
    (∀ cause, s.fenced c = true → exec (.coreFence c cause) s = .next s) ∧
    ((s.errCore c).deferred = true → s.fenced c = false → s.pourOf c = none → s.fencesWait = false →
      ∃ t, exec (.fenceDeferredEffect c) s = .next t ∧ cut .scratchpadWord t) ∧
    (∀ l, ∃ t, exec (.meshParityError l false) s = .next t ∧ t.err = { s.err with
      meshRetries := min (2 ^ 32 - 1) (s.err.meshRetries + 1) } ∧ { t with err := s.err, cnt := s.cnt } = s) ∧
    (∀ l, ∃ t, exec (.meshParityError l true) s = .next t ∧ t.err.meshFailed = min 0xFFFF (s.err.meshFailed + 1) ∧
      bitAt t.err.sticky sLinkDown = true ∧ bitAt t.err.linkInfo 63 = true ∧
      (l = .corePort c → s.fencesWait = false → t.fenced c = true) ∧
      (∀ n, l = .bridge n → Sparse.get 0 s.err.bridgeFails n.val = 0 → Sparse.get 0 t.err.bridgeFails n.val = 1 ∧
        { t with err := s.err, cnt := s.cnt, free := s.free } = s) ∧
      (∀ n, l = .bridge n → Sparse.get 0 s.err.bridgeFails n.val = 1 → t.err.meshDead = true ∧ bitAt t.err.sticky sSpareExhausted = true ∧
        ended fFenced t) ∧
      (∀ die n, l = .inDie die n → { t with err := s.err, cnt := s.cnt, free := s.free, flasks := s.flasks } = s ∧
        (∀ f, { t.flask f with paths := (s.flask f).paths } = s.flask f) ∧
        ∀ f a b, f < 16 → let x := s.flask f
          let k := x.map.length
          x.paths = [] ∨ x.paths.length = k * (k - 1) → a < k → b < k → a ≠ b → t.pathOf f a b =
            (if x.paths = [] ∨ (linksOf (x.map.getD a 0) (s.pathOf f a b)).contains (24 * die.val + n.val) = true
            then defaultPath (s.err.meshLinks ++ [24 * die.val + n.val]) (x.map.getD a 0) (x.map.getD b 0) else s.pathOf f a b))) ∧
    (∀ (sp : Fin 4) (off : BitVec 48), off.toNat < spaceSize sp →
      let key := memKey sp (off.toNat / 64 * 64)
      let read (v : Viewer) (w : Bool) : Prop :=
        (exec (.scrub (.block sp off) w .clean) s = .next s) ∧
        (∃ t, exec (.scrub (.block sp off) w .corrected) s = .next t ∧ bitAt t.err.sticky sEccCorr = true ∧ s.sameBytes t ∧
          t.lost = s.lost ∧ t.workLost = s.workLost) ∧
        ∃ t, exec (.scrub (.block sp off) w .uncorrectable) s = .next t ∧ bitAt t.err.sticky sEccUncorr = true ∧ s.sameBytes t ∧
          t.blockLost v (key / 64) = true ∧ (w = true → t.lost = s.lost) ∧ ∀ f, (t.flask f) = s.flask f
      s.scrubbed key = true → s.deadLine key = false →
        (Sparse.get false s.lost (key / 64) = false → read .other false) ∧
        (s.seesWork .remote key = true → s.inWork (key / 64) = true → s.blockLost .remote (key / 64) = false → read .remote true)) ∧
    (∀ m w cause, (m = .tiles c ∧ cause = FenceCause.tileWord) ∨ (m = .tables c ∧ cause = .sequencerWord) → s.coreLit c = true →
      (∃ t, exec (.scrub (.own m) w .corrected) s = .next t ∧ bitAt t.err.sticky sEccCorr = true ∧ { t with err := s.err, cnt := s.cnt } = s) ∧
      (s.fencesWait = false → ∃ t, exec (.scrub (.own m) w .uncorrectable) s = .next t ∧ cut cause t)) ∧
    (∀ m w, m = .mouldBanks ∨ m = .commandMemory ∨ m = .eventQueue → s.hubRuns = true →
      (∃ t, exec (.scrub (.own m) w .corrected) s = .next t ∧ bitAt t.err.sticky sEccCorr = true ∧ { t with err := s.err, cnt := s.cnt } = s) ∧
      ∃ t, exec (.scrub (.own m) w .uncorrectable) s = .next t ∧ bitAt t.err.sticky sEccUncorr = true ∧ ((∀ f < 16, s.pourOn f = false) → t.mould = none) ∧
        ((∃ f < 16, s.pourOn f = true) → t.err.mouldDead = true ∧ t.mould = s.mould ∧ ended fEcc t)) ∧
    (∀ (st : Fin 32) (found : List (Nat × EccFind)) (ch : Nat), (s.stack st).moving = some ch →
      ∃ t, exec (.channelMoveDone st found) s = .next t ∧ (t.stack st).mapped = (s.stack st).mapped ++ [ch] ∧
        (t.stack st).used = (s.stack st).used + 1 ∧ bitAt t.err.sticky sChannelMappedOut = true ∧
        (s.mapFuse.length < 64 → (st.val, ch) ∈ t.mapFuse) ∧ s.sameBytes t ∧
        ((s.stack st).used + 1 = s.margin st → bitAt t.err.sticky sSpareExhausted = true) ∧
        (found = [] → (t.stack st).moving = (s.stack st).waiting.head? ∧ (t.stack st).waiting = (s.stack st).waiting.tail)) ∧
    (∀ v, (s.sec.debug = 2 → s.pwr.state = .run ∨ s.pwr.state = .idle → ∃ t, exec (.haltreq c v) s = .next t ∧
        t.core c = { s.core c with haltreq := v } ∧ (∀ e, e ≠ c.val → t.core e = s.core e) ∧ { t with cores := s.cores } = s) ∧
      (s.sec.debug ≠ 2 ∨ ¬ (s.pwr.state = .run ∨ s.pwr.state = .idle) → exec (.haltreq c v) s = .next s))

/-- A flask that is quiet after a fence gives its orphan the next spare and goes on from its commit record, at once or when its
RETAINED partitions have been copied, and the default paths of its new host replace the orphan's; with too few cores left it ends with
F_FENCED. Two logical cores that share a core change places with everything they hold (R182, R497, R498, R502, R509). -/
def Obligations.FlasksRecover : Prop :=
  ∀ (f : Fin 16) (c : Fin 64) (s : State) (d : FlaskDef), s.flaskDef f = some d →
    let x := s.flask f
    let goesOn (t : State) : Prop := (t.flask f).stage = .running ∧ (t.flask f).replays = min (2 ^ 32 - 1) (x.replays + 1) ∧
      (t.flask f).suppress = x.delivered ∧ (t.flask f).orphans = [] ∧
      ∀ (l : Nat) (r : Rec) (e : Nat), x.records[l]? = some r → (t.hosts f)[l]? = some e → (t.core e).arch = { Arch.init with rcd := r }
    (x.stage = .stopping .recover → s.flaskQuietNow f = true → (s.unfencedCores d).length < d.mincores → x.fault = none →
      ∃ t l, exec (.flaskRecovery f) s = .next t ∧ (t.flask f).stage = .stopping .fault ∧
        (t.flask f).fault = some ⟨fFenced, l, 0, 0, 0, 0, none⟩ ∧ bitAt t.err.sticky sSpareExhausted = true) ∧
    (∀ (l old new : Nat), x.stage = .stopping .recover → s.flaskQuietNow f = true → d.mincores ≤ (s.unfencedCores d).length →
      s.err.meshDead = false → x.shares = [] → x.ext = [] → s.orphansOf f = [l] → x.orphans = [(l, old)] → old < 64 →
      x.spares.find? (fun e => !s.fenced e) = some new → ((s.hosts f).set l new).Nodup → x.records ≠ [] →
      ∃ t, exec (.flaskRecovery f) s = .next t ∧ t.hosts f = (s.hosts f).set l new ∧ t.serving new = some (f.val, l) ∧
        (let m := (s.hosts f).set l new
         x.paths = [] ∨ x.paths.length = m.length * (m.length - 1) → ∀ a b, a < m.length → b < m.length → a ≠ b → t.pathOf f a b =
           (if x.paths = [] ∨ a = l ∨ b = l then defaultPath s.err.meshLinks (m.getD a 0) (m.getD b 0) else s.pathOf f a b)) ∧
        (d.retained l = [] → goesOn t) ∧
        (d.retained l ≠ [] → (t.flask f).stage = .copying ∧ (t.flask f).copies = [(old, new)] ∧ (t.flask f).orphans = [(l, old)])) ∧
    (∀ (l new : Nat), s.sound → x.stage = .copying → x.copies = [(c.val, new)] → x.orphans = [(l, c.val)] → x.shares = [] → x.ext = [] →
      (s.hosts f)[l]? = some new → new ≠ c.val → (s.hosts f).Nodup → x.records ≠ [] →
      (∀ g < f.val, (s.flask g).stage ≠ .copying) →
      (∀ e ∈ s.hosts f, (s.core e).arch = Arch.init) →
      ∃ t, exec (.retainedCopyDone c []) s = .next t ∧ goesOn t ∧
        ∀ g i, g ∈ d.retained l → i < 2 ^ 21 →
          Sparse.get false s.lost ((memKey 3 (c * 2 ^ 25 + g * 2 ^ 21) + i) / 64) = false →
          t.readByte .other (memKey 3 (new * 2 ^ 25 + g * 2 ^ 21) + i) = s.readByte .other (memKey 3 (c * 2 ^ 25 + g * 2 ^ 21) + i)) ∧
    (∀ y, s.shareAt c = some (f.val, y) →
      (s.swapDue c y = false → exec (.timeShareSwap c) s = .next s) ∧
      (y.swapping = false → s.swapDue c y = true → ∃ t z, exec (.timeShareSwap c) s = .next t ∧ z ∈ (t.flask f).shares ∧ z = { y with swapping := true } ∧
        { t with flasks := s.flasks } = s) ∧
      (∀ l, y.swapping = true → (s.core c).quiet = true → s.serving c = some (f.val, l) → y.parked ≠ l → s.sound →
        let lo := d.codeg * 2 ^ 21
        ∃ t z, exec (.timeShareSwapDone c) s = .next t ∧ (t.core c).arch = y.image ∧ t.serving c = some (f.val, y.parked) ∧
          z ∈ (t.flask f).shares ∧ z.host = c.val ∧ z.parked = l ∧ z.image = (s.core c).arch ∧ z.swapping = false ∧
          ∀ i, lo ≤ i → i < 2 ^ 25 →
            t.readByte .other (memKey 3 (c * 2 ^ 25) + i) = s.readByte .other (memKey 9 ((64 * f + y.parked) * 2 ^ 25) + i) ∧
            t.readByte .other (memKey 9 ((64 * f + l) * 2 ^ 25) + i) = s.readByte .other (memKey 3 (c * 2 ^ 25) + i)))

/-! ### Power and reset -/

/-- Power comes with the input and PRESENT, reads the fuses, fences the recorded and the failing cores, trains and zeroes the
tiers, and ends in Idle; it goes with the input, all at once, but for what the fuses hold; an input fault or a broken
connection leads to Chrysalis and withholds wakes (R496, R516, R521, R548, R549, R567, R571, R590). -/
def Obligations.PowerComesAndGoes : Prop :=
  ∀ (s : State) (mv : Nat) (failed : List (Fin 64)) (chans : List (Nat × Nat)),
    let fallen (t : State) (entry : BitVec 4) (bit : Nat) : Prop := t.pwr.state = .chrysalis ∧ t.pwr.boot = .ready ∧
      t.pwr.wakesBlocked = true ∧ t.pwr.rstEntry = entry ∧ bitAt t.err.sticky bit = true ∧ t.mould = none ∧ t.bg = none ∧
      (∀ f, (t.flask f).stage = .idle) ∧ t.sec.debug = 0 ∧ t.coreFuse = s.coreFuse ∧
      (∀ v key, key < 2 * 2 ^ 48 ∨ (3 * 2 ^ 48 ≤ key ∧ key < 4 * 2 ^ 48) → t.readByte v key = 0) ∧
      ∀ v key, 2 * 2 ^ 48 ≤ key → key < 3 * 2 ^ 48 → t.readByte v key = s.readByte .other key
    (s.pwr.boot = .off → 48000 ≤ mv → ∃ t, exec (.powerOn mv) s = .next t ∧
      t = { s with pwr := { s.pwr with vin := mv, boot := if s.pwr.present then .charging else .off } }) ∧
    (∃ t, exec .presentMate s = .next t ∧ t.pwr.present = true ∧ { t with pwr := s.pwr } = s ∧
      (s.pwr.boot = .off → t.pwr.boot = if 48000 ≤ s.pwr.vin then .charging else .off)) ∧
    (s.pwr.boot = .charging → ∃ t, exec .bulkCharged s = .next t ∧ t.pwr.boot = .selfTest ∧ t.pwr.state = .idle ∧ t.pwr.rstCause = 0 ∧
      t.sec.lifecycle = (if s.sec.idKeyOk = false ∨ s.sec.idKeyBlown = true ∨ 9 ≤ fuseCount s.sec.lcDecom then 2
        else if 9 ≤ fuseCount s.sec.lcOwned then 1 else 0) ∧
      (∀ c ∈ s.coreFuse, t.fenced c = true ∧ (t.core c).gated = true) ∧ t.draws = s.draws + 1 ∧ s.sameBytes t) ∧
    (s.fencesWait = false → s.pwr.boot = .selfTest ∨ s.pwr.boot = .waking → ∃ t, exec (.selfTestDone failed) s = .next t ∧ t.pwr.boot = .training ∧
      t.cp.st = .locking ∧ (∀ c ∈ failed, t.fenced c = true) ∧ (∀ c, s.fenced c = true → t.fenced c = true) ∧
      (s.pwr.boot = .selfTest → ∀ n < 32, (t.stack n).st = 1) ∧
      ∀ p < 32, (s.port p).en = true → (s.port p).st = 0 → (t.port p).st = 1) ∧
    (s.pwr.boot = .training → s.pwr.target = none → ∃ t, exec (.trainingDone chans) s = .next t ∧ t.pwr.boot = .ready ∧
      t.pwr.state = .idle ∧ (∀ v key, key < 3 * 2 ^ 48 → t.readByte v key = 0) ∧ (chans = [] → ∀ n < 32, (t.stack n).st = 2)) ∧
    (∃ t, exec .powerLoss s = .next t ∧ t.pwr.boot = .off ∧ t.pwr.state = .off ∧ t.mem = [] ∧ t.mould = none ∧ t.sec.debug = 0 ∧
      t.coreFuse = s.coreFuse ∧ t.mapFuse = s.mapFuse ∧ t.pwr.present = s.pwr.present ∧ t.pending = s.pending ∧
      ((∀ g, s.bg = some g → g.stage ≠ .fusing) → t.sec.ownerKey = s.sec.ownerKey ∧ t.sec.ownerHash = s.sec.ownerHash ∧
        t.sec.lcOwned = s.sec.lcOwned ∧ t.sec.lcDecom = s.sec.lcDecom)) ∧
    (∀ high, s.cocoonRuns = true → ¬ (s.pwr.state = .chrysalis ∧ s.pwr.boot = .ready) → ∃ t, exec (.inputFault high) s = .next t ∧
      fallen t (if high then 6 else 5) (if high then sInputOv else sInputUv)) ∧
    (∀ n, s.pwr.vinOk = some n → s.now < n + 140000000 → exec .inputRecoveryTimer s = .next s) ∧
    (∀ n, s.pwr.vinOk = some n → n + 140000000 ≤ s.now → ∃ t, exec .inputRecoveryTimer s = .next t ∧ t = { s with pwr := { s.pwr with wakesBlocked := false } }) ∧
    (s.cocoonRuns = true → ¬ (s.pwr.state = .chrysalis ∧ s.pwr.boot = .ready) → ∃ t, exec .presentBreak s = .next t ∧
      fallen t 5 sInputUv ∧ t.pwr.present = false) ∧
    (∀ row bit, (∃ high, row = Instr.inputFault high ∧ bit = if high then sInputOv else sInputUv) ∨ (row = .presentBreak ∧ bit = sInputUv) →
      s.pwr.state = .chrysalis → s.pwr.boot = .ready → ∃ t, exec row s = .next t ∧ t.pwr.state = .chrysalis ∧ t.pwr.boot = .ready ∧
        t.pwr.wakesBlocked = true ∧ bitAt t.err.sticky bit = true ∧ s.sameBytes t) ∧
    (s.pwr.boot = .charging → ∃ t, exec .presentBreak s = .next t ∧ t.pwr.boot = .off ∧ t.pwr.present = false)

/-- RESET_N and a failing clock hold every flask and then, once RESET_N is high and load-hold has ended, reset the module, which
keeps its tiers; one that interrupts a bring-up goes on with it (the model's choice, log 68). A core's failing clock or supply fences it.
A warm reset discards what waits but its responses, stops every flask, and ends in Idle with the mould kept. RESET_N and WAKE_N end
Chrysalis where no fault withholds it (R483, R549, R561, R566 to R569, R593, R594). -/
def Obligations.ResetsAct : Prop :=
  ∀ (s : State),
    let stopped (t : State) : Prop := ∀ f < 16, (s.flask f).stage = .idle ∨ (t.flask f).stage = .stopping .thermal
    (s.operating = true ∨ s.pwr.boot = .selfTest ∨ s.pwr.boot = .training → ∃ t, exec .resetN s = .next t ∧ t.pwr.boot = .resetHeld ∧
      t.pwr.rstCause = 1 ∧ t.pwr.resetLow = true ∧ stopped t ∧ s.sameBytes t ∧
      (s.pwr.boot = .ready → t.pwr.resume = none) ∧ (s.pwr.boot = .selfTest ∨ s.pwr.boot = .training → t.pwr.resume = some s.pwr.boot)) ∧
    (s.wakeCycle = true → ∃ t, exec .resetN s = .next t ∧ t = { s with pwr := { s.pwr with resetLow := true, rstCause := 1, wakeCause := 3 } }) ∧
    (s.pwr.state = .chrysalis → s.pwr.boot = .ready → s.wakesServed = true →
      (∃ t, exec .resetN s = .next t ∧ t.pwr.boot = .waking ∧ t.pwr.target = some .idle ∧ t.pwr.rstCause = 1) ∧
      (s.pwr.target = none → ∃ t, exec .wakeN s = .next t ∧ t.pwr.boot = .waking ∧ t.pwr.target = some .idle ∧ t.pwr.rstCause = 3 ∧
        ∀ n < 28, (t.stack n).st = 1)) ∧
    (s.pwr.state = .doze → s.pwr.target = none → s.pwr.boot = .ready → s.wakesServed = true → ∃ t, exec .wakeN s = .next t ∧
      t.pwr.target = some .idle ∧ t.pwr.wakeCause = 1 ∧ { t with pwr := s.pwr } = s) ∧
    (s.wakesServed = false → exec .wakeN s = .next s) ∧
    (s.pwr.boot = .resetHeld → s.pwr.hold = 0 → ∃ t, exec .resetNRelease s = .next t ∧ t.pwr.boot = .resetting ∧
      t.pwr.resetLow = false ∧ t.mould = none ∧ t.sec.debug = 0 ∧ t.bg = none ∧ t.staged = [] ∧ t.cp.record = [] ∧
      (∀ f, (t.flask f).stage = .idle) ∧ (∀ c < 64, (t.core c).arch = Arch.init) ∧ t.coreFuse = s.coreFuse ∧
      (∀ v key, 3 * 2 ^ 48 ≤ key → key < 4 * 2 ^ 48 → t.readByte v key = 0) ∧
      ∀ v key, key < 3 * 2 ^ 48 → t.readByte v key = s.readByte .other key) ∧
    (s.pwr.boot ≠ .resetHeld ∨ s.pwr.hold ≠ 0 → exec .resetNRelease s = .next { s with pwr := { s.pwr with resetLow := false } }) ∧
    (∀ (d : Fin 100) (supply : Bool),
      (64 ≤ d.val → supply = false → s.outsideRuns = true → s.domainRuns d = true → ∃ t, exec (.clockFault d supply) s = .next t ∧
        t.pwr.rstCause = 8 ∧ t.pwr.boot = (if s.pwr.resetLow = false ∧ s.pwr.hold = 0 then .resetting else .resetHeld)) ∧
      (d.val < 64 → s.operating = true → s.fencesWait = false → s.pwr.clken.getLsbD d = true → ∃ t, exec (.clockFault d supply) s = .next t ∧
        t.fenced d = true)) ∧
    (s.pwr.boot = .warmPending → ∃ t, exec .warmResetBegin s = .next t ∧ t.pwr.boot = .warming ∧ t.cp.waiting = [] ∧
      t.cp.record = [] ∧ t.cp.blocked = false ∧ (∀ f, f ∈ t.cp.ready ↔ f ∈ s.cp.ready ∧ f.type = 0x11) ∧ stopped t ∧ t.mould = s.mould ∧
      s.sameBytes t) ∧
    (s.pwr.boot = .resetting → s.pwr.resume = none → s.cp.ready = [] → ∃ t, exec .resetSequenceDone s = .next t ∧ t.pwr.boot = .ready ∧
      t.pwr.state = .idle ∧ t.cp.st = .locking ∧ t.says 0x12 0x04 0 0 [1, 3, 0, 0, 0, 0, 0, 0] ∧ s.sameBytes t) ∧
    (∀ b, s.pwr.boot = .resetting → s.pwr.resume = some b → ∃ t, exec .resetSequenceDone s = .next t ∧ t.pwr.boot = b ∧
      t.pwr.resume = none ∧ s.sameBytes t) ∧
    (s.pwr.boot = .warming → s.pwr.resume = none → (List.range 16).all s.flaskQuietNow = true → ∃ t, exec .resetSequenceDone s = .next t ∧
      t.pwr.boot = .ready ∧ t.pwr.state = .idle ∧ t.pwr.rstCause = 2 ∧ t.mould = s.mould ∧ t.staged = [] ∧ t.sec.debug = 0 ∧
      (∀ f < 16, (t.flask f).stage = .idle) ∧ (∀ c < 64, s.fenced c = false → (t.core c).arch = Arch.init) ∧
      ∀ key, key < 3 * 2 ^ 48 → t.readByte .other key = s.readByte .other key)

/-- The governor moves the admitted current by at most one step of SLEW in a tick, and gates at most two domains; a cap that
holds for 1 ms is recorded; temperatures are taken as measured, and the first sensor at its trip threshold stops every flask
and leads to Chrysalis; a transition that may complete ends in its state, the command behind it is answered, a POWER event tells
its cause unless Chrysalis is entered, and the next one that waits begins (R384, R482, R484, R551, R554, R557, R559, R560, R562; the
event's causes are the model's choice where log 68 says so). -/
def Obligations.PowerIsGoverned : Prop :=
  ∀ (s : State) (mv mw : Nat) (stackT coreT : List Nat) (hubT : Nat) (chans : List (Nat × Nat)),
    (s.cocoonRuns = true → s.pwr.boot ≠ .resetHeld → ∃ t, exec (.governorTick mv mw) s = .next t ∧ t.pwr.vin = mv ∧ t.pwr.pin = mw ∧
      s.pwr.gatings.length ≤ t.pwr.gatings.length + 2 ∧ t.pwr.iAdm ≤ s.pwr.iAdm + s.pwr.slew * 125 ∧ s.pwr.iAdm ≤ t.pwr.iAdm + s.pwr.slew * 125 ∧
      (s.pwr.state ≠ .chrysalis → s.pwr.state ≠ .off → (∀ g ∈ s.pwr.gatings, g < 256) → t.pwr.gatings = s.pwr.gatings.drop 2 ∧
        ∀ g ∈ s.pwr.gatings.take 2, g < 64 → (t.core g).gated = true) ∧ s.sameBytes t) ∧
    (s.pwr.capLim = true → s.pwr.capAt + 1400000 ≤ s.now → ∃ t, exec .rampLimitTimer s = .next t ∧ bitAt t.err.sticky sRampLimited = true ∧
      { t with err := s.err, cnt := s.cnt } = s) ∧
    (s.pwr.capLim = false ∨ s.now < s.pwr.capAt + 1400000 → exec .rampLimitTimer s = .next s) ∧
    (let sensor (i : Nat) : Bool := if i < 32 then decide (95 ≤ stackT.getD i 0) else if i < 96 then decide (105 ≤ coreT.getD (i - 32) 0)
       else decide (105 ≤ hubT)
     s.cocoonRuns = true → stackT.length = 32 → coreT.length = 64 → ∃ t, exec (.thermalSample stackT coreT hubT) s = .next t ∧
       (∀ n < 32, (t.stack n).temp = stackT.getD n 0) ∧ t.pwr.hubT = hubT ∧ s.sameBytes t ∧
       (s.pwr.trip = false → ∀ i, (List.range 97).find? sensor = some i → t.pwr.trip = true ∧ t.pwr.tripSrc = BitVec.ofNat 8 i ∧
         bitAt t.err.sticky sThermalThrottle = true ∧ t.pwr.thermLow = true ∧
         (s.pwr.state = .run ∨ s.pwr.state = .idle ∨ s.pwr.state = .doze → t.pwr.target = some .chrysalis ∧ t.pwr.rstEntry = 7 ∧
           ∀ f < 16, (s.flask f).stage = .idle ∨ (t.flask f).stage = .stopping .thermal)) ∧
       (s.pwr.trip = false → (List.range 97).find? sensor = none → t.pwr.trip = false ∧ t.pwr.target = s.pwr.target)) ∧
    (∀ goal, s.pwr.target = some goal → s.mayComplete goal = true → s.pwr.later = [] →
      ∃ t, exec (.powerTransitionComplete chans) s = .next t ∧ t.pwr.state = goal ∧ t.pwr.target = none ∧
        (∀ g, s.bg = some g → g.opcode = 0x50#8 → g.stage = .transition → t.bg = none ∧
          (goal ≠ .chrysalis → t.says 0x11 0x50 0 g.ctag [])) ∧
        (goal ≠ .chrysalis → s.cp.ready = [] →
          t.says 0x12 0x04 0 0 ([BitVec.ofNat 8 t.powerCode, s.pwr.wakeCause] ++ List.replicate 6 0)) ∧
        (goal = .doze → (∀ n < 28, (t.stack n).st = if (s.stack n).st = 4 then 4 else 3) ∧
          (∀ c < 64, s.fenced c = false → (t.core c).arch = Arch.init) ∧ ∀ v key, key < 3 * 2 ^ 48 → t.readByte v key = s.readByte v key) ∧
        (goal = .chrysalis → t.mould = none ∧ t.sec.debug = 0 ∧ ∀ v key, key < 2 * 2 ^ 48 → t.readByte v key = 0)) ∧
    (∀ goal next r, s.pwr.target = some goal → s.mayComplete goal = true → s.pwr.later = (next, 0) :: r → goal ≠ .chrysalis → next ≠ goal →
      ∃ t, exec (.powerTransitionComplete chans) s = .next t ∧ t.pwr.state = goal ∧ t.pwr.target = some next ∧ t.pwr.later = r) ∧
    (∀ goal, s.pwr.target = some goal → s.mayComplete goal = false → exec (.powerTransitionComplete chans) s = .next s)

/-! ### Security -/

/-- The jobs of the cocoon's engines lead on: a digest to a signature or a verification, a signature to the
verification that must release it, an accepted token to zeroisation and then level Open, an accepted key to the fuses and an
Owned module, and an accepted DECOMMISSION to a Decommissioned one, both zeroed before they are answered; what is rejected is
answered 0x10, 0x11 or 0x0E, or ends the key exchange of its port. The fences that waited for zeroising then take effect (R428, R480,
R481, R518, R520, R524, R531, R538, R545). -/
def Obligations.SecurityJobsLeadOn : Prop :=
  ∀ (s : State) (g : Bg), s.bg = some g →
    let verdict (j : BneJob) : Verdict := ecdsaVerify j.x j.y j.r j.sv j.digest
    let jobs (l : List SpJob) : Sec := { s.sec with
      sp := l, spAt := if s.sec.sp.head? = l.head? ∧ s.sec.sp.length ≤ l.length then s.sec.spAt else s.now }
    (∀ j r, s.sec.sha = j :: r → g.stage = .hashing →
      (g.opcode = 0x40#8 → ∃ t, exec .sha512DigestDone s = .next t ∧ t.bg = some { g with stage := .signing } ∧
        t.sec = { jobs (queueSign s.sec.sp) with sha := r } ∧ { t with bg := s.bg, sec := s.sec } = s) ∧
      (g.opcode = 0x21#8 → s.checksSignature = none → ∃ t, exec .sha512DigestDone s = .next t ∧
        t.bg = some { g with stage := .verifying } ∧ t.sec = { s.sec with sha := r, bne := s.sec.bne ++ [s.mouldJob] } ∧
        { t with bg := s.bg, sec := s.sec } = s) ∧
      (∀ e, g.opcode = 0x21#8 → s.checksSignature = some e → ∃ t, exec .sha512DigestDone s = .next t ∧ t.bg = none ∧
        t.says 0x11 0x21 0x0E g.ctag e.payload ∧ t.mould = s.mould ∧ t.staged = s.staged)) ∧
    (∀ r, s.sec.sp = .sign :: r → g.opcode = 0x40#8 → g.stage = .signing → ∃ t q j, exec .securityJobComplete s = .next t ∧
      t.bg = some { g with stage := .verifying, data := q } ∧ bytesAt q 0 3328 = bytesAt g.data 0 3328 ∧
      t.sec.sp = r ∧ t.sec.bne = s.sec.bne ++ [j] ∧ j.purpose = .attest ∧
      j.digest = beNat (sha512 (bytesAt g.data 0 3328)) ∧ beNat (bytesAt q 3328 66) = j.r % 256 ^ 66 ∧ t.draws = s.draws + 1) ∧
    (∀ r p, s.sec.sp = .ecdh p :: r → (s.port p).st = 3 → (s.port p).ecdh = true → ∃ t, exec .securityJobComplete s = .next t ∧
      (t.port p).st = 4 ∧ (t.port p).enc = (s.port p).encNow ∧ t.sec = jobs r ∧ t.bg = s.bg) ∧
    (∀ j r, s.sec.bne = j :: r →
      (j.purpose = .attest → g.opcode = 0x40#8 → ∃ t, exec .bneVerifyComplete s = .next t ∧ t.bg = none ∧
        (verdict j = .accept → t.says 0x11 0x40 0 g.ctag g.data) ∧ (verdict j ≠ .accept → t.says 0x11 0x40 0x11 g.ctag []) ∧
        (verdict j = .broken → bitAt t.err.sticky sBneFault = true)) ∧
      (j.purpose = .debug → g.opcode = 0x41#8 →
        (verdict j = .accept → ∃ t, exec .bneVerifyComplete s = .next t ∧ t.bg = some { g with stage := .zeroising } ∧
          t.sec = { s.sec with bne := r, dbgSeen := true }) ∧
        (verdict j ≠ .accept → ∃ t, exec .bneVerifyComplete s = .next t ∧ t.bg = none ∧ t.sec.debug = s.sec.debug ∧
          t.says 0x11 0x41 (if verdict j = .reject then 0x10 else 0x11) g.ctag [])) ∧
      (j.purpose = .decommission → g.opcode = 0x43#8 →
        (verdict j = .accept → ∃ t, exec .bneVerifyComplete s = .next t ∧ t.bg = some { g with stage := .fusing } ∧
          t.sec = { jobs (s.sec.sp ++ [.fuse]) with bne := r }) ∧
        (verdict j ≠ .accept → ∃ t, exec .bneVerifyComplete s = .next t ∧ t.bg = none ∧ t.sec = { s.sec with bne := r } ∧
          t.says 0x11 0x43 (if verdict j = .reject then 0x10 else 0x11) g.ctag [])) ∧
      (j.purpose = .mould →
        (verdict j = .accept → s.checksLate = none → ∃ t, exec .bneVerifyComplete s = .next t ∧
          t.bg = some { g with stage := .applying } ∧ t.mouldStatus.stage = 4 ∧ t.mould = s.mould ∧ t.staged = s.staged) ∧
        (∀ e, verdict j = .accept → s.checksLate = some e → ∃ t, exec .bneVerifyComplete s = .next t ∧ t.bg = none ∧ t.mould = s.mould ∧
          t.staged = s.staged ∧ t.says 0x11 0x21 0x0E g.ctag e.payload) ∧
        (verdict j ≠ .accept → ∃ t, exec .bneVerifyComplete s = .next t ∧ t.bg = none ∧ t.mould = s.mould ∧ t.staged = s.staged ∧
          t.says 0x11 0x21 0x0E g.ctag [8, 0xFF, 0, 0, 0, 0, 0, 0])) ∧
      (∀ p, j.purpose = .keyxCa p → (s.port p).st = 3 →
        (verdict j = .accept → exec .bneVerifyComplete s = .next { s with sec := { s.sec with bne := r } }) ∧
        (verdict j ≠ .accept → ∃ t, exec .bneVerifyComplete s = .next t ∧ (t.port p).st = 6)) ∧
      (∀ p, j.purpose = .keyxId p → (s.port p).st = 3 →
        (verdict j = .accept → ∃ t, exec .bneVerifyComplete s = .next t ∧ t.sec = { jobs (s.sec.sp ++ [.ecdh p]) with bne := r } ∧
          (t.port p).ecdh = true ∧ (t.port p).st = 3) ∧
        (verdict j ≠ .accept → ∃ t, exec .bneVerifyComplete s = .next t ∧ (t.port p).st = 6))) ∧
    (∀ j r, s.sec.bneShort = j :: r →
      (let key := bytesAt g.data 16 132
       let fine : Prop := onCurve j.x j.y = true ∧ fuseClash s.sec.ownerKey key = false ∧ fuseClash s.sec.ownerHash (sha512 key) = false
       j.purpose = .own → (fine → ∃ t, exec .bneCurveCheckDone s = .next t ∧ t.bg = some { g with stage := .fusing } ∧
           t.sec = { jobs (s.sec.sp ++ [.fuse]) with bneShort := r }) ∧
         (¬ fine → ∃ t, exec .bneCurveCheckDone s = .next t ∧ t.bg = none ∧ t.sec = { s.sec with bneShort := r } ∧
           t.says 0x11 g.opcode 0x10 g.ctag [])) ∧
      (∀ p, j.purpose = .keyxCurve p → (s.port p).st = 3 →
        (onCurve j.x j.y = true → ∃ t a b, exec .bneCurveCheckDone s = .next t ∧ t.sec = { s.sec with bneShort := r, bne := s.sec.bne ++ [a, b] } ∧
          a.purpose = .keyxCa p ∧ b.purpose = .keyxId p ∧ (a.x, a.y) = Config.rootKey) ∧
        (onCurve j.x j.y = false → ∃ t, exec .bneCurveCheckDone s = .next t ∧ (t.port p).st = 6))) ∧
    (∀ (p : Fin 32) d, (s.port p).st = 3 → d.length = 1056 → (s.port p).peerCert = [] →
      (chainFieldsOk d (s.port p).peerSerial.toNat = true → ∃ t j, exec (.keyx p d) s = .next t ∧ (t.port p).peerCert = bytesAt d 0 1024 ∧
        (t.port p).peerNonce = bytesAt d 1024 32 ∧ t.sec = { s.sec with bneShort := s.sec.bneShort ++ [j] } ∧ j.purpose = .keyxCurve p ∧
        j.x = beNat (bytesAt d 24 66) ∧ j.y = beNat (bytesAt d 90 66)) ∧
      (chainFieldsOk d (s.port p).peerSerial.toNat = false → ∃ t, exec (.keyx p d) s = .next t ∧ (t.port p).st = 6)) ∧
    (g.opcode = 0x41#8 → g.stage = .zeroising → s.err.fencesDue = [] → ∃ t, exec .debugZeroiseDone s = .next t ∧ t.sec.debug = 2 ∧ t.bg = none ∧
      t.says 0x11 0x41 0 g.ctag [] ∧ t.mould = s.mould ∧
      (∀ c < 64, (t.core c).arch.tiles = [] ∧ (t.core c).arch.bufs = [] ∧
        ∀ b i v, b < 16 → (s.core c).pwr.getLsbD b = true → i < 2 ^ 21 → t.readByte v (memKey 3 (c * 2 ^ 25 + b * 2 ^ 21) + i) = 0) ∧
      (∀ m r i v, s.mould = some m → r ∈ m.regions → r.conf = true → i < r.size → t.readByte v (memKey r.space r.off + i) = 0) ∧
      t.draws = (if g.data.length = 272 then s.draws + 1 else s.draws)) ∧
    (∀ r, s.sec.sp = .fuse :: r → g.stage = .fusing →
      (g.opcode = 0x42#8 → ∃ t, exec .fuseProgrammingDone s = .next t ∧ t.bg = some { g with stage := .zeroing } ∧
        t.sec = { jobs r with
          ownerKey := bytesAt g.data 16 132, ownerHash := sha512 (bytesAt g.data 16 132), lcOwned := 0xFFFF, lifecycle := 1 }) ∧
      (g.opcode = 0x43#8 → ∃ t, exec .fuseProgrammingDone s = .next t ∧ t.bg = some { g with stage := .zeroing } ∧
        t.sec = { jobs r with idKeyBlown := true, lcDecom := 0xFFFF, lifecycle := 2, debug := 0 } ∧
        ∀ c < 64, (t.core c).hazchk = false ∧ (t.core c).haltreq = false)) ∧
    (∀ row, (row = Instr.debugZeroiseDone ∧ g.opcode = 0x41#8 ∧ g.stage = .zeroising) ∨ (row = .lifecycleZeroingDone ∧ g.stage = .zeroing) →
      ∃ t, exec row s = .next t ∧ t.bg = none ∧ t.err.fencesDue = [] ∧ ∀ x ∈ s.err.fencesDue, x.2 ≠ .scratchpadWord → t.fenced x.1 = true) ∧
    (g.stage = .zeroing → s.err.fencesDue = [] → ∃ t, exec .lifecycleZeroingDone s = .next t ∧ t.bg = none ∧ t.says 0x11 g.opcode 0 g.ctag [] ∧ t.mem = [] ∧
      t.mould = none ∧ t.sec = s.sec ∧ (∀ c < 64, (t.core c).arch.tiles = [] ∧ (t.core c).arch.bufs = [] ∧ (s.fenced c = false → t.serving c = none)))

/-! ### The management connector -/

/-- The SMBus target answers its commands with the values of Table 20-5 while the cocoon runs, sets CML for a failing PEC, a
code it lacks and a value it refuses, and MFR_WAKE wakes (R595 to R597). The test port has BYPASS and IDCODE at every level,
boundary scan and memory at level Open, and registers as the level grants them; what is not granted reads zero and changes
nothing (R598, Table 17-6). -/
def Obligations.ManagementAnswers : Prop :=
  ∀ (s : State),
    let cml : State := { s with pwr := { s.pwr with status := s.pwr.status ||| 0x0002#16 } }
    let milli (n y : Nat) : List Byte := leBytes 2 (n * 2 ^ 11 + min y 1023)
    let reads (row : Bool → Instr) (l : List Byte) : Prop :=
      exec (row true) s = .next { s with pwr := { s.pwr with smbus := l } } ∧ exec (row false) s = .next cml
    (s.cocoonRuns = true →
      reads .statusWord (leBytes 2 (s.pwr.status ||| s.statusNow).toNat) ∧
      reads .readVin (milli 28 (roundEven (s.pwr.vin * 16) 1000)) ∧
      reads .readIin (milli 28 (roundEven (s.pwr.iin * 16) 1000000)) ∧
      reads .readTemperature1 (milli 30 (s.pwr.smax * 4)) ∧ reads .readTemperature2 (milli 30 (s.pwr.cmax * 4)) ∧
      reads .readTemperature3 (milli 30 (s.pwr.hubT * 4)) ∧ reads .readPin (milli 2 (roundEven s.pwr.pin 4000)) ∧
      reads .pmbusRevision [0x33] ∧ reads .mfrSticky (leBytes 2 s.err.sticky.toNat) ∧ reads .mfrPowerState (leBytes 1 s.powerCode) ∧
      (∃ t, exec (.clearFaults true) s = .next t ∧ t = { s with pwr := { s.pwr with status := s.statusNow } }) ∧
      exec (.clearFaults false) s = .next cml ∧
      (∀ v, v ≠ 0xA5#8 → exec (.mfrWake v true) s = .next cml) ∧ (∀ v, exec (.mfrWake v false) s = .next cml) ∧
      (s.pwr.state = .doze → s.pwr.target = none → s.wakesServed = true → ∃ t, exec (.mfrWake 0xA5 true) s = .next t ∧
        t.pwr.target = some .idle ∧ t.pwr.wakeCause = 2 ∧ { t with pwr := s.pwr } = s) ∧
      (s.pwr.state = .chrysalis → s.pwr.boot = .ready → s.pwr.target = none → s.wakesServed = true → ∃ t,
        exec (.mfrWake 0xA5 true) s = .next t ∧ t.pwr.boot = .waking ∧ t.pwr.target = some .idle ∧ t.pwr.rstCause = 4) ∧
      (∀ code, code ∉ [0x03#8, 0x79, 0x88, 0x89, 0x8D, 0x8E, 0x8F, 0x97, 0x98, 0xD0, 0xD1, 0xD2] →
        exec (.smbusInvalidCommand code) s = .next cml) ∧
      exec .idcode s = .next { s with tap := ⟨0x01, 0x06400A5B⟩ } ∧ exec .bypass s = .next { s with tap := ⟨0xFF, 0⟩ } ∧
      (∀ row ir, (row = Instr.extest ∧ ir = 0x00#8) ∨ (row = .samplePreload ∧ ir = 0x02) →
        (s.sec.debug = 2 → s.pwr.state ≠ .chrysalis → ∃ t, exec row s = .next t ∧ t.tap.ir = ir ∧ { t with tap := s.tap, free := s.free } = s) ∧
        (s.sec.debug ≠ 2 ∨ s.pwr.state = .chrysalis → exec row s = .next { s with tap := ⟨ir, 0⟩ })) ∧
      (∀ d : BitVec 128, let off := fld d 64 48
        (s.pwr.state = .chrysalis ∨ s.regGranted (fld d 126 2 == 1) (regAt off) = false →
          exec (.dbgreg d) s = .next { s with tap := ⟨0x20, 0⟩ }) ∧
        (∀ v, s.pwr.state ≠ .chrysalis → fld d 126 2 = 0 → s.readReg off = .ok v → ∃ t, exec (.dbgreg d) s = .next t ∧ t.tap.ir = 0x20 ∧
          fld t.tap.dr 0 64 = v.toNat ∧ { t with tap := s.tap, free := s.free } = s) ∧
        (∀ u, s.pwr.state ≠ .chrysalis → fld d 126 2 = 1 → s.writeReg off (BitVec.ofNat 64 (fld d 0 64)) = .ok u →
          ∃ t, exec (.dbgreg d) s = .next t ∧ t.tap.ir = 0x20 ∧ { t with tap := u.tap, free := u.free } = u)) ∧
      (∀ (d : BitVec 128) found, s.sec.debug ≠ 2 ∨ s.pwr.state = .chrysalis →
        exec (.dbgmem d found) s = .next { s with tap := ⟨0x21, 0⟩ }) ∧
      (∀ (d : BitVec 128), let a : CmdAddr := ⟨0xFFF, fld d 112 4, fld d 64 48, 8⟩
        s.sec.debug = 2 → s.pwr.state ≠ .chrysalis → s.addrAsleep a = false → s.addrOk a = true → a.space ≠ 4 → s.readable a →
        (fld d 126 2 = 0 → ∃ t, exec (.dbgmem d []) s = .next t ∧ t.tap.ir = 0x21 ∧
          fld t.tap.dr 0 64 = leNat (s.sees .other (memKey a.space a.off) 8) ∧ s.sameBytes t) ∧
        (fld d 126 2 = 1 → ∃ t, exec (.dbgmem d []) s = .next t ∧ t.tap.ir = 0x21 ∧
          t.sees .other (memKey a.space a.off) 8 = leBytes 8 (fld d 0 64) ∧
          ∀ v key, ¬ (memKey a.space a.off ≤ key ∧ key < memKey a.space a.off + 8) → t.readByte v key = s.readByte v key))) ∧
    exec .tapReset s = .next { s with tap := ⟨0x01, s.tap.dr⟩ }

/-! ### Reset and invariants -/

/-- The module right after reset: no command waits, its memory is sound and lists nothing, every thread is HALTED with p0
alone set and its registers zero (the zeros of registers without a reset value are the model's choice, log 14), slots, chain
table, semaphores and token queues are zero, HAZCHK and HALTREQ are 0, no mould is committed, the level is Closed, EN of every
port is 1, SLEW is 0x20, PCAP 0x960, every clock enable 1 and WLOG 0x14 (R245, Tables 9-9, 14-6, 17-8, 18-9, 19-3). -/
def Obligations.ResetLeaves : Prop :=
  let s := State.reset
  s.sound ∧ s.pending = [] ∧ s.mem = [] ∧ s.mould = none ∧ s.bg = none ∧ s.staged = [] ∧ s.err.sticky = 0 ∧ s.sec.debug = 0 ∧
  s.pwr.boot = .off ∧ s.pwr.slew = 0x20 ∧ s.pwr.pcap = 0x960 ∧ (∀ d < 100, s.pwr.clken.getLsbD d = true) ∧ s.cnt.wlog = 0x14 ∧
  (∀ p, (s.port p).st = 0 ∧ (s.port p).en = true ∧ (s.port p).encrypt = false) ∧ (∀ f, (s.flask f).stage = .idle) ∧
  ∀ c, (s.core c).hazchk = false ∧ (s.core c).haltreq = false ∧ (s.core c).faultCode = 0 ∧
    (∀ q, (s.core c).tokq q = ⟨0, 0⟩) ∧ (∀ q, (s.core c).sem q = ⟨0, 0⟩) ∧ (s.core c).arch.rcd.slots = [] ∧ (s.core c).arch.rcd.ctab = [] ∧
    ∀ n, (s.thread c n).run = .halted ∧ (s.thread c n).p = 1 ∧ ∀ r, (s.thread c n).reg r = 0

/-- From every state whose memory and window counters are in canonical form, a step leads to such a state, and it takes from the
queue exactly the command at its front: no command adds to the queue or removes another. -/
def Obligations.StepsKeepMemorySound : Prop :=
  ∀ s t : State, step s = .next t → (s.sound → t.sound) ∧ t.pending = s.pending.tail
end

