-- ==== Sys2Proof/Laws/Sparse.lean ====
section
/-! SUPPORT. The laws of sparse tables: a read after a write, and the canonical form that every write keeps. -/

namespace Sys2Proof.Sparse

variable {α : Type}

@[simp] theorem get_nil (d : α) (k : Nat) : get d [] k = d := rfl

theorem get_filter_ne (d : α) (m : Sparse α) {k j : Nat} (h : j ≠ k) :
    get d (m.filter (fun e => e.1 != k)) j = get d m j := by
  induction m with
  | nil => rfl
  | cons e r ih =>
    obtain ⟨a, w⟩ := e
    by_cases ha : a = k
    · subst ha
      simpa [get, Ne.symm h] using ih
    · rw [List.filter_cons_of_pos (by simpa using ha)]
      by_cases hj : a = j <;> simp [get, hj, ih]

theorem get_filter_self (d : α) (m : Sparse α) (k : Nat) : get d (m.filter (fun e => e.1 != k)) k = d := by
  induction m with
  | nil => rfl
  | cons e r ih =>
    obtain ⟨a, w⟩ := e
    by_cases ha : a = k
    · subst ha; simpa using ih
    · simpa [ha, get] using ih

theorem get_insert_ne (d : α) (m : Sparse α) {k j : Nat} (v : α) (h : j ≠ k) : get d (insert k v m) j = get d m j := by
  induction m with
  | nil => simp [insert, get, Ne.symm h]
  | cons e r ih =>
    obtain ⟨a, w⟩ := e
    by_cases hk : k < a
    · simp [insert, hk, get, Ne.symm h]
    · rw [insert, if_neg hk]
      by_cases ha : a = j <;> simp [get, ha, ih]

theorem get_insert_self (d : α) (m : Sparse α) {k : Nat} (v : α) (h : ∀ e ∈ m, e.1 ≠ k) : get d (insert k v m) k = v := by
  induction m with
  | nil => simp [insert, get]
  | cons e r ih =>
    obtain ⟨a, w⟩ := e
    have ha : a ≠ k := h (a, w) (by simp)
    have hr : ∀ e ∈ r, e.1 ≠ k := fun e he => h e (by simp [he])
    by_cases hk : k < a <;> simp [insert, hk, get, ha, ih hr]

variable [DecidableEq α]

/-- A read at the key written gives the value written. -/
@[simp] theorem get_set_self (d : α) (m : Sparse α) (k : Nat) (v : α) : get d (set d m k v) k = v := by
  unfold set
  by_cases hv : v = d
  · simp [hv, get_filter_self]
  · simp only [hv, if_false]
    exact get_insert_self d _ v (by simp)

/-- A read at another key gives what it gave before. -/
theorem get_set_ne (d : α) (m : Sparse α) {k j : Nat} (v : α) (h : j ≠ k) : get d (set d m k v) j = get d m j := by
  unfold set
  by_cases hv : v = d <;> simp [hv, get_insert_ne _ _ _ h, get_filter_ne _ _ h]

/-- What a read gives after a write, at any key. -/
theorem get_set (d : α) (m : Sparse α) (k j : Nat) (v : α) : get d (set d m k v) j = if j = k then v else get d m j := by
  by_cases h : j = k
  · subst h; simp
  · simp [h, get_set_ne _ _ _ h]

/-- Only the last of two writes at one key counts. -/
@[simp] theorem set_set (d : α) (m : Sparse α) (k : Nat) (v w : α) : set d (set d m k v) k w = set d m k w := by
  have hf : ∀ m : Sparse α, (insert k v (m.filter (fun e => e.1 != k))).filter (fun e => e.1 != k) = m.filter (fun e => e.1 != k) := by
    intro m
    induction m with
    | nil => simp [insert]
    | cons e r ih =>
      obtain ⟨a, x⟩ := e
      by_cases ha : a = k
      · subst ha; simpa using ih
      · by_cases hk : k < a
        · simp [ha, insert, hk]
        · simp [ha, insert, hk, ih]
  unfold set
  by_cases hv : v = d <;> simp [hv, hf]

@[simp] theorem get_modify_self (d : α) (m : Sparse α) (k : Nat) (f : α → α) : get d (modify d m k f) k = f (get d m k) := by
  simp [modify]

theorem get_modify_ne (d : α) (m : Sparse α) {k j : Nat} (f : α → α) (h : j ≠ k) : get d (modify d m k f) j = get d m j := by
  simp [modify, get_set_ne _ _ _ h]

/-! ### The canonical form -/

omit [DecidableEq α] in
theorem rising_cons (a : Nat × α) (r : Sparse α) : rising (a :: r) = true ↔ (∀ e ∈ r, a.1 < e.1) ∧ rising r = true := by
  induction r generalizing a with
  | nil => simp [rising]
  | cons b r ih =>
    simp only [rising, Bool.and_eq_true, decide_eq_true_eq, List.mem_cons, forall_eq_or_imp]
    constructor
    · rintro ⟨h1, h2⟩
      have := (ih b).1 h2
      exact ⟨⟨h1, fun e he => lt_trans h1 (this.1 e he)⟩, h2⟩
    · rintro ⟨⟨h1, _⟩, h2⟩
      exact ⟨h1, h2⟩

omit [DecidableEq α] in
theorem rising_filter (m : Sparse α) (p : Nat × α → Bool) (h : rising m = true) : rising (m.filter p) = true := by
  induction m with
  | nil => rfl
  | cons a r ih =>
    obtain ⟨h1, h2⟩ := (rising_cons a r).1 h
    by_cases hp : p a
    · rw [List.filter_cons_of_pos hp]
      exact (rising_cons _ _).2 ⟨fun e he => h1 e (List.mem_of_mem_filter he), ih h2⟩
    · rw [List.filter_cons_of_neg hp]
      exact ih h2

omit [DecidableEq α] in
theorem mem_insert (m : Sparse α) (k : Nat) (v : α) (e : Nat × α) : e ∈ insert k v m ↔ e = (k, v) ∨ e ∈ m := by
  induction m with
  | nil => simp [insert]
  | cons a r ih =>
    by_cases h : k < a.1
    · simp [insert, h]
    · simp only [insert, h, if_false, List.mem_cons, ih]
      tauto

omit [DecidableEq α] in
theorem rising_insert (m : Sparse α) (k : Nat) (v : α) (hk : ∀ e ∈ m, e.1 ≠ k) (h : rising m = true) :
    rising (insert k v m) = true := by
  induction m with
  | nil => rfl
  | cons a r ih =>
    obtain ⟨h1, h2⟩ := (rising_cons a r).1 h
    have ha := hk a (by simp)
    by_cases hlt : k < a.1
    · simp only [insert, hlt, if_true]
      refine (rising_cons _ _).2 ⟨fun e he => ?_, h⟩
      rcases List.mem_cons.1 he with rfl | he
      · exact hlt
      · exact lt_trans hlt (h1 e he)
    · simp only [insert, hlt, if_false]
      refine (rising_cons _ _).2 ⟨fun e he => ?_, ih (fun e he => hk e (by simp [he])) h2⟩
      rcases (mem_insert r k v e).1 he with rfl | he
      · show a.1 < k
        omega
      · exact h1 e he

omit [DecidableEq α] in
theorem rising_iff_pairwise (m : Sparse α) : rising m = true ↔ List.Pairwise (fun a b => a.1 < b.1) m := by
  induction m with
  | nil => simp [rising]
  | cons a r ih => rw [rising_cons, List.pairwise_cons, ih]

@[simp] theorem wf_nil (d : α) : wf d ([] : Sparse α) = true := rfl

/-- Removing entries keeps the canonical form. -/
theorem wf_filter (d : α) (m : Sparse α) (p : Nat × α → Bool) (h : wf d m = true) : wf d (m.filter p) = true := by
  simp only [wf, Bool.and_eq_true, List.all_eq_true] at h ⊢
  exact ⟨rising_filter m p h.1, fun e he => h.2 e (List.mem_of_mem_filter he)⟩

/-- Two canonical tables, the keys of the first below those of the second, join to a canonical table. -/
theorem wf_append (d : α) (m n : Sparse α) (hm : wf d m = true) (hn : wf d n = true) (h : ∀ a ∈ m, ∀ b ∈ n, a.1 < b.1) :
    wf d (m ++ n) = true := by
  simp only [wf, Bool.and_eq_true, rising_iff_pairwise, List.all_eq_true] at hm hn ⊢
  refine ⟨List.pairwise_append.2 ⟨hm.1, hn.1, h⟩, fun e he => ?_⟩
  rcases List.mem_append.1 he with he | he
  · exact hm.2 e he
  · exact hn.2 e he

/-- A write keeps the canonical form. -/
theorem wf_set (d : α) (m : Sparse α) (k : Nat) (v : α) (h : wf d m = true) : wf d (set d m k v) = true := by
  have hf := wf_filter d m (fun e => e.1 != k) h
  unfold set
  by_cases hv : v = d
  · simpa [hv] using hf
  · simp only [hv, if_false]
    simp only [wf, Bool.and_eq_true, List.all_eq_true] at hf ⊢
    refine ⟨rising_insert _ k v (by simp) hf.1, fun e he => ?_⟩
    rcases (mem_insert _ k v e).1 he with rfl | he
    · simpa using hv
    · exact hf.2 e he

/-- A change at a key keeps the canonical form. -/
theorem wf_modify (d : α) (m : Sparse α) (k : Nat) (f : α → α) (h : wf d m = true) : wf d (modify d m k f) = true :=
  wf_set d m k _ h

/-- Two canonical tables that read alike everywhere are equal. -/
theorem ext_of_get (d : α) (m n : Sparse α) (hm : wf d m = true) (hn : wf d n = true) (h : ∀ k, get d m k = get d n k) :
    m = n := by
  have below : ∀ (l : Sparse α) (a : Nat × α), wf d (a :: l) = true → ∀ j, j < a.1 → get d (a :: l) j = d := by
    intro l
    induction l with
    | nil => intro a _ j hj; simp [get, Nat.ne_of_gt hj]
    | cons b r ih =>
      intro a hw j hj
      simp only [wf, Bool.and_eq_true, List.all_eq_true] at hw
      have hr := (rising_cons a (b :: r)).1 hw.1
      have := ih b (by simp only [wf, Bool.and_eq_true, List.all_eq_true]; exact ⟨hr.2, fun e he => hw.2 e (by simp [he])⟩) j
        (lt_trans hj (hr.1 b (by simp)))
      rw [get, if_neg (Nat.ne_of_gt hj)]
      exact this
  have tailwf : ∀ (a : Nat × α) (l : Sparse α), wf d (a :: l) = true → wf d l = true ∧ (∀ e ∈ l, a.1 < e.1) ∧ a.2 ≠ d := by
    intro a l hw
    simp only [wf, Bool.and_eq_true, List.all_eq_true] at hw ⊢
    have hr := (rising_cons a l).1 hw.1
    exact ⟨⟨hr.2, fun e he => hw.2 e (by simp [he])⟩, hr.1, by simpa using hw.2 a (by simp)⟩
  have off : ∀ (l : Sparse α) (k : Nat), (∀ e ∈ l, e.1 ≠ k) → get d l k = d := by
    intro l k
    induction l with
    | nil => intro _; rfl
    | cons a r ih =>
      intro hl
      rw [get, if_neg (hl a (by simp))]
      exact ih (fun e he => hl e (by simp [he]))
  induction m generalizing n with
  | nil =>
    cases n with
    | nil => rfl
    | cons b r =>
      have := h b.1
      simp only [get, if_true] at this
      exact absurd this.symm (tailwf b r hn).2.2
  | cons a l ih =>
    obtain ⟨hl, hlt, had⟩ := tailwf a l hm
    cases n with
    | nil =>
      have := h a.1
      simp only [get, if_true] at this
      exact absurd this had
    | cons b r =>
      obtain ⟨hr, hrt, hbd⟩ := tailwf b r hn
      have hab : a.1 = b.1 := by
        rcases Nat.lt_trichotomy a.1 b.1 with hx | hx | hx
        · have := h a.1
          rw [below r b hn a.1 hx] at this
          simp only [get, if_true] at this
          exact absurd this had
        · exact hx
        · have := h b.1
          rw [below l a hm b.1 hx] at this
          simp only [get, if_true] at this
          exact absurd this.symm hbd
      have hv : a.2 = b.2 := by
        have := h a.1
        simpa [get, hab] using this
      have he : a = b := Prod.ext hab hv
      subst he
      congr 1
      refine ih r hl hr (fun k => ?_)
      by_cases hk : a.1 = k
      · subst hk
        rw [off l a.1 (fun e he => Nat.ne_of_gt (hlt e he)), off r a.1 (fun e he => Nat.ne_of_gt (hrt e he))]
      · have := h k
        simpa [get, hk] using this

end Sys2Proof.Sparse
end

