-- ==== Sys2Proof/Laws/Memory.lean ====
section
/-! SUPPORT. What the operations over memory do: each keeps the canonical form of memory, in both its versions, and of the
marks of lost blocks; a byte that is written reads back, and every other byte reads as before. -/

namespace Sys2Proof.Machine

/-! ### The canonical form -/

/-- The parts of the state that `sound` speaks of. -/
theorem State.sound_congr {s t : State} (hm : t.mem = s.mem) (hw : t.work = s.work) (hl : t.lost = s.lost)
    (hk : t.workLost = s.workLost) (hf : t.foreign = s.foreign) (hc : t.cnt.wins = s.cnt.wins) (h : s.sound) : t.sound := by
  unfold State.sound at *
  rw [hm, hw, hl, hk, hf, hc]
  exact h

theorem State.sound_reset : State.reset.sound := by
  unfold State.sound
  decide

theorem State.sound_writeByte (s : State) (v : Viewer) (key : Nat) (b : Byte) (h : s.sound) : (s.writeByte v key b).sound := by
  obtain ⟨h1, h2, h3, h4, h5, h6⟩ := h
  unfold State.writeByte
  split
  · exact ⟨h1, Sparse.wf_set none s.work key (some b) h2, h3, h4, Sparse.wf_set false s.foreign _ _ h5, h6⟩
  · exact ⟨Sparse.wf_set 0 s.mem key b h1, h2, h3, h4, h5, h6⟩

theorem State.sound_writeRun (s : State) (v : Viewer) (key : Nat) (l : List Byte) (h : s.sound) : (s.writeRun v key l).sound := by
  induction l generalizing s key with
  | nil => exact h
  | cons b r ih => exact ih _ _ (s.sound_writeByte v key b h)

theorem State.sound_crossed (s : State) (p n : Nat) (h : s.sound) : (s.crossed p n).sound := by
  obtain ⟨h1, h2, h3, h4, h5, h6⟩ := h
  exact ⟨h1, h2, h3, h4, h5, Sparse.wf_set _ _ _ _ h6⟩

theorem State.sound_zeroSpan (s : State) (lo len : Nat) (h : s.sound) : (s.zeroSpan lo len).sound := by
  obtain ⟨h1, h2, h3, h4, h5, h6⟩ := h
  exact ⟨Sparse.wf_filter _ _ _ h1, Sparse.wf_filter _ _ _ h2, Sparse.wf_filter _ _ _ h3, Sparse.wf_filter _ _ _ h4,
    Sparse.wf_filter _ _ _ h5, h6⟩

/-- A listed fresh cell lies in the run and is not zero. -/
theorem mem_freshCells {lo n : Nat} {g : Nat → Byte} {e : Host.Cell} (h : e ∈ freshCells lo n g) :
    lo ≤ e.1 ∧ e.1 < lo + n ∧ e.2 ≠ 0 := by
  obtain ⟨i, hi, he⟩ := List.mem_filterMap.1 h
  have := List.mem_range.1 hi
  split at he
  · cases he
  · cases he
    exact ⟨Nat.le_add_right _ _, Nat.add_lt_add_left this _, by assumption⟩

theorem wf_freshCells (lo n : Nat) (g : Nat → Byte) : Sparse.wf (0 : Byte) (freshCells lo n g) = true := by
  simp only [Sparse.wf, Bool.and_eq_true, Sparse.rising_iff_pairwise, List.all_eq_true]
  refine ⟨?_, fun e he => by simpa using (mem_freshCells he).2.2⟩
  refine List.Pairwise.filterMap _ (fun a b hab x hx y hy => ?_) List.pairwise_lt_range
  split at hx <;> cases hx
  split at hy <;> cases hy
  exact Nat.add_lt_add_left hab _

theorem State.sound_putOpen (s : State) (lo n : Nat) (h : s.sound) : (s.putOpen lo n).sound := by
  obtain ⟨h1, h2, h3, h4, h5, h6⟩ := h
  refine ⟨?_, h2, Sparse.wf_filter _ _ _ h3, h4, h5, h6⟩
  have hc : ∀ e ∈ freshCells lo n (fun i => Config.freeByte (s.free + i)), lo ≤ e.1 ∧ e.1 < lo + n :=
    fun e he => ⟨(mem_freshCells he).1, (mem_freshCells he).2.1⟩
  refine Sparse.wf_append _ _ _ (Sparse.wf_append _ _ _ (Sparse.wf_filter _ _ _ h1) (wf_freshCells _ _ _) ?_)
    (Sparse.wf_filter _ _ _ h1) ?_
  · intro a ha b hb
    have h7 := of_decide_eq_true (List.mem_filter.1 ha).2
    have h8 := hc b hb
    omega
  · intro a ha b hb
    have h7 := of_decide_eq_true (List.mem_filter.1 hb).2
    rcases List.mem_append.1 ha with ha | ha
    · have h8 := of_decide_eq_true (List.mem_filter.1 ha).2
      omega
    · have h8 := hc a ha
      omega

theorem State.sound_zeroTiers (s : State) (new : Mould) (h : s.sound) : (s.zeroTiers new).sound := by
  obtain ⟨h1, h2, h3, h4, h5, h6⟩ := h
  exact ⟨Sparse.wf_filter _ _ _ h1, Sparse.wf_filter _ _ _ h2, Sparse.wf_filter _ _ _ h3, Sparse.wf_filter _ _ _ h4,
    Sparse.wf_filter _ _ _ h5, h6⟩

theorem State.sound_discardWork (s : State) (f : Nat) (keep : Bool) (h : s.sound) : (s.discardWork f keep).sound := by
  obtain ⟨h1, h2, h3, h4, h5, h6⟩ := h
  exact ⟨h1, Sparse.wf_filter _ _ _ h2, h3, Sparse.wf_filter _ _ _ h4, Sparse.wf_filter _ _ _ h5, h6⟩

/-- A fold whose every step keeps a property keeps it. -/
theorem foldl_keeps {α β : Type} {p : β → Prop} (g : β → α → β) (h : ∀ b a, p b → p (g b a)) (l : List α) (b : β) (hb : p b) :
    p (l.foldl g b) := by
  induction l generalizing b with
  | nil => exact hb
  | cons a r ih => exact ih _ (h b a hb)

theorem State.sound_flipBytes (f : Nat) (l : Sparse (Option Byte)) (s : State) (h : s.sound) : (s.flipBytes f l).sound := by
  induction l generalizing s with
  | nil => exact h
  | cons e r ih =>
    refine ih _ ?_
    split
    · obtain ⟨h1, h2⟩ := h
      exact ⟨Sparse.wf_set _ _ _ _ h1, h2⟩
    · exact h

theorem State.sound_flipLost (s : State) (f : Nat) (h : s.sound) : (s.flipLost f).sound := by
  obtain ⟨h1, h2, h3, h4⟩ := h
  exact ⟨h1, h2, foldl_keeps (p := fun m => Sparse.wf false m = true) _ (fun m e hm => Sparse.wf_set _ _ _ _ hm) _ _
    (Sparse.wf_filter _ _ _ h3), h4⟩

theorem State.sound_flipWork (s : State) (f : Nat) (h : s.sound) : (s.flipWork f).sound :=
  State.sound_discardWork _ _ _ (State.sound_flipBytes _ _ _ (State.sound_flipLost _ _ h))

theorem wf_moveKeys {α : Type} [DecidableEq α] (d : α) (m : Sparse α) (lo dst n : Nat) (h : Sparse.wf d m = true) :
    Sparse.wf d (moveKeys d m lo dst n) = true :=
  foldl_keeps (p := fun m => Sparse.wf d m = true) _ (fun _ _ hm => Sparse.wf_set _ _ _ _ hm) _ _ (Sparse.wf_filter _ _ _ h)

theorem State.sound_moveSpan (s : State) (lo dst n : Nat) (h : s.sound) : (s.moveSpan lo dst n).sound := by
  obtain ⟨h1, h2, h3, h4⟩ := h
  exact ⟨wf_moveKeys _ _ _ _ _ h1, h2, wf_moveKeys _ _ _ _ _ h3, h4⟩

theorem State.sound_copySpan (s : State) (lo dst n : Nat) (h : s.sound) : (s.copySpan lo dst n).sound := by
  obtain ⟨h1, h2, h3, h4⟩ := s.sound_zeroSpan dst n h
  exact ⟨foldl_keeps (p := fun m => Sparse.wf (0 : Byte) m = true) _ (fun _ _ hm => Sparse.wf_set _ _ _ _ hm) _ _ h1, h2,
    foldl_keeps (p := fun m => Sparse.wf false m = true) _ (fun _ _ hm => Sparse.wf_set _ _ _ _ hm) _ _ h3, h4⟩

/-! ### Read after write -/

theorem State.seesWork_congr {s t : State} (h : t.mould = s.mould) (v : Viewer) (key : Nat) : t.seesWork v key = s.seesWork v key := by
  unfold State.seesWork State.vbOwner State.regionAt
  rw [h]

@[simp] theorem State.mould_writeByte (s : State) (v : Viewer) (key : Nat) (b : Byte) : (s.writeByte v key b).mould = s.mould := by
  unfold State.writeByte
  split <;> rfl

/-- A byte that is written reads back, as its writer sees it. -/
theorem State.readByte_writeByte (s : State) (v : Viewer) (key : Nat) (b : Byte) : (s.writeByte v key b).readByte v key = b := by
  unfold State.readByte
  rw [State.seesWork_congr (s.mould_writeByte v key b)]
  unfold State.writeByte
  by_cases h : s.seesWork v key = true <;> simp [h]

/-- A write leaves every other byte as it was, whoever reads it. -/
theorem State.readByte_writeByte_ne (s : State) (v w : Viewer) {key j : Nat} (b : Byte) (h : j ≠ key) :
    (s.writeByte v key b).readByte w j = s.readByte w j := by
  unfold State.readByte
  rw [State.seesWork_congr (s.mould_writeByte v key b)]
  unfold State.writeByte
  by_cases hs : s.seesWork v key = true <;> simp [Sparse.get_set, h, hs]

@[simp] theorem State.mould_writeRun (s : State) (v : Viewer) (key : Nat) (l : List Byte) : (s.writeRun v key l).mould = s.mould := by
  induction l generalizing s key with
  | nil => rfl
  | cons b r ih => rw [State.writeRun, ih, State.mould_writeByte]

/-- A run of bytes leaves every byte outside it as it was. -/
theorem State.readByte_writeRun_ne (s : State) (v w : Viewer) (key j : Nat) (l : List Byte) (h : j < key ∨ key + l.length ≤ j) :
    (s.writeRun v key l).readByte w j = s.readByte w j := by
  induction l generalizing s key with
  | nil => rfl
  | cons b r ih =>
    rw [List.length_cons] at h
    rw [State.writeRun, ih _ _ (by omega), State.readByte_writeByte_ne _ _ _ _ (by omega)]

/-- A run of bytes reads back, as its writer sees it. -/
theorem State.readByte_writeRun (s : State) (v : Viewer) (key i : Nat) (l : List Byte) (h : i < l.length) :
    (s.writeRun v key l).readByte v (key + i) = l[i] := by
  induction l generalizing s key i with
  | nil => exact absurd h (by simp)
  | cons b r ih =>
    cases i with
    | zero => rw [State.writeRun, State.readByte_writeRun_ne _ _ _ _ _ _ (by omega)]; exact State.readByte_writeByte _ _ _ _
    | succ i =>
      have h2 : i < r.length := by simpa using h
      have h3 := ih (s.writeByte v key b) (key + 1) i h2
      rw [show key + 1 + i = key + (i + 1) by omega] at h3
      simpa [State.writeRun] using h3

/-! ### Spans through their check bits -/

/-- A read of good blocks in which the check bits show nothing changes nothing and succeeds. -/
theorem State.readThrough_good (s : State) (v : Viewer) (source core : Nat) (l : List (Nat × Nat)) (h : s.clear v l) :
    s.readThrough v [] source core l = (s, true) := by
  have h1 : l.any (fun x => (blocksOf x.1 x.2).any (fun b => s.blockLost v b || s.deadLine (64 * b))) = false := by
    simp only [List.any_eq_false]
    intro x hx
    simp only [List.any_eq_true, Bool.or_eq_true, not_exists, not_and, not_or]
    intro b hb
    obtain ⟨h2, h3⟩ := h x hx b hb
    simp [h2, h3]
  simp [State.readThrough, h1, State.ecc, eccFine]

/-- A read of good blocks delivers the bytes that its viewer sees. -/
theorem State.readSpans_good (s : State) (v : Viewer) (source core : Nat) (l : List (Nat × Nat)) (h : s.clear v l) :
    s.readSpans v [] source core l = (s, some (s.spanBytes v l)) := by
  simp [State.readSpans, s.readThrough_good v source core l h]

end Sys2Proof.Machine
end

