-- ==== Sys2Proof/Laws/State.lean ====
section
/-! SUPPORT. One lemma per field and update of the state: an update leaves the fields that it does not name. -/

namespace Sys2Proof.Machine

variable (s : State)

@[simp] theorem State.pending_setCore (c : Nat) (k : Core) : (s.setCore c k).pending = s.pending := rfl
@[simp] theorem State.now_setCore (c : Nat) (k : Core) : (s.setCore c k).now = s.now := rfl
@[simp] theorem State.mem_setCore (c : Nat) (k : Core) : (s.setCore c k).mem = s.mem := rfl
@[simp] theorem State.lost_setCore (c : Nat) (k : Core) : (s.setCore c k).lost = s.lost := rfl
@[simp] theorem State.work_setCore (c : Nat) (k : Core) : (s.setCore c k).work = s.work := rfl
@[simp] theorem State.workLost_setCore (c : Nat) (k : Core) : (s.setCore c k).workLost = s.workLost := rfl
@[simp] theorem State.foreign_setCore (c : Nat) (k : Core) : (s.setCore c k).foreign = s.foreign := rfl
@[simp] theorem State.dram_setCore (c : Nat) (k : Core) : (s.setCore c k).dram = s.dram := rfl
@[simp] theorem State.mapFuse_setCore (c : Nat) (k : Core) : (s.setCore c k).mapFuse = s.mapFuse := rfl
@[simp] theorem State.coreFuse_setCore (c : Nat) (k : Core) : (s.setCore c k).coreFuse = s.coreFuse := rfl
@[simp] theorem State.flasks_setCore (c : Nat) (k : Core) : (s.setCore c k).flasks = s.flasks := rfl
@[simp] theorem State.mould_setCore (c : Nat) (k : Core) : (s.setCore c k).mould = s.mould := rfl
@[simp] theorem State.staged_setCore (c : Nat) (k : Core) : (s.setCore c k).staged = s.staged := rfl
@[simp] theorem State.mouldStatus_setCore (c : Nat) (k : Core) : (s.setCore c k).mouldStatus = s.mouldStatus := rfl
@[simp] theorem State.mouldCount_setCore (c : Nat) (k : Core) : (s.setCore c k).mouldCount = s.mouldCount := rfl
@[simp] theorem State.digest_setCore (c : Nat) (k : Core) : (s.setCore c k).digest = s.digest := rfl
@[simp] theorem State.farClass_setCore (c : Nat) (k : Core) : (s.setCore c k).farClass = s.farClass := rfl
@[simp] theorem State.cp_setCore (c : Nat) (k : Core) : (s.setCore c k).cp = s.cp := rfl
@[simp] theorem State.bg_setCore (c : Nat) (k : Core) : (s.setCore c k).bg = s.bg := rfl
@[simp] theorem State.sec_setCore (c : Nat) (k : Core) : (s.setCore c k).sec = s.sec := rfl
@[simp] theorem State.fab_setCore (c : Nat) (k : Core) : (s.setCore c k).fab = s.fab := rfl
@[simp] theorem State.pwr_setCore (c : Nat) (k : Core) : (s.setCore c k).pwr = s.pwr := rfl
@[simp] theorem State.tap_setCore (c : Nat) (k : Core) : (s.setCore c k).tap = s.tap := rfl
@[simp] theorem State.err_setCore (c : Nat) (k : Core) : (s.setCore c k).err = s.err := rfl
@[simp] theorem State.cnt_setCore (c : Nat) (k : Core) : (s.setCore c k).cnt = s.cnt := rfl
@[simp] theorem State.free_setCore (c : Nat) (k : Core) : (s.setCore c k).free = s.free := rfl
@[simp] theorem State.draws_setCore (c : Nat) (k : Core) : (s.setCore c k).draws = s.draws := rfl

@[simp] theorem State.pending_modCore (c : Nat) (f : Core → Core) : (s.modCore c f).pending = s.pending := rfl
@[simp] theorem State.now_modCore (c : Nat) (f : Core → Core) : (s.modCore c f).now = s.now := rfl
@[simp] theorem State.mem_modCore (c : Nat) (f : Core → Core) : (s.modCore c f).mem = s.mem := rfl
@[simp] theorem State.lost_modCore (c : Nat) (f : Core → Core) : (s.modCore c f).lost = s.lost := rfl
@[simp] theorem State.work_modCore (c : Nat) (f : Core → Core) : (s.modCore c f).work = s.work := rfl
@[simp] theorem State.workLost_modCore (c : Nat) (f : Core → Core) : (s.modCore c f).workLost = s.workLost := rfl
@[simp] theorem State.foreign_modCore (c : Nat) (f : Core → Core) : (s.modCore c f).foreign = s.foreign := rfl
@[simp] theorem State.dram_modCore (c : Nat) (f : Core → Core) : (s.modCore c f).dram = s.dram := rfl
@[simp] theorem State.mapFuse_modCore (c : Nat) (f : Core → Core) : (s.modCore c f).mapFuse = s.mapFuse := rfl
@[simp] theorem State.coreFuse_modCore (c : Nat) (f : Core → Core) : (s.modCore c f).coreFuse = s.coreFuse := rfl
@[simp] theorem State.flasks_modCore (c : Nat) (f : Core → Core) : (s.modCore c f).flasks = s.flasks := rfl
@[simp] theorem State.mould_modCore (c : Nat) (f : Core → Core) : (s.modCore c f).mould = s.mould := rfl
@[simp] theorem State.staged_modCore (c : Nat) (f : Core → Core) : (s.modCore c f).staged = s.staged := rfl
@[simp] theorem State.mouldStatus_modCore (c : Nat) (f : Core → Core) : (s.modCore c f).mouldStatus = s.mouldStatus := rfl
@[simp] theorem State.mouldCount_modCore (c : Nat) (f : Core → Core) : (s.modCore c f).mouldCount = s.mouldCount := rfl
@[simp] theorem State.digest_modCore (c : Nat) (f : Core → Core) : (s.modCore c f).digest = s.digest := rfl
@[simp] theorem State.farClass_modCore (c : Nat) (f : Core → Core) : (s.modCore c f).farClass = s.farClass := rfl
@[simp] theorem State.cp_modCore (c : Nat) (f : Core → Core) : (s.modCore c f).cp = s.cp := rfl
@[simp] theorem State.bg_modCore (c : Nat) (f : Core → Core) : (s.modCore c f).bg = s.bg := rfl
@[simp] theorem State.sec_modCore (c : Nat) (f : Core → Core) : (s.modCore c f).sec = s.sec := rfl
@[simp] theorem State.fab_modCore (c : Nat) (f : Core → Core) : (s.modCore c f).fab = s.fab := rfl
@[simp] theorem State.pwr_modCore (c : Nat) (f : Core → Core) : (s.modCore c f).pwr = s.pwr := rfl
@[simp] theorem State.tap_modCore (c : Nat) (f : Core → Core) : (s.modCore c f).tap = s.tap := rfl
@[simp] theorem State.err_modCore (c : Nat) (f : Core → Core) : (s.modCore c f).err = s.err := rfl
@[simp] theorem State.cnt_modCore (c : Nat) (f : Core → Core) : (s.modCore c f).cnt = s.cnt := rfl
@[simp] theorem State.free_modCore (c : Nat) (f : Core → Core) : (s.modCore c f).free = s.free := rfl
@[simp] theorem State.draws_modCore (c : Nat) (f : Core → Core) : (s.modCore c f).draws = s.draws := rfl

@[simp] theorem State.pending_setThread (c t : Nat) (x : Thread) : (s.setThread c t x).pending = s.pending := rfl
@[simp] theorem State.now_setThread (c t : Nat) (x : Thread) : (s.setThread c t x).now = s.now := rfl
@[simp] theorem State.mem_setThread (c t : Nat) (x : Thread) : (s.setThread c t x).mem = s.mem := rfl
@[simp] theorem State.lost_setThread (c t : Nat) (x : Thread) : (s.setThread c t x).lost = s.lost := rfl
@[simp] theorem State.work_setThread (c t : Nat) (x : Thread) : (s.setThread c t x).work = s.work := rfl
@[simp] theorem State.workLost_setThread (c t : Nat) (x : Thread) : (s.setThread c t x).workLost = s.workLost := rfl
@[simp] theorem State.foreign_setThread (c t : Nat) (x : Thread) : (s.setThread c t x).foreign = s.foreign := rfl
@[simp] theorem State.dram_setThread (c t : Nat) (x : Thread) : (s.setThread c t x).dram = s.dram := rfl
@[simp] theorem State.mapFuse_setThread (c t : Nat) (x : Thread) : (s.setThread c t x).mapFuse = s.mapFuse := rfl
@[simp] theorem State.coreFuse_setThread (c t : Nat) (x : Thread) : (s.setThread c t x).coreFuse = s.coreFuse := rfl
@[simp] theorem State.flasks_setThread (c t : Nat) (x : Thread) : (s.setThread c t x).flasks = s.flasks := rfl
@[simp] theorem State.mould_setThread (c t : Nat) (x : Thread) : (s.setThread c t x).mould = s.mould := rfl
@[simp] theorem State.staged_setThread (c t : Nat) (x : Thread) : (s.setThread c t x).staged = s.staged := rfl
@[simp] theorem State.mouldStatus_setThread (c t : Nat) (x : Thread) : (s.setThread c t x).mouldStatus = s.mouldStatus := rfl
@[simp] theorem State.mouldCount_setThread (c t : Nat) (x : Thread) : (s.setThread c t x).mouldCount = s.mouldCount := rfl
@[simp] theorem State.digest_setThread (c t : Nat) (x : Thread) : (s.setThread c t x).digest = s.digest := rfl
@[simp] theorem State.farClass_setThread (c t : Nat) (x : Thread) : (s.setThread c t x).farClass = s.farClass := rfl
@[simp] theorem State.cp_setThread (c t : Nat) (x : Thread) : (s.setThread c t x).cp = s.cp := rfl
@[simp] theorem State.bg_setThread (c t : Nat) (x : Thread) : (s.setThread c t x).bg = s.bg := rfl
@[simp] theorem State.sec_setThread (c t : Nat) (x : Thread) : (s.setThread c t x).sec = s.sec := rfl
@[simp] theorem State.fab_setThread (c t : Nat) (x : Thread) : (s.setThread c t x).fab = s.fab := rfl
@[simp] theorem State.pwr_setThread (c t : Nat) (x : Thread) : (s.setThread c t x).pwr = s.pwr := rfl
@[simp] theorem State.tap_setThread (c t : Nat) (x : Thread) : (s.setThread c t x).tap = s.tap := rfl
@[simp] theorem State.err_setThread (c t : Nat) (x : Thread) : (s.setThread c t x).err = s.err := rfl
@[simp] theorem State.cnt_setThread (c t : Nat) (x : Thread) : (s.setThread c t x).cnt = s.cnt := rfl
@[simp] theorem State.free_setThread (c t : Nat) (x : Thread) : (s.setThread c t x).free = s.free := rfl
@[simp] theorem State.draws_setThread (c t : Nat) (x : Thread) : (s.setThread c t x).draws = s.draws := rfl

@[simp] theorem State.pending_modThread (c t : Nat) (f : Thread → Thread) : (s.modThread c t f).pending = s.pending := rfl
@[simp] theorem State.now_modThread (c t : Nat) (f : Thread → Thread) : (s.modThread c t f).now = s.now := rfl
@[simp] theorem State.mem_modThread (c t : Nat) (f : Thread → Thread) : (s.modThread c t f).mem = s.mem := rfl
@[simp] theorem State.lost_modThread (c t : Nat) (f : Thread → Thread) : (s.modThread c t f).lost = s.lost := rfl
@[simp] theorem State.work_modThread (c t : Nat) (f : Thread → Thread) : (s.modThread c t f).work = s.work := rfl
@[simp] theorem State.workLost_modThread (c t : Nat) (f : Thread → Thread) : (s.modThread c t f).workLost = s.workLost := rfl
@[simp] theorem State.foreign_modThread (c t : Nat) (f : Thread → Thread) : (s.modThread c t f).foreign = s.foreign := rfl
@[simp] theorem State.dram_modThread (c t : Nat) (f : Thread → Thread) : (s.modThread c t f).dram = s.dram := rfl
@[simp] theorem State.mapFuse_modThread (c t : Nat) (f : Thread → Thread) : (s.modThread c t f).mapFuse = s.mapFuse := rfl
@[simp] theorem State.coreFuse_modThread (c t : Nat) (f : Thread → Thread) : (s.modThread c t f).coreFuse = s.coreFuse := rfl
@[simp] theorem State.flasks_modThread (c t : Nat) (f : Thread → Thread) : (s.modThread c t f).flasks = s.flasks := rfl
@[simp] theorem State.mould_modThread (c t : Nat) (f : Thread → Thread) : (s.modThread c t f).mould = s.mould := rfl
@[simp] theorem State.staged_modThread (c t : Nat) (f : Thread → Thread) : (s.modThread c t f).staged = s.staged := rfl
@[simp] theorem State.mouldStatus_modThread (c t : Nat) (f : Thread → Thread) : (s.modThread c t f).mouldStatus = s.mouldStatus := rfl
@[simp] theorem State.mouldCount_modThread (c t : Nat) (f : Thread → Thread) : (s.modThread c t f).mouldCount = s.mouldCount := rfl
@[simp] theorem State.digest_modThread (c t : Nat) (f : Thread → Thread) : (s.modThread c t f).digest = s.digest := rfl
@[simp] theorem State.farClass_modThread (c t : Nat) (f : Thread → Thread) : (s.modThread c t f).farClass = s.farClass := rfl
@[simp] theorem State.cp_modThread (c t : Nat) (f : Thread → Thread) : (s.modThread c t f).cp = s.cp := rfl
@[simp] theorem State.bg_modThread (c t : Nat) (f : Thread → Thread) : (s.modThread c t f).bg = s.bg := rfl
@[simp] theorem State.sec_modThread (c t : Nat) (f : Thread → Thread) : (s.modThread c t f).sec = s.sec := rfl
@[simp] theorem State.fab_modThread (c t : Nat) (f : Thread → Thread) : (s.modThread c t f).fab = s.fab := rfl
@[simp] theorem State.pwr_modThread (c t : Nat) (f : Thread → Thread) : (s.modThread c t f).pwr = s.pwr := rfl
@[simp] theorem State.tap_modThread (c t : Nat) (f : Thread → Thread) : (s.modThread c t f).tap = s.tap := rfl
@[simp] theorem State.err_modThread (c t : Nat) (f : Thread → Thread) : (s.modThread c t f).err = s.err := rfl
@[simp] theorem State.cnt_modThread (c t : Nat) (f : Thread → Thread) : (s.modThread c t f).cnt = s.cnt := rfl
@[simp] theorem State.free_modThread (c t : Nat) (f : Thread → Thread) : (s.modThread c t f).free = s.free := rfl
@[simp] theorem State.draws_modThread (c t : Nat) (f : Thread → Thread) : (s.modThread c t f).draws = s.draws := rfl

@[simp] theorem State.pending_setFlask (f : Nat) (x : Flask) : (s.setFlask f x).pending = s.pending := rfl
@[simp] theorem State.now_setFlask (f : Nat) (x : Flask) : (s.setFlask f x).now = s.now := rfl
@[simp] theorem State.cores_setFlask (f : Nat) (x : Flask) : (s.setFlask f x).cores = s.cores := rfl
@[simp] theorem State.mem_setFlask (f : Nat) (x : Flask) : (s.setFlask f x).mem = s.mem := rfl
@[simp] theorem State.lost_setFlask (f : Nat) (x : Flask) : (s.setFlask f x).lost = s.lost := rfl
@[simp] theorem State.work_setFlask (f : Nat) (x : Flask) : (s.setFlask f x).work = s.work := rfl
@[simp] theorem State.workLost_setFlask (f : Nat) (x : Flask) : (s.setFlask f x).workLost = s.workLost := rfl
@[simp] theorem State.foreign_setFlask (f : Nat) (x : Flask) : (s.setFlask f x).foreign = s.foreign := rfl
@[simp] theorem State.dram_setFlask (f : Nat) (x : Flask) : (s.setFlask f x).dram = s.dram := rfl
@[simp] theorem State.mapFuse_setFlask (f : Nat) (x : Flask) : (s.setFlask f x).mapFuse = s.mapFuse := rfl
@[simp] theorem State.coreFuse_setFlask (f : Nat) (x : Flask) : (s.setFlask f x).coreFuse = s.coreFuse := rfl
@[simp] theorem State.mould_setFlask (f : Nat) (x : Flask) : (s.setFlask f x).mould = s.mould := rfl
@[simp] theorem State.staged_setFlask (f : Nat) (x : Flask) : (s.setFlask f x).staged = s.staged := rfl
@[simp] theorem State.mouldStatus_setFlask (f : Nat) (x : Flask) : (s.setFlask f x).mouldStatus = s.mouldStatus := rfl
@[simp] theorem State.mouldCount_setFlask (f : Nat) (x : Flask) : (s.setFlask f x).mouldCount = s.mouldCount := rfl
@[simp] theorem State.digest_setFlask (f : Nat) (x : Flask) : (s.setFlask f x).digest = s.digest := rfl
@[simp] theorem State.farClass_setFlask (f : Nat) (x : Flask) : (s.setFlask f x).farClass = s.farClass := rfl
@[simp] theorem State.cp_setFlask (f : Nat) (x : Flask) : (s.setFlask f x).cp = s.cp := rfl
@[simp] theorem State.bg_setFlask (f : Nat) (x : Flask) : (s.setFlask f x).bg = s.bg := rfl
@[simp] theorem State.sec_setFlask (f : Nat) (x : Flask) : (s.setFlask f x).sec = s.sec := rfl
@[simp] theorem State.fab_setFlask (f : Nat) (x : Flask) : (s.setFlask f x).fab = s.fab := rfl
@[simp] theorem State.pwr_setFlask (f : Nat) (x : Flask) : (s.setFlask f x).pwr = s.pwr := rfl
@[simp] theorem State.tap_setFlask (f : Nat) (x : Flask) : (s.setFlask f x).tap = s.tap := rfl
@[simp] theorem State.err_setFlask (f : Nat) (x : Flask) : (s.setFlask f x).err = s.err := rfl
@[simp] theorem State.cnt_setFlask (f : Nat) (x : Flask) : (s.setFlask f x).cnt = s.cnt := rfl
@[simp] theorem State.free_setFlask (f : Nat) (x : Flask) : (s.setFlask f x).free = s.free := rfl
@[simp] theorem State.draws_setFlask (f : Nat) (x : Flask) : (s.setFlask f x).draws = s.draws := rfl

@[simp] theorem State.pending_modFlask (f : Nat) (g : Flask → Flask) : (s.modFlask f g).pending = s.pending := rfl
@[simp] theorem State.now_modFlask (f : Nat) (g : Flask → Flask) : (s.modFlask f g).now = s.now := rfl
@[simp] theorem State.cores_modFlask (f : Nat) (g : Flask → Flask) : (s.modFlask f g).cores = s.cores := rfl
@[simp] theorem State.mem_modFlask (f : Nat) (g : Flask → Flask) : (s.modFlask f g).mem = s.mem := rfl
@[simp] theorem State.lost_modFlask (f : Nat) (g : Flask → Flask) : (s.modFlask f g).lost = s.lost := rfl
@[simp] theorem State.work_modFlask (f : Nat) (g : Flask → Flask) : (s.modFlask f g).work = s.work := rfl
@[simp] theorem State.workLost_modFlask (f : Nat) (g : Flask → Flask) : (s.modFlask f g).workLost = s.workLost := rfl
@[simp] theorem State.foreign_modFlask (f : Nat) (g : Flask → Flask) : (s.modFlask f g).foreign = s.foreign := rfl
@[simp] theorem State.dram_modFlask (f : Nat) (g : Flask → Flask) : (s.modFlask f g).dram = s.dram := rfl
@[simp] theorem State.mapFuse_modFlask (f : Nat) (g : Flask → Flask) : (s.modFlask f g).mapFuse = s.mapFuse := rfl
@[simp] theorem State.coreFuse_modFlask (f : Nat) (g : Flask → Flask) : (s.modFlask f g).coreFuse = s.coreFuse := rfl
@[simp] theorem State.mould_modFlask (f : Nat) (g : Flask → Flask) : (s.modFlask f g).mould = s.mould := rfl
@[simp] theorem State.staged_modFlask (f : Nat) (g : Flask → Flask) : (s.modFlask f g).staged = s.staged := rfl
@[simp] theorem State.mouldStatus_modFlask (f : Nat) (g : Flask → Flask) : (s.modFlask f g).mouldStatus = s.mouldStatus := rfl
@[simp] theorem State.mouldCount_modFlask (f : Nat) (g : Flask → Flask) : (s.modFlask f g).mouldCount = s.mouldCount := rfl
@[simp] theorem State.digest_modFlask (f : Nat) (g : Flask → Flask) : (s.modFlask f g).digest = s.digest := rfl
@[simp] theorem State.farClass_modFlask (f : Nat) (g : Flask → Flask) : (s.modFlask f g).farClass = s.farClass := rfl
@[simp] theorem State.cp_modFlask (f : Nat) (g : Flask → Flask) : (s.modFlask f g).cp = s.cp := rfl
@[simp] theorem State.bg_modFlask (f : Nat) (g : Flask → Flask) : (s.modFlask f g).bg = s.bg := rfl
@[simp] theorem State.sec_modFlask (f : Nat) (g : Flask → Flask) : (s.modFlask f g).sec = s.sec := rfl
@[simp] theorem State.fab_modFlask (f : Nat) (g : Flask → Flask) : (s.modFlask f g).fab = s.fab := rfl
@[simp] theorem State.pwr_modFlask (f : Nat) (g : Flask → Flask) : (s.modFlask f g).pwr = s.pwr := rfl
@[simp] theorem State.tap_modFlask (f : Nat) (g : Flask → Flask) : (s.modFlask f g).tap = s.tap := rfl
@[simp] theorem State.err_modFlask (f : Nat) (g : Flask → Flask) : (s.modFlask f g).err = s.err := rfl
@[simp] theorem State.cnt_modFlask (f : Nat) (g : Flask → Flask) : (s.modFlask f g).cnt = s.cnt := rfl
@[simp] theorem State.free_modFlask (f : Nat) (g : Flask → Flask) : (s.modFlask f g).free = s.free := rfl
@[simp] theorem State.draws_modFlask (f : Nat) (g : Flask → Flask) : (s.modFlask f g).draws = s.draws := rfl

@[simp] theorem State.pending_modStack (n : Nat) (f : Stack → Stack) : (s.modStack n f).pending = s.pending := rfl
@[simp] theorem State.now_modStack (n : Nat) (f : Stack → Stack) : (s.modStack n f).now = s.now := rfl
@[simp] theorem State.cores_modStack (n : Nat) (f : Stack → Stack) : (s.modStack n f).cores = s.cores := rfl
@[simp] theorem State.mem_modStack (n : Nat) (f : Stack → Stack) : (s.modStack n f).mem = s.mem := rfl
@[simp] theorem State.lost_modStack (n : Nat) (f : Stack → Stack) : (s.modStack n f).lost = s.lost := rfl
@[simp] theorem State.work_modStack (n : Nat) (f : Stack → Stack) : (s.modStack n f).work = s.work := rfl
@[simp] theorem State.workLost_modStack (n : Nat) (f : Stack → Stack) : (s.modStack n f).workLost = s.workLost := rfl
@[simp] theorem State.foreign_modStack (n : Nat) (f : Stack → Stack) : (s.modStack n f).foreign = s.foreign := rfl
@[simp] theorem State.mapFuse_modStack (n : Nat) (f : Stack → Stack) : (s.modStack n f).mapFuse = s.mapFuse := rfl
@[simp] theorem State.coreFuse_modStack (n : Nat) (f : Stack → Stack) : (s.modStack n f).coreFuse = s.coreFuse := rfl
@[simp] theorem State.flasks_modStack (n : Nat) (f : Stack → Stack) : (s.modStack n f).flasks = s.flasks := rfl
@[simp] theorem State.mould_modStack (n : Nat) (f : Stack → Stack) : (s.modStack n f).mould = s.mould := rfl
@[simp] theorem State.staged_modStack (n : Nat) (f : Stack → Stack) : (s.modStack n f).staged = s.staged := rfl
@[simp] theorem State.mouldStatus_modStack (n : Nat) (f : Stack → Stack) : (s.modStack n f).mouldStatus = s.mouldStatus := rfl
@[simp] theorem State.mouldCount_modStack (n : Nat) (f : Stack → Stack) : (s.modStack n f).mouldCount = s.mouldCount := rfl
@[simp] theorem State.digest_modStack (n : Nat) (f : Stack → Stack) : (s.modStack n f).digest = s.digest := rfl
@[simp] theorem State.farClass_modStack (n : Nat) (f : Stack → Stack) : (s.modStack n f).farClass = s.farClass := rfl
@[simp] theorem State.cp_modStack (n : Nat) (f : Stack → Stack) : (s.modStack n f).cp = s.cp := rfl
@[simp] theorem State.bg_modStack (n : Nat) (f : Stack → Stack) : (s.modStack n f).bg = s.bg := rfl
@[simp] theorem State.sec_modStack (n : Nat) (f : Stack → Stack) : (s.modStack n f).sec = s.sec := rfl
@[simp] theorem State.fab_modStack (n : Nat) (f : Stack → Stack) : (s.modStack n f).fab = s.fab := rfl
@[simp] theorem State.pwr_modStack (n : Nat) (f : Stack → Stack) : (s.modStack n f).pwr = s.pwr := rfl
@[simp] theorem State.tap_modStack (n : Nat) (f : Stack → Stack) : (s.modStack n f).tap = s.tap := rfl
@[simp] theorem State.err_modStack (n : Nat) (f : Stack → Stack) : (s.modStack n f).err = s.err := rfl
@[simp] theorem State.cnt_modStack (n : Nat) (f : Stack → Stack) : (s.modStack n f).cnt = s.cnt := rfl
@[simp] theorem State.free_modStack (n : Nat) (f : Stack → Stack) : (s.modStack n f).free = s.free := rfl
@[simp] theorem State.draws_modStack (n : Nat) (f : Stack → Stack) : (s.modStack n f).draws = s.draws := rfl

@[simp] theorem State.pending_modPort (p : Nat) (f : Port → Port) : (s.modPort p f).pending = s.pending := rfl
@[simp] theorem State.now_modPort (p : Nat) (f : Port → Port) : (s.modPort p f).now = s.now := rfl
@[simp] theorem State.cores_modPort (p : Nat) (f : Port → Port) : (s.modPort p f).cores = s.cores := rfl
@[simp] theorem State.mem_modPort (p : Nat) (f : Port → Port) : (s.modPort p f).mem = s.mem := rfl
@[simp] theorem State.lost_modPort (p : Nat) (f : Port → Port) : (s.modPort p f).lost = s.lost := rfl
@[simp] theorem State.work_modPort (p : Nat) (f : Port → Port) : (s.modPort p f).work = s.work := rfl
@[simp] theorem State.workLost_modPort (p : Nat) (f : Port → Port) : (s.modPort p f).workLost = s.workLost := rfl
@[simp] theorem State.foreign_modPort (p : Nat) (f : Port → Port) : (s.modPort p f).foreign = s.foreign := rfl
@[simp] theorem State.dram_modPort (p : Nat) (f : Port → Port) : (s.modPort p f).dram = s.dram := rfl
@[simp] theorem State.mapFuse_modPort (p : Nat) (f : Port → Port) : (s.modPort p f).mapFuse = s.mapFuse := rfl
@[simp] theorem State.coreFuse_modPort (p : Nat) (f : Port → Port) : (s.modPort p f).coreFuse = s.coreFuse := rfl
@[simp] theorem State.flasks_modPort (p : Nat) (f : Port → Port) : (s.modPort p f).flasks = s.flasks := rfl
@[simp] theorem State.mould_modPort (p : Nat) (f : Port → Port) : (s.modPort p f).mould = s.mould := rfl
@[simp] theorem State.staged_modPort (p : Nat) (f : Port → Port) : (s.modPort p f).staged = s.staged := rfl
@[simp] theorem State.mouldStatus_modPort (p : Nat) (f : Port → Port) : (s.modPort p f).mouldStatus = s.mouldStatus := rfl
@[simp] theorem State.mouldCount_modPort (p : Nat) (f : Port → Port) : (s.modPort p f).mouldCount = s.mouldCount := rfl
@[simp] theorem State.digest_modPort (p : Nat) (f : Port → Port) : (s.modPort p f).digest = s.digest := rfl
@[simp] theorem State.farClass_modPort (p : Nat) (f : Port → Port) : (s.modPort p f).farClass = s.farClass := rfl
@[simp] theorem State.cp_modPort (p : Nat) (f : Port → Port) : (s.modPort p f).cp = s.cp := rfl
@[simp] theorem State.bg_modPort (p : Nat) (f : Port → Port) : (s.modPort p f).bg = s.bg := rfl
@[simp] theorem State.sec_modPort (p : Nat) (f : Port → Port) : (s.modPort p f).sec = s.sec := rfl
@[simp] theorem State.pwr_modPort (p : Nat) (f : Port → Port) : (s.modPort p f).pwr = s.pwr := rfl
@[simp] theorem State.tap_modPort (p : Nat) (f : Port → Port) : (s.modPort p f).tap = s.tap := rfl
@[simp] theorem State.err_modPort (p : Nat) (f : Port → Port) : (s.modPort p f).err = s.err := rfl
@[simp] theorem State.cnt_modPort (p : Nat) (f : Port → Port) : (s.modPort p f).cnt = s.cnt := rfl
@[simp] theorem State.free_modPort (p : Nat) (f : Port → Port) : (s.modPort p f).free = s.free := rfl
@[simp] theorem State.draws_modPort (p : Nat) (f : Port → Port) : (s.modPort p f).draws = s.draws := rfl

@[simp] theorem State.pending_bump (n d : Nat) : (s.bump n d).pending = s.pending := rfl
@[simp] theorem State.now_bump (n d : Nat) : (s.bump n d).now = s.now := rfl
@[simp] theorem State.cores_bump (n d : Nat) : (s.bump n d).cores = s.cores := rfl
@[simp] theorem State.mem_bump (n d : Nat) : (s.bump n d).mem = s.mem := rfl
@[simp] theorem State.lost_bump (n d : Nat) : (s.bump n d).lost = s.lost := rfl
@[simp] theorem State.work_bump (n d : Nat) : (s.bump n d).work = s.work := rfl
@[simp] theorem State.workLost_bump (n d : Nat) : (s.bump n d).workLost = s.workLost := rfl
@[simp] theorem State.foreign_bump (n d : Nat) : (s.bump n d).foreign = s.foreign := rfl
@[simp] theorem State.dram_bump (n d : Nat) : (s.bump n d).dram = s.dram := rfl
@[simp] theorem State.mapFuse_bump (n d : Nat) : (s.bump n d).mapFuse = s.mapFuse := rfl
@[simp] theorem State.coreFuse_bump (n d : Nat) : (s.bump n d).coreFuse = s.coreFuse := rfl
@[simp] theorem State.flasks_bump (n d : Nat) : (s.bump n d).flasks = s.flasks := rfl
@[simp] theorem State.mould_bump (n d : Nat) : (s.bump n d).mould = s.mould := rfl
@[simp] theorem State.staged_bump (n d : Nat) : (s.bump n d).staged = s.staged := rfl
@[simp] theorem State.mouldStatus_bump (n d : Nat) : (s.bump n d).mouldStatus = s.mouldStatus := rfl
@[simp] theorem State.mouldCount_bump (n d : Nat) : (s.bump n d).mouldCount = s.mouldCount := rfl
@[simp] theorem State.digest_bump (n d : Nat) : (s.bump n d).digest = s.digest := rfl
@[simp] theorem State.farClass_bump (n d : Nat) : (s.bump n d).farClass = s.farClass := rfl
@[simp] theorem State.cp_bump (n d : Nat) : (s.bump n d).cp = s.cp := rfl
@[simp] theorem State.bg_bump (n d : Nat) : (s.bump n d).bg = s.bg := rfl
@[simp] theorem State.sec_bump (n d : Nat) : (s.bump n d).sec = s.sec := rfl
@[simp] theorem State.fab_bump (n d : Nat) : (s.bump n d).fab = s.fab := rfl
@[simp] theorem State.pwr_bump (n d : Nat) : (s.bump n d).pwr = s.pwr := rfl
@[simp] theorem State.tap_bump (n d : Nat) : (s.bump n d).tap = s.tap := rfl
@[simp] theorem State.err_bump (n d : Nat) : (s.bump n d).err = s.err := rfl
@[simp] theorem State.free_bump (n d : Nat) : (s.bump n d).free = s.free := rfl
@[simp] theorem State.draws_bump (n d : Nat) : (s.bump n d).draws = s.draws := rfl

@[simp] theorem State.pending_crossed (p n : Nat) : (s.crossed p n).pending = s.pending := rfl
@[simp] theorem State.now_crossed (p n : Nat) : (s.crossed p n).now = s.now := rfl
@[simp] theorem State.cores_crossed (p n : Nat) : (s.crossed p n).cores = s.cores := rfl
@[simp] theorem State.mem_crossed (p n : Nat) : (s.crossed p n).mem = s.mem := rfl
@[simp] theorem State.lost_crossed (p n : Nat) : (s.crossed p n).lost = s.lost := rfl
@[simp] theorem State.work_crossed (p n : Nat) : (s.crossed p n).work = s.work := rfl
@[simp] theorem State.workLost_crossed (p n : Nat) : (s.crossed p n).workLost = s.workLost := rfl
@[simp] theorem State.foreign_crossed (p n : Nat) : (s.crossed p n).foreign = s.foreign := rfl
@[simp] theorem State.dram_crossed (p n : Nat) : (s.crossed p n).dram = s.dram := rfl
@[simp] theorem State.mapFuse_crossed (p n : Nat) : (s.crossed p n).mapFuse = s.mapFuse := rfl
@[simp] theorem State.coreFuse_crossed (p n : Nat) : (s.crossed p n).coreFuse = s.coreFuse := rfl
@[simp] theorem State.flasks_crossed (p n : Nat) : (s.crossed p n).flasks = s.flasks := rfl
@[simp] theorem State.mould_crossed (p n : Nat) : (s.crossed p n).mould = s.mould := rfl
@[simp] theorem State.staged_crossed (p n : Nat) : (s.crossed p n).staged = s.staged := rfl
@[simp] theorem State.mouldStatus_crossed (p n : Nat) : (s.crossed p n).mouldStatus = s.mouldStatus := rfl
@[simp] theorem State.mouldCount_crossed (p n : Nat) : (s.crossed p n).mouldCount = s.mouldCount := rfl
@[simp] theorem State.digest_crossed (p n : Nat) : (s.crossed p n).digest = s.digest := rfl
@[simp] theorem State.farClass_crossed (p n : Nat) : (s.crossed p n).farClass = s.farClass := rfl
@[simp] theorem State.cp_crossed (p n : Nat) : (s.crossed p n).cp = s.cp := rfl
@[simp] theorem State.bg_crossed (p n : Nat) : (s.crossed p n).bg = s.bg := rfl
@[simp] theorem State.sec_crossed (p n : Nat) : (s.crossed p n).sec = s.sec := rfl
@[simp] theorem State.fab_crossed (p n : Nat) : (s.crossed p n).fab = s.fab := rfl
@[simp] theorem State.pwr_crossed (p n : Nat) : (s.crossed p n).pwr = s.pwr := rfl
@[simp] theorem State.tap_crossed (p n : Nat) : (s.crossed p n).tap = s.tap := rfl
@[simp] theorem State.err_crossed (p n : Nat) : (s.crossed p n).err = s.err := rfl
@[simp] theorem State.free_crossed (p n : Nat) : (s.crossed p n).free = s.free := rfl
@[simp] theorem State.draws_crossed (p n : Nat) : (s.crossed p n).draws = s.draws := rfl

@[simp] theorem State.pending_setFreeze (v : Bool) : (s.setFreeze v).pending = s.pending := rfl
@[simp] theorem State.now_setFreeze (v : Bool) : (s.setFreeze v).now = s.now := rfl
@[simp] theorem State.cores_setFreeze (v : Bool) : (s.setFreeze v).cores = s.cores := rfl
@[simp] theorem State.mem_setFreeze (v : Bool) : (s.setFreeze v).mem = s.mem := rfl
@[simp] theorem State.lost_setFreeze (v : Bool) : (s.setFreeze v).lost = s.lost := rfl
@[simp] theorem State.work_setFreeze (v : Bool) : (s.setFreeze v).work = s.work := rfl
@[simp] theorem State.workLost_setFreeze (v : Bool) : (s.setFreeze v).workLost = s.workLost := rfl
@[simp] theorem State.foreign_setFreeze (v : Bool) : (s.setFreeze v).foreign = s.foreign := rfl
@[simp] theorem State.dram_setFreeze (v : Bool) : (s.setFreeze v).dram = s.dram := rfl
@[simp] theorem State.mapFuse_setFreeze (v : Bool) : (s.setFreeze v).mapFuse = s.mapFuse := rfl
@[simp] theorem State.coreFuse_setFreeze (v : Bool) : (s.setFreeze v).coreFuse = s.coreFuse := rfl
@[simp] theorem State.flasks_setFreeze (v : Bool) : (s.setFreeze v).flasks = s.flasks := rfl
@[simp] theorem State.mould_setFreeze (v : Bool) : (s.setFreeze v).mould = s.mould := rfl
@[simp] theorem State.staged_setFreeze (v : Bool) : (s.setFreeze v).staged = s.staged := rfl
@[simp] theorem State.mouldStatus_setFreeze (v : Bool) : (s.setFreeze v).mouldStatus = s.mouldStatus := rfl
@[simp] theorem State.mouldCount_setFreeze (v : Bool) : (s.setFreeze v).mouldCount = s.mouldCount := rfl
@[simp] theorem State.digest_setFreeze (v : Bool) : (s.setFreeze v).digest = s.digest := rfl
@[simp] theorem State.farClass_setFreeze (v : Bool) : (s.setFreeze v).farClass = s.farClass := rfl
@[simp] theorem State.cp_setFreeze (v : Bool) : (s.setFreeze v).cp = s.cp := rfl
@[simp] theorem State.bg_setFreeze (v : Bool) : (s.setFreeze v).bg = s.bg := rfl
@[simp] theorem State.sec_setFreeze (v : Bool) : (s.setFreeze v).sec = s.sec := rfl
@[simp] theorem State.fab_setFreeze (v : Bool) : (s.setFreeze v).fab = s.fab := rfl
@[simp] theorem State.pwr_setFreeze (v : Bool) : (s.setFreeze v).pwr = s.pwr := rfl
@[simp] theorem State.tap_setFreeze (v : Bool) : (s.setFreeze v).tap = s.tap := rfl
@[simp] theorem State.err_setFreeze (v : Bool) : (s.setFreeze v).err = s.err := rfl
@[simp] theorem State.free_setFreeze (v : Bool) : (s.setFreeze v).free = s.free := rfl
@[simp] theorem State.draws_setFreeze (v : Bool) : (s.setFreeze v).draws = s.draws := rfl

@[simp] theorem State.pending_clearSticky (m : Word) : (s.clearSticky m).pending = s.pending := rfl
@[simp] theorem State.now_clearSticky (m : Word) : (s.clearSticky m).now = s.now := rfl
@[simp] theorem State.cores_clearSticky (m : Word) : (s.clearSticky m).cores = s.cores := rfl
@[simp] theorem State.mem_clearSticky (m : Word) : (s.clearSticky m).mem = s.mem := rfl
@[simp] theorem State.lost_clearSticky (m : Word) : (s.clearSticky m).lost = s.lost := rfl
@[simp] theorem State.work_clearSticky (m : Word) : (s.clearSticky m).work = s.work := rfl
@[simp] theorem State.workLost_clearSticky (m : Word) : (s.clearSticky m).workLost = s.workLost := rfl
@[simp] theorem State.foreign_clearSticky (m : Word) : (s.clearSticky m).foreign = s.foreign := rfl
@[simp] theorem State.dram_clearSticky (m : Word) : (s.clearSticky m).dram = s.dram := rfl
@[simp] theorem State.mapFuse_clearSticky (m : Word) : (s.clearSticky m).mapFuse = s.mapFuse := rfl
@[simp] theorem State.coreFuse_clearSticky (m : Word) : (s.clearSticky m).coreFuse = s.coreFuse := rfl
@[simp] theorem State.flasks_clearSticky (m : Word) : (s.clearSticky m).flasks = s.flasks := rfl
@[simp] theorem State.mould_clearSticky (m : Word) : (s.clearSticky m).mould = s.mould := rfl
@[simp] theorem State.staged_clearSticky (m : Word) : (s.clearSticky m).staged = s.staged := rfl
@[simp] theorem State.mouldStatus_clearSticky (m : Word) : (s.clearSticky m).mouldStatus = s.mouldStatus := rfl
@[simp] theorem State.mouldCount_clearSticky (m : Word) : (s.clearSticky m).mouldCount = s.mouldCount := rfl
@[simp] theorem State.digest_clearSticky (m : Word) : (s.clearSticky m).digest = s.digest := rfl
@[simp] theorem State.farClass_clearSticky (m : Word) : (s.clearSticky m).farClass = s.farClass := rfl
@[simp] theorem State.cp_clearSticky (m : Word) : (s.clearSticky m).cp = s.cp := rfl
@[simp] theorem State.bg_clearSticky (m : Word) : (s.clearSticky m).bg = s.bg := rfl
@[simp] theorem State.sec_clearSticky (m : Word) : (s.clearSticky m).sec = s.sec := rfl
@[simp] theorem State.fab_clearSticky (m : Word) : (s.clearSticky m).fab = s.fab := rfl
@[simp] theorem State.pwr_clearSticky (m : Word) : (s.clearSticky m).pwr = s.pwr := rfl
@[simp] theorem State.tap_clearSticky (m : Word) : (s.clearSticky m).tap = s.tap := rfl
@[simp] theorem State.cnt_clearSticky (m : Word) : (s.clearSticky m).cnt = s.cnt := rfl
@[simp] theorem State.free_clearSticky (m : Word) : (s.clearSticky m).free = s.free := rfl
@[simp] theorem State.draws_clearSticky (m : Word) : (s.clearSticky m).draws = s.draws := rfl

@[simp] theorem State.pending_modPwr (f : Pwr → Pwr) : (s.modPwr f).pending = s.pending := rfl
@[simp] theorem State.now_modPwr (f : Pwr → Pwr) : (s.modPwr f).now = s.now := rfl
@[simp] theorem State.cores_modPwr (f : Pwr → Pwr) : (s.modPwr f).cores = s.cores := rfl
@[simp] theorem State.mem_modPwr (f : Pwr → Pwr) : (s.modPwr f).mem = s.mem := rfl
@[simp] theorem State.lost_modPwr (f : Pwr → Pwr) : (s.modPwr f).lost = s.lost := rfl
@[simp] theorem State.work_modPwr (f : Pwr → Pwr) : (s.modPwr f).work = s.work := rfl
@[simp] theorem State.workLost_modPwr (f : Pwr → Pwr) : (s.modPwr f).workLost = s.workLost := rfl
@[simp] theorem State.foreign_modPwr (f : Pwr → Pwr) : (s.modPwr f).foreign = s.foreign := rfl
@[simp] theorem State.dram_modPwr (f : Pwr → Pwr) : (s.modPwr f).dram = s.dram := rfl
@[simp] theorem State.mapFuse_modPwr (f : Pwr → Pwr) : (s.modPwr f).mapFuse = s.mapFuse := rfl
@[simp] theorem State.coreFuse_modPwr (f : Pwr → Pwr) : (s.modPwr f).coreFuse = s.coreFuse := rfl
@[simp] theorem State.flasks_modPwr (f : Pwr → Pwr) : (s.modPwr f).flasks = s.flasks := rfl
@[simp] theorem State.mould_modPwr (f : Pwr → Pwr) : (s.modPwr f).mould = s.mould := rfl
@[simp] theorem State.staged_modPwr (f : Pwr → Pwr) : (s.modPwr f).staged = s.staged := rfl
@[simp] theorem State.mouldStatus_modPwr (f : Pwr → Pwr) : (s.modPwr f).mouldStatus = s.mouldStatus := rfl
@[simp] theorem State.mouldCount_modPwr (f : Pwr → Pwr) : (s.modPwr f).mouldCount = s.mouldCount := rfl
@[simp] theorem State.digest_modPwr (f : Pwr → Pwr) : (s.modPwr f).digest = s.digest := rfl
@[simp] theorem State.farClass_modPwr (f : Pwr → Pwr) : (s.modPwr f).farClass = s.farClass := rfl
@[simp] theorem State.cp_modPwr (f : Pwr → Pwr) : (s.modPwr f).cp = s.cp := rfl
@[simp] theorem State.bg_modPwr (f : Pwr → Pwr) : (s.modPwr f).bg = s.bg := rfl
@[simp] theorem State.sec_modPwr (f : Pwr → Pwr) : (s.modPwr f).sec = s.sec := rfl
@[simp] theorem State.fab_modPwr (f : Pwr → Pwr) : (s.modPwr f).fab = s.fab := rfl
@[simp] theorem State.tap_modPwr (f : Pwr → Pwr) : (s.modPwr f).tap = s.tap := rfl
@[simp] theorem State.err_modPwr (f : Pwr → Pwr) : (s.modPwr f).err = s.err := rfl
@[simp] theorem State.cnt_modPwr (f : Pwr → Pwr) : (s.modPwr f).cnt = s.cnt := rfl
@[simp] theorem State.free_modPwr (f : Pwr → Pwr) : (s.modPwr f).free = s.free := rfl
@[simp] theorem State.draws_modPwr (f : Pwr → Pwr) : (s.modPwr f).draws = s.draws := rfl

@[simp] theorem State.pending_modCp (f : Cp → Cp) : (s.modCp f).pending = s.pending := rfl
@[simp] theorem State.now_modCp (f : Cp → Cp) : (s.modCp f).now = s.now := rfl
@[simp] theorem State.cores_modCp (f : Cp → Cp) : (s.modCp f).cores = s.cores := rfl
@[simp] theorem State.mem_modCp (f : Cp → Cp) : (s.modCp f).mem = s.mem := rfl
@[simp] theorem State.lost_modCp (f : Cp → Cp) : (s.modCp f).lost = s.lost := rfl
@[simp] theorem State.work_modCp (f : Cp → Cp) : (s.modCp f).work = s.work := rfl
@[simp] theorem State.workLost_modCp (f : Cp → Cp) : (s.modCp f).workLost = s.workLost := rfl
@[simp] theorem State.foreign_modCp (f : Cp → Cp) : (s.modCp f).foreign = s.foreign := rfl
@[simp] theorem State.dram_modCp (f : Cp → Cp) : (s.modCp f).dram = s.dram := rfl
@[simp] theorem State.mapFuse_modCp (f : Cp → Cp) : (s.modCp f).mapFuse = s.mapFuse := rfl
@[simp] theorem State.coreFuse_modCp (f : Cp → Cp) : (s.modCp f).coreFuse = s.coreFuse := rfl
@[simp] theorem State.flasks_modCp (f : Cp → Cp) : (s.modCp f).flasks = s.flasks := rfl
@[simp] theorem State.mould_modCp (f : Cp → Cp) : (s.modCp f).mould = s.mould := rfl
@[simp] theorem State.staged_modCp (f : Cp → Cp) : (s.modCp f).staged = s.staged := rfl
@[simp] theorem State.mouldStatus_modCp (f : Cp → Cp) : (s.modCp f).mouldStatus = s.mouldStatus := rfl
@[simp] theorem State.mouldCount_modCp (f : Cp → Cp) : (s.modCp f).mouldCount = s.mouldCount := rfl
@[simp] theorem State.digest_modCp (f : Cp → Cp) : (s.modCp f).digest = s.digest := rfl
@[simp] theorem State.farClass_modCp (f : Cp → Cp) : (s.modCp f).farClass = s.farClass := rfl
@[simp] theorem State.bg_modCp (f : Cp → Cp) : (s.modCp f).bg = s.bg := rfl
@[simp] theorem State.sec_modCp (f : Cp → Cp) : (s.modCp f).sec = s.sec := rfl
@[simp] theorem State.fab_modCp (f : Cp → Cp) : (s.modCp f).fab = s.fab := rfl
@[simp] theorem State.pwr_modCp (f : Cp → Cp) : (s.modCp f).pwr = s.pwr := rfl
@[simp] theorem State.tap_modCp (f : Cp → Cp) : (s.modCp f).tap = s.tap := rfl
@[simp] theorem State.err_modCp (f : Cp → Cp) : (s.modCp f).err = s.err := rfl
@[simp] theorem State.cnt_modCp (f : Cp → Cp) : (s.modCp f).cnt = s.cnt := rfl
@[simp] theorem State.free_modCp (f : Cp → Cp) : (s.modCp f).free = s.free := rfl
@[simp] theorem State.draws_modCp (f : Cp → Cp) : (s.modCp f).draws = s.draws := rfl

@[simp] theorem State.pending_newNonce : (s.newNonce).pending = s.pending := rfl
@[simp] theorem State.now_newNonce : (s.newNonce).now = s.now := rfl
@[simp] theorem State.cores_newNonce : (s.newNonce).cores = s.cores := rfl
@[simp] theorem State.mem_newNonce : (s.newNonce).mem = s.mem := rfl
@[simp] theorem State.lost_newNonce : (s.newNonce).lost = s.lost := rfl
@[simp] theorem State.work_newNonce : (s.newNonce).work = s.work := rfl
@[simp] theorem State.workLost_newNonce : (s.newNonce).workLost = s.workLost := rfl
@[simp] theorem State.foreign_newNonce : (s.newNonce).foreign = s.foreign := rfl
@[simp] theorem State.dram_newNonce : (s.newNonce).dram = s.dram := rfl
@[simp] theorem State.mapFuse_newNonce : (s.newNonce).mapFuse = s.mapFuse := rfl
@[simp] theorem State.coreFuse_newNonce : (s.newNonce).coreFuse = s.coreFuse := rfl
@[simp] theorem State.flasks_newNonce : (s.newNonce).flasks = s.flasks := rfl
@[simp] theorem State.mould_newNonce : (s.newNonce).mould = s.mould := rfl
@[simp] theorem State.staged_newNonce : (s.newNonce).staged = s.staged := rfl
@[simp] theorem State.mouldStatus_newNonce : (s.newNonce).mouldStatus = s.mouldStatus := rfl
@[simp] theorem State.mouldCount_newNonce : (s.newNonce).mouldCount = s.mouldCount := rfl
@[simp] theorem State.digest_newNonce : (s.newNonce).digest = s.digest := rfl
@[simp] theorem State.farClass_newNonce : (s.newNonce).farClass = s.farClass := rfl
@[simp] theorem State.cp_newNonce : (s.newNonce).cp = s.cp := rfl
@[simp] theorem State.bg_newNonce : (s.newNonce).bg = s.bg := rfl
@[simp] theorem State.fab_newNonce : (s.newNonce).fab = s.fab := rfl
@[simp] theorem State.pwr_newNonce : (s.newNonce).pwr = s.pwr := rfl
@[simp] theorem State.tap_newNonce : (s.newNonce).tap = s.tap := rfl
@[simp] theorem State.err_newNonce : (s.newNonce).err = s.err := rfl
@[simp] theorem State.cnt_newNonce : (s.newNonce).cnt = s.cnt := rfl
@[simp] theorem State.free_newNonce : (s.newNonce).free = s.free := rfl

variable (k : Core)

@[simp] theorem Core.lme_modArch (f : Arch → Arch) : (k.modArch f).lme = k.lme := rfl
@[simp] theorem Core.te_modArch (f : Arch → Arch) : (k.modArch f).te = k.te := rfl
@[simp] theorem Core.ve_modArch (f : Arch → Arch) : (k.modArch f).ve = k.ve := rfl
@[simp] theorem Core.se_modArch (f : Arch → Arch) : (k.modArch f).se = k.se := rfl
@[simp] theorem Core.remoteTok_modArch (f : Arch → Arch) : (k.modArch f).remoteTok = k.remoteTok := rfl
@[simp] theorem Core.lastIssued_modArch (f : Arch → Arch) : (k.modArch f).lastIssued = k.lastIssued := rfl
@[simp] theorem Core.issueAt_modArch (f : Arch → Arch) : (k.modArch f).issueAt = k.issueAt := rfl
@[simp] theorem Core.loaded_modArch (f : Arch → Arch) : (k.modArch f).loaded = k.loaded := rfl
@[simp] theorem Core.hazchk_modArch (f : Arch → Arch) : (k.modArch f).hazchk = k.hazchk := rfl
@[simp] theorem Core.faultCode_modArch (f : Arch → Arch) : (k.modArch f).faultCode = k.faultCode := rfl
@[simp] theorem Core.faultUnit_modArch (f : Arch → Arch) : (k.modArch f).faultUnit = k.faultUnit := rfl
@[simp] theorem Core.faultThread_modArch (f : Arch → Arch) : (k.modArch f).faultThread = k.faultThread := rfl
@[simp] theorem Core.faultPc_modArch (f : Arch → Arch) : (k.modArch f).faultPc = k.faultPc := rfl
@[simp] theorem Core.faultWord_modArch (f : Arch → Arch) : (k.modArch f).faultWord = k.faultWord := rfl
@[simp] theorem Core.haltreq_modArch (f : Arch → Arch) : (k.modArch f).haltreq = k.haltreq := rfl
@[simp] theorem Core.pwr_modArch (f : Arch → Arch) : (k.modArch f).pwr = k.pwr := rfl
@[simp] theorem Core.spadCe_modArch (f : Arch → Arch) : (k.modArch f).spadCe = k.spadCe := rfl
@[simp] theorem Core.spadUe_modArch (f : Arch → Arch) : (k.modArch f).spadUe = k.spadUe := rfl
@[simp] theorem Core.satSe_modArch (f : Arch → Arch) : (k.modArch f).satSe = k.satSe := rfl
@[simp] theorem Core.satVe_modArch (f : Arch → Arch) : (k.modArch f).satVe = k.satVe := rfl
@[simp] theorem Core.serves_modArch (f : Arch → Arch) : (k.modArch f).serves = k.serves := rfl
@[simp] theorem Core.gated_modArch (f : Arch → Arch) : (k.modArch f).gated = k.gated := rfl

@[simp] theorem Core.lme_modRec (f : Rec → Rec) : (k.modRec f).lme = k.lme := rfl
@[simp] theorem Core.te_modRec (f : Rec → Rec) : (k.modRec f).te = k.te := rfl
@[simp] theorem Core.ve_modRec (f : Rec → Rec) : (k.modRec f).ve = k.ve := rfl
@[simp] theorem Core.se_modRec (f : Rec → Rec) : (k.modRec f).se = k.se := rfl
@[simp] theorem Core.remoteTok_modRec (f : Rec → Rec) : (k.modRec f).remoteTok = k.remoteTok := rfl
@[simp] theorem Core.lastIssued_modRec (f : Rec → Rec) : (k.modRec f).lastIssued = k.lastIssued := rfl
@[simp] theorem Core.issueAt_modRec (f : Rec → Rec) : (k.modRec f).issueAt = k.issueAt := rfl
@[simp] theorem Core.loaded_modRec (f : Rec → Rec) : (k.modRec f).loaded = k.loaded := rfl
@[simp] theorem Core.hazchk_modRec (f : Rec → Rec) : (k.modRec f).hazchk = k.hazchk := rfl
@[simp] theorem Core.faultCode_modRec (f : Rec → Rec) : (k.modRec f).faultCode = k.faultCode := rfl
@[simp] theorem Core.faultUnit_modRec (f : Rec → Rec) : (k.modRec f).faultUnit = k.faultUnit := rfl
@[simp] theorem Core.faultThread_modRec (f : Rec → Rec) : (k.modRec f).faultThread = k.faultThread := rfl
@[simp] theorem Core.faultPc_modRec (f : Rec → Rec) : (k.modRec f).faultPc = k.faultPc := rfl
@[simp] theorem Core.faultWord_modRec (f : Rec → Rec) : (k.modRec f).faultWord = k.faultWord := rfl
@[simp] theorem Core.haltreq_modRec (f : Rec → Rec) : (k.modRec f).haltreq = k.haltreq := rfl
@[simp] theorem Core.pwr_modRec (f : Rec → Rec) : (k.modRec f).pwr = k.pwr := rfl
@[simp] theorem Core.spadCe_modRec (f : Rec → Rec) : (k.modRec f).spadCe = k.spadCe := rfl
@[simp] theorem Core.spadUe_modRec (f : Rec → Rec) : (k.modRec f).spadUe = k.spadUe := rfl
@[simp] theorem Core.satSe_modRec (f : Rec → Rec) : (k.modRec f).satSe = k.satSe := rfl
@[simp] theorem Core.satVe_modRec (f : Rec → Rec) : (k.modRec f).satVe = k.satVe := rfl
@[simp] theorem Core.serves_modRec (f : Rec → Rec) : (k.modRec f).serves = k.serves := rfl
@[simp] theorem Core.gated_modRec (f : Rec → Rec) : (k.modRec f).gated = k.gated := rfl

@[simp] theorem Core.lme_setThread (t : Nat) (x : Thread) : (k.setThread t x).lme = k.lme := rfl
@[simp] theorem Core.te_setThread (t : Nat) (x : Thread) : (k.setThread t x).te = k.te := rfl
@[simp] theorem Core.ve_setThread (t : Nat) (x : Thread) : (k.setThread t x).ve = k.ve := rfl
@[simp] theorem Core.se_setThread (t : Nat) (x : Thread) : (k.setThread t x).se = k.se := rfl
@[simp] theorem Core.remoteTok_setThread (t : Nat) (x : Thread) : (k.setThread t x).remoteTok = k.remoteTok := rfl
@[simp] theorem Core.lastIssued_setThread (t : Nat) (x : Thread) : (k.setThread t x).lastIssued = k.lastIssued := rfl
@[simp] theorem Core.issueAt_setThread (t : Nat) (x : Thread) : (k.setThread t x).issueAt = k.issueAt := rfl
@[simp] theorem Core.loaded_setThread (t : Nat) (x : Thread) : (k.setThread t x).loaded = k.loaded := rfl
@[simp] theorem Core.hazchk_setThread (t : Nat) (x : Thread) : (k.setThread t x).hazchk = k.hazchk := rfl
@[simp] theorem Core.faultCode_setThread (t : Nat) (x : Thread) : (k.setThread t x).faultCode = k.faultCode := rfl
@[simp] theorem Core.faultUnit_setThread (t : Nat) (x : Thread) : (k.setThread t x).faultUnit = k.faultUnit := rfl
@[simp] theorem Core.faultThread_setThread (t : Nat) (x : Thread) : (k.setThread t x).faultThread = k.faultThread := rfl
@[simp] theorem Core.faultPc_setThread (t : Nat) (x : Thread) : (k.setThread t x).faultPc = k.faultPc := rfl
@[simp] theorem Core.faultWord_setThread (t : Nat) (x : Thread) : (k.setThread t x).faultWord = k.faultWord := rfl
@[simp] theorem Core.haltreq_setThread (t : Nat) (x : Thread) : (k.setThread t x).haltreq = k.haltreq := rfl
@[simp] theorem Core.pwr_setThread (t : Nat) (x : Thread) : (k.setThread t x).pwr = k.pwr := rfl
@[simp] theorem Core.spadCe_setThread (t : Nat) (x : Thread) : (k.setThread t x).spadCe = k.spadCe := rfl
@[simp] theorem Core.spadUe_setThread (t : Nat) (x : Thread) : (k.setThread t x).spadUe = k.spadUe := rfl
@[simp] theorem Core.satSe_setThread (t : Nat) (x : Thread) : (k.setThread t x).satSe = k.satSe := rfl
@[simp] theorem Core.satVe_setThread (t : Nat) (x : Thread) : (k.setThread t x).satVe = k.satVe := rfl
@[simp] theorem Core.serves_setThread (t : Nat) (x : Thread) : (k.setThread t x).serves = k.serves := rfl
@[simp] theorem Core.gated_setThread (t : Nat) (x : Thread) : (k.setThread t x).gated = k.gated := rfl

@[simp] theorem Core.lme_modTokq (q : Nat) (f : TokQ → TokQ) : (k.modTokq q f).lme = k.lme := rfl
@[simp] theorem Core.te_modTokq (q : Nat) (f : TokQ → TokQ) : (k.modTokq q f).te = k.te := rfl
@[simp] theorem Core.ve_modTokq (q : Nat) (f : TokQ → TokQ) : (k.modTokq q f).ve = k.ve := rfl
@[simp] theorem Core.se_modTokq (q : Nat) (f : TokQ → TokQ) : (k.modTokq q f).se = k.se := rfl
@[simp] theorem Core.remoteTok_modTokq (q : Nat) (f : TokQ → TokQ) : (k.modTokq q f).remoteTok = k.remoteTok := rfl
@[simp] theorem Core.lastIssued_modTokq (q : Nat) (f : TokQ → TokQ) : (k.modTokq q f).lastIssued = k.lastIssued := rfl
@[simp] theorem Core.issueAt_modTokq (q : Nat) (f : TokQ → TokQ) : (k.modTokq q f).issueAt = k.issueAt := rfl
@[simp] theorem Core.loaded_modTokq (q : Nat) (f : TokQ → TokQ) : (k.modTokq q f).loaded = k.loaded := rfl
@[simp] theorem Core.hazchk_modTokq (q : Nat) (f : TokQ → TokQ) : (k.modTokq q f).hazchk = k.hazchk := rfl
@[simp] theorem Core.faultCode_modTokq (q : Nat) (f : TokQ → TokQ) : (k.modTokq q f).faultCode = k.faultCode := rfl
@[simp] theorem Core.faultUnit_modTokq (q : Nat) (f : TokQ → TokQ) : (k.modTokq q f).faultUnit = k.faultUnit := rfl
@[simp] theorem Core.faultThread_modTokq (q : Nat) (f : TokQ → TokQ) : (k.modTokq q f).faultThread = k.faultThread := rfl
@[simp] theorem Core.faultPc_modTokq (q : Nat) (f : TokQ → TokQ) : (k.modTokq q f).faultPc = k.faultPc := rfl
@[simp] theorem Core.faultWord_modTokq (q : Nat) (f : TokQ → TokQ) : (k.modTokq q f).faultWord = k.faultWord := rfl
@[simp] theorem Core.haltreq_modTokq (q : Nat) (f : TokQ → TokQ) : (k.modTokq q f).haltreq = k.haltreq := rfl
@[simp] theorem Core.pwr_modTokq (q : Nat) (f : TokQ → TokQ) : (k.modTokq q f).pwr = k.pwr := rfl
@[simp] theorem Core.spadCe_modTokq (q : Nat) (f : TokQ → TokQ) : (k.modTokq q f).spadCe = k.spadCe := rfl
@[simp] theorem Core.spadUe_modTokq (q : Nat) (f : TokQ → TokQ) : (k.modTokq q f).spadUe = k.spadUe := rfl
@[simp] theorem Core.satSe_modTokq (q : Nat) (f : TokQ → TokQ) : (k.modTokq q f).satSe = k.satSe := rfl
@[simp] theorem Core.satVe_modTokq (q : Nat) (f : TokQ → TokQ) : (k.modTokq q f).satVe = k.satVe := rfl
@[simp] theorem Core.serves_modTokq (q : Nat) (f : TokQ → TokQ) : (k.modTokq q f).serves = k.serves := rfl
@[simp] theorem Core.gated_modTokq (q : Nat) (f : TokQ → TokQ) : (k.modTokq q f).gated = k.gated := rfl

@[simp] theorem Core.lme_modSem (p : Nat) (f : Sem → Sem) : (k.modSem p f).lme = k.lme := rfl
@[simp] theorem Core.te_modSem (p : Nat) (f : Sem → Sem) : (k.modSem p f).te = k.te := rfl
@[simp] theorem Core.ve_modSem (p : Nat) (f : Sem → Sem) : (k.modSem p f).ve = k.ve := rfl
@[simp] theorem Core.se_modSem (p : Nat) (f : Sem → Sem) : (k.modSem p f).se = k.se := rfl
@[simp] theorem Core.remoteTok_modSem (p : Nat) (f : Sem → Sem) : (k.modSem p f).remoteTok = k.remoteTok := rfl
@[simp] theorem Core.lastIssued_modSem (p : Nat) (f : Sem → Sem) : (k.modSem p f).lastIssued = k.lastIssued := rfl
@[simp] theorem Core.issueAt_modSem (p : Nat) (f : Sem → Sem) : (k.modSem p f).issueAt = k.issueAt := rfl
@[simp] theorem Core.loaded_modSem (p : Nat) (f : Sem → Sem) : (k.modSem p f).loaded = k.loaded := rfl
@[simp] theorem Core.hazchk_modSem (p : Nat) (f : Sem → Sem) : (k.modSem p f).hazchk = k.hazchk := rfl
@[simp] theorem Core.faultCode_modSem (p : Nat) (f : Sem → Sem) : (k.modSem p f).faultCode = k.faultCode := rfl
@[simp] theorem Core.faultUnit_modSem (p : Nat) (f : Sem → Sem) : (k.modSem p f).faultUnit = k.faultUnit := rfl
@[simp] theorem Core.faultThread_modSem (p : Nat) (f : Sem → Sem) : (k.modSem p f).faultThread = k.faultThread := rfl
@[simp] theorem Core.faultPc_modSem (p : Nat) (f : Sem → Sem) : (k.modSem p f).faultPc = k.faultPc := rfl
@[simp] theorem Core.faultWord_modSem (p : Nat) (f : Sem → Sem) : (k.modSem p f).faultWord = k.faultWord := rfl
@[simp] theorem Core.haltreq_modSem (p : Nat) (f : Sem → Sem) : (k.modSem p f).haltreq = k.haltreq := rfl
@[simp] theorem Core.pwr_modSem (p : Nat) (f : Sem → Sem) : (k.modSem p f).pwr = k.pwr := rfl
@[simp] theorem Core.spadCe_modSem (p : Nat) (f : Sem → Sem) : (k.modSem p f).spadCe = k.spadCe := rfl
@[simp] theorem Core.spadUe_modSem (p : Nat) (f : Sem → Sem) : (k.modSem p f).spadUe = k.spadUe := rfl
@[simp] theorem Core.satSe_modSem (p : Nat) (f : Sem → Sem) : (k.modSem p f).satSe = k.satSe := rfl
@[simp] theorem Core.satVe_modSem (p : Nat) (f : Sem → Sem) : (k.modSem p f).satVe = k.satVe := rfl
@[simp] theorem Core.serves_modSem (p : Nat) (f : Sem → Sem) : (k.modSem p f).serves = k.serves := rfl
@[simp] theorem Core.gated_modSem (p : Nat) (f : Sem → Sem) : (k.modSem p f).gated = k.gated := rfl

@[simp] theorem Core.lme_takeTokens (q n : Nat) : (k.takeTokens q n).lme = k.lme := rfl
@[simp] theorem Core.te_takeTokens (q n : Nat) : (k.takeTokens q n).te = k.te := rfl
@[simp] theorem Core.ve_takeTokens (q n : Nat) : (k.takeTokens q n).ve = k.ve := rfl
@[simp] theorem Core.se_takeTokens (q n : Nat) : (k.takeTokens q n).se = k.se := rfl
@[simp] theorem Core.remoteTok_takeTokens (q n : Nat) : (k.takeTokens q n).remoteTok = k.remoteTok := rfl
@[simp] theorem Core.lastIssued_takeTokens (q n : Nat) : (k.takeTokens q n).lastIssued = k.lastIssued := rfl
@[simp] theorem Core.issueAt_takeTokens (q n : Nat) : (k.takeTokens q n).issueAt = k.issueAt := rfl
@[simp] theorem Core.loaded_takeTokens (q n : Nat) : (k.takeTokens q n).loaded = k.loaded := rfl
@[simp] theorem Core.hazchk_takeTokens (q n : Nat) : (k.takeTokens q n).hazchk = k.hazchk := rfl
@[simp] theorem Core.faultCode_takeTokens (q n : Nat) : (k.takeTokens q n).faultCode = k.faultCode := rfl
@[simp] theorem Core.faultUnit_takeTokens (q n : Nat) : (k.takeTokens q n).faultUnit = k.faultUnit := rfl
@[simp] theorem Core.faultThread_takeTokens (q n : Nat) : (k.takeTokens q n).faultThread = k.faultThread := rfl
@[simp] theorem Core.faultPc_takeTokens (q n : Nat) : (k.takeTokens q n).faultPc = k.faultPc := rfl
@[simp] theorem Core.faultWord_takeTokens (q n : Nat) : (k.takeTokens q n).faultWord = k.faultWord := rfl
@[simp] theorem Core.haltreq_takeTokens (q n : Nat) : (k.takeTokens q n).haltreq = k.haltreq := rfl
@[simp] theorem Core.pwr_takeTokens (q n : Nat) : (k.takeTokens q n).pwr = k.pwr := rfl
@[simp] theorem Core.spadCe_takeTokens (q n : Nat) : (k.takeTokens q n).spadCe = k.spadCe := rfl
@[simp] theorem Core.spadUe_takeTokens (q n : Nat) : (k.takeTokens q n).spadUe = k.spadUe := rfl
@[simp] theorem Core.satSe_takeTokens (q n : Nat) : (k.takeTokens q n).satSe = k.satSe := rfl
@[simp] theorem Core.satVe_takeTokens (q n : Nat) : (k.takeTokens q n).satVe = k.satVe := rfl
@[simp] theorem Core.serves_takeTokens (q n : Nat) : (k.takeTokens q n).serves = k.serves := rfl
@[simp] theorem Core.gated_takeTokens (q n : Nat) : (k.takeTokens q n).gated = k.gated := rfl

end Sys2Proof.Machine
end

