-- ==== Sys2Proof/Laws/Ops.lean ====
section
/-! SUPPORT. One lemma for what each shared operation can do: reads after writes, what counting changes, what the issue of
an instruction does. -/

namespace Sys2Proof.Machine

/-! ### Cores, threads and flasks -/

theorem State.core_setCore (s : State) (c d : Nat) (k : Core) : (s.setCore c k).core d = if d = c then k else s.core d :=
  Sparse.get_set _ _ _ _ _

@[simp] theorem State.core_setCore_self (s : State) (c : Nat) (k : Core) : (s.setCore c k).core c = k := by
  simp [State.core_setCore]

@[simp] theorem State.core_modCore_self (s : State) (c : Nat) (f : Core → Core) : (s.modCore c f).core c = f (s.core c) := by
  simp [State.modCore]

theorem State.core_modCore_ne (s : State) {c d : Nat} (f : Core → Core) (h : d ≠ c) : (s.modCore c f).core d = s.core d := by
  simp [State.modCore, State.core_setCore, h]

@[simp] theorem Core.thread_setThread_self (k : Core) (t : Nat) (x : Thread) : (k.setThread t x).thread t = x := by
  simp [Core.setThread, Core.thread, Core.modRec]

theorem Core.thread_setThread_ne (k : Core) {t u : Nat} (x : Thread) (h : u ≠ t) : (k.setThread t x).thread u = k.thread u := by
  simp [Core.setThread, Core.thread, Core.modRec, Sparse.get_set_ne _ _ _ h]

@[simp] theorem State.thread_setThread_self (s : State) (c t : Nat) (x : Thread) : (s.setThread c t x).thread c t = x := by
  simp [State.setThread, State.thread]

theorem State.thread_setThread_ne (s : State) {c t u : Nat} (x : Thread) (h : u ≠ t) :
    (s.setThread c t x).thread c u = s.thread c u := by
  simp [State.setThread, State.thread, Core.thread_setThread_ne _ _ h]

@[simp] theorem State.thread_modThread_self (s : State) (c t : Nat) (f : Thread → Thread) :
    (s.modThread c t f).thread c t = f (s.thread c t) := by
  simp [State.modThread]

theorem State.flask_setFlask (s : State) (f g : Nat) (x : Flask) : (s.setFlask f x).flask g = if g = f then x else s.flask g :=
  Sparse.get_set _ _ _ _ _

@[simp] theorem State.flask_setFlask_self (s : State) (f : Nat) (x : Flask) : (s.setFlask f x).flask f = x := by
  simp [State.flask_setFlask]

@[simp] theorem State.flask_modFlask_self (s : State) (f : Nat) (g : Flask → Flask) : (s.modFlask f g).flask f = g (s.flask f) := by
  simp [State.modFlask]

theorem State.flask_modFlask_ne (s : State) {f g : Nat} (h : Flask → Flask) (hne : g ≠ f) :
    (s.modFlask f h).flask g = s.flask g := by
  simp [State.modFlask, State.flask_setFlask, hne]

@[simp] theorem Core.thread_modRec (k : Core) (f : Rec → Rec) (t : Nat) (h : ∀ r, (f r).threads = r.threads) :
    (k.modRec f).thread t = k.thread t := by
  simp [Core.modRec, Core.thread, h]

/-- A state without a changed field reads the same cores. -/
theorem State.core_congr {s t : State} (h : t.cores = s.cores) (c : Nat) : t.core c = s.core c := by
  simp [State.core, h]

theorem State.thread_congr {s t : State} (h : t.cores = s.cores) (c n : Nat) : t.thread c n = s.thread c n := by
  simp [State.thread, State.core_congr h]

theorem State.flask_congr {s t : State} (h : t.flasks = s.flasks) (f : Nat) : t.flask f = s.flask f := by
  simp [State.flask, h]

/-! ### Counting -/

/-- Counting changes the values and controls of general counters only. -/
def State.counted (s t : State) : Prop := ∃ ctl val, t = { s with cnt := { s.cnt with ctl := ctl, val := val } }

theorem State.counted_refl (s : State) : s.counted s := ⟨s.cnt.ctl, s.cnt.val, rfl⟩

theorem State.counted_trans {s t u : State} (h : s.counted t) (g : t.counted u) : s.counted u := by
  obtain ⟨a, b, rfl⟩ := h
  obtain ⟨c, d, rfl⟩ := g
  exact ⟨c, d, rfl⟩

theorem State.bump_counted (s : State) (n d : Nat) : s.counted (s.bump n d) := ⟨_, _, rfl⟩

theorem State.counted_foldl {α : Type} (l : List α) (g : State → α → State) (h : ∀ (s : State) (a : α), s.counted (g s a)) (s : State) :
    s.counted (l.foldl g s) := by
  induction l generalizing s with
  | nil => exact s.counted_refl
  | cons a r ih => exact State.counted_trans (h s a) (ih _)

theorem State.countIn_counted (s : State) (lo cnt ev unit mode d : Nat) : s.counted (s.countIn lo cnt ev unit mode d) := by
  unfold State.countIn
  split
  · exact s.counted_refl
  · refine State.counted_foldl _ _ (fun s i => ?_) s
    dsimp only
    split
    · exact s.bump_counted _ _
    · exact s.counted_refl

theorem State.coreEvent_counted (s : State) (c ev : Nat) : s.counted (s.coreEvent c ev) := by
  unfold State.coreEvent
  split
  · exact s.counted_refl
  · refine State.counted_foldl _ _ (fun s i => ?_) s
    dsimp only
    split
    · exact s.bump_counted _ _
    · split
      · exact s.bump_counted _ _
      · exact s.counted_refl

theorem State.hubEvent_counted (s : State) (ev unit : Nat) : s.counted (s.hubEvent ev unit) := by
  unfold State.hubEvent
  dsimp only
  split
  · exact s.countIn_counted _ _ _ _ _ _
  · exact State.counted_trans (s.countIn_counted _ _ _ _ _ _) (State.countIn_counted _ _ _ _ _ _ _)

theorem State.dieEvent_counted (s : State) (d ev unit : Nat) : s.counted (s.dieEvent d ev unit) :=
  State.counted_trans (s.countIn_counted _ _ _ _ _ _) (State.countIn_counted _ _ _ _ _ _ _)

/-! ### Frames -/

theorem State.onlyThread_refl (s : State) (c n : Nat) : s.onlyThread s c n :=
  ⟨⟨rfl, fun _ _ => rfl, fun _ => rfl, fun _ _ => rfl⟩, rfl, fun _ _ => rfl⟩

theorem State.onlyCore_trans {s t u : State} {c : Nat} (h : s.onlyCore t c) (g : t.onlyCore u c) : s.onlyCore u c :=
  ⟨g.1.trans h.1, fun d hd => (g.2.1 d hd).trans (h.2.1 d hd), fun f => (g.2.2.1 f).trans (h.2.2.1 f),
    fun v k => (g.2.2.2 v k).trans (h.2.2.2 v k)⟩

theorem State.onlyThread_trans {s t u : State} {c n : Nat} (h : s.onlyThread t c n) (g : t.onlyThread u c n) :
    s.onlyThread u c n :=
  ⟨State.onlyCore_trans h.1 g.1, g.2.1.trans h.2.1, fun m hm => (g.2.2 m hm).trans (h.2.2 m hm)⟩

/-- Memory reads alike in states that agree on memory and mould. -/
theorem State.sameBytes_of {s t : State} (hm : t.mem = s.mem) (hw : t.work = s.work) (hd : t.mould = s.mould) : s.sameBytes t := by
  intro v key
  have : t.seesWork v key = s.seesWork v key := by
    simp [State.seesWork, State.vbOwner, State.regionAt, hd]
  simp [State.readByte, this, hm, hw]

theorem State.counted_onlyThread {s t : State} (h : s.counted t) (c n : Nat) : s.onlyThread t c n := by
  obtain ⟨a, b, rfl⟩ := h
  exact ⟨⟨rfl, fun _ _ => rfl, fun _ => rfl, State.sameBytes_of rfl rfl rfl⟩, rfl, fun _ _ => rfl⟩

theorem State.modCore_onlyCore (s : State) (c : Nat) (f : Core → Core) : s.onlyCore (s.modCore c f) c :=
  ⟨rfl, fun _ hd => s.core_modCore_ne f hd, fun _ => rfl, State.sameBytes_of rfl rfl rfl⟩

theorem Core.sansThreads_setThread (k : Core) (n : Nat) (x : Thread) : (k.setThread n x).sansThreads = k.sansThreads := rfl

theorem State.setThread_onlyThread (s : State) (c n : Nat) (x : Thread) : s.onlyThread (s.setThread c n x) c n :=
  ⟨s.modCore_onlyCore c _, by simp [State.setThread, Core.sansThreads_setThread], fun _ hu => s.thread_setThread_ne x hu⟩

theorem State.modThread_onlyThread (s : State) (c n : Nat) (f : Thread → Thread) : s.onlyThread (s.modThread c n f) c n :=
  s.setThread_onlyThread c n _

/-- A core with another record of who issued last and when keeps its threads. -/
@[simp] theorem State.thread_useCycle (s : State) (o : Op) (n : Nat) : (s.useCycle o).thread o.core n = s.thread o.core n := by
  simp [State.thread, State.useCycle, Core.thread]

theorem State.useCycle_onlyThread (s : State) (o : Op) (n : Nat) : s.onlyThread (s.useCycle o) o.core n :=
  ⟨s.modCore_onlyCore _ _, by simp [State.useCycle, Core.sansThreads, Core.modRec], fun u _ => s.thread_useCycle o u⟩

theorem State.progress_onlyThread (s : State) (c d n : Nat) : s.onlyThread (s.progress d) c n := by
  unfold State.progress
  split
  · rename_i f l h
    refine ⟨⟨rfl, fun _ _ => rfl, fun g => ?_, State.sameBytes_of rfl rfl rfl⟩, rfl, fun _ _ => rfl⟩
    by_cases hg : g = f
    · subst hg; simp
    · rw [s.flask_modFlask_ne _ hg]
  · exact s.onlyThread_refl c n

@[simp] theorem State.thread_counted {s t : State} (h : s.counted t) (c n : Nat) : t.thread c n = s.thread c n := by
  obtain ⟨a, b, rfl⟩ := h
  rfl

@[simp] theorem State.cores_progress (s : State) (d : Nat) : (s.progress d).cores = s.cores := by
  unfold State.progress
  split <;> rfl

/-! ### Issue -/

/-- What counting an issued instruction changes, and what it does not. -/
theorem State.issued_onlyThread (s : State) (o : Op) : s.onlyThread (s.issued o) o.core o.thread := by
  unfold State.issued
  exact State.onlyThread_trans
    (State.onlyThread_trans (s.useCycle_onlyThread o _) (State.counted_onlyThread (State.coreEvent_counted _ _ _) _ _))
    (State.progress_onlyThread _ _ _ _)

@[simp] theorem State.issued_thread (s : State) (o : Op) (n : Nat) : (s.issued o).thread o.core n = s.thread o.core n := by
  unfold State.issued
  rw [State.thread_congr (State.cores_progress _ _), State.thread_counted (State.coreEvent_counted _ _ _), State.thread_useCycle]

/-- The PC check of a core rests on the mould and on what the core serves. -/
theorem State.pcOk_congr {s t : State} (c : Nat) (pc : BitVec 32) (hm : t.mould = s.mould)
    (hs : (t.core c).serves = (s.core c).serves) : t.pcOk c pc = s.pcOk c pc := by
  simp [State.pcOk, State.codeBytes, State.flaskOf, State.serving, State.flaskDef, hm, hs]

theorem State.onlyThread_pcOk {s t : State} {c n : Nat} (h : s.onlyThread t c n) (pc : BitVec 32) : t.pcOk c pc = s.pcOk c pc := by
  refine State.pcOk_congr c pc ?_ ?_
  · have := congrArg State.mould h.1.1
    exact this
  · have := congrArg Core.serves h.2.1
    exact this

/-- A jump to a PC of the code partition only sets the PC. -/
theorem State.goto_ok (s : State) (c n : Nat) (pc : BitVec 32) (h : s.pcOk c pc = true) :
    s.goto c n pc = s.modThread c n (fun x => { x with pc := pc }) := by
  simp [State.goto, h]

/-- An instruction that issues acts on the state in which its issue is counted. -/
theorem State.issue_of_issues (s : State) (o : Op) (act : State → State) (h : s.issues o) : s.issue o act = act (s.issued o) := by
  obtain ⟨h1, h2, h3, h4, h5, h6, h7⟩ := h
  unfold State.issue
  rw [h7]
  simp only [h1, Bool.not_true, Bool.false_eq_true, if_false]
  unfold State.issueFetched
  by_cases hx : o.xt = true
  · simp only [h3, h4, h5, h6, Bool.not_true, Bool.false_eq_true, if_false]
    rw [if_neg]
    simpa [hx] using h2 hx
  · simp [hx, h3, h4, h5, h6]

/-- Setting a thread and going on with the next instruction. -/
theorem State.advance_thread (s t : State) (o : Op) (f : Thread → Thread) (h : s.onlyThread t o.core o.thread)
    (hx : ∀ x, (f x).pc = x.pc) (hn : s.nextOk o) (ht : t.thread o.core o.thread = s.thread o.core o.thread) :
    let u := (t.modThread o.core o.thread f).advance o
    u.thread o.core o.thread = (f (s.thread o.core o.thread)).past o ∧ s.onlyThread u o.core o.thread := by
  have h1 : s.onlyThread (t.modThread o.core o.thread f) o.core o.thread := State.onlyThread_trans h (State.modThread_onlyThread _ _ _ _)
  have h2 : s.onlyThread ((t.modThread o.core o.thread f).modThread o.core o.thread (fun x => { x with run := .run, held := none }))
      o.core o.thread := State.onlyThread_trans h1 (State.modThread_onlyThread _ _ _ _)
  have hpc : ((t.modThread o.core o.thread f).thread o.core o.thread).pc = (s.thread o.core o.thread).pc := by
    simp [ht, hx]
  have hok := (State.onlyThread_pcOk h2 ((s.thread o.core o.thread).pc + BitVec.ofNat 32 o.size)).trans hn
  have he : (t.modThread o.core o.thread f).advance o =
      ((t.modThread o.core o.thread f).modThread o.core o.thread (fun x => { x with run := .run, held := none })).modThread
        o.core o.thread (fun x => { x with pc := (s.thread o.core o.thread).pc + BitVec.ofNat 32 o.size }) := by
    unfold State.advance
    rw [hpc]
    exact State.goto_ok _ _ _ _ hok
  refine ⟨?_, ?_⟩
  · rw [he]
    simp [ht, Thread.past, hx]
  · rw [he]
    exact State.onlyThread_trans h2 (State.modThread_onlyThread _ _ _ _)

/-! ### Faults -/

/-- Changing a list of cores changes nothing but cores. -/
theorem State.foldl_modCore_eq (l : List Nat) (g : Core → Core) (s : State) :
    ∃ cs, l.foldl (fun s c => s.modCore c g) s = { s with cores := cs } := by
  induction l generalizing s with
  | nil => exact ⟨s.cores, rfl⟩
  | cons a r ih =>
    obtain ⟨cs, h⟩ := ih (s.modCore a g)
    exact ⟨cs, h⟩

/-- A core is changed once for each time the list names it. -/
theorem State.core_foldl_modCore (l : List Nat) (g : Core → Core) (s : State) (d : Nat) :
    (l.foldl (fun s c => s.modCore c g) s).core d = g^[l.count d] (s.core d) := by
  induction l generalizing s with
  | nil => rfl
  | cons a r ih =>
    rw [List.foldl_cons, ih]
    by_cases h : a = d
    · subst h
      rw [State.core_modCore_self, List.count_cons_self, Function.iterate_succ_apply]
    · rw [State.core_modCore_ne _ _ (Ne.symm h), List.count_cons_of_ne h]

/-- A property that each change keeps holds of a changed core. -/
theorem State.core_foldl_modCore_inv {p : Core → Prop} (l : List Nat) (g : Core → Core) (s : State) (d : Nat)
    (h : p (s.core d)) (hg : ∀ k, p k → p (g k)) : p ((l.foldl (fun s c => s.modCore c g) s).core d) := by
  rw [State.core_foldl_modCore]
  generalize l.count d = n
  induction n with
  | zero => exact h
  | succ n ih => rw [Function.iterate_succ_apply']; exact hg _ ih

@[simp] theorem Core.thread_dropQueues (k : Core) (t : Nat) : k.dropQueues.thread t = k.thread t := rfl

/-- Discarding the queues leaves what has started. -/
theorem Core.outstanding_dropQueues (k : Core) : k.dropQueues.outstanding =
    k.lme.flights.map (·.ent) ++ k.te.flights.map (·.ent) ++ k.ve.flights.map (·.ent) ++ k.se.active.map (·.ent) := by
  simp [Core.outstanding, Core.outstandingIn, Core.engine, Core.dropQueues]

/-- The fault of a running pour: the core records it when it is its first, the pour records it and stops (R270, R271). -/
theorem State.pourFault_running (s : State) {c f l : Nat} (unit thread : Nat) (pc : BitVec 32) (word : Word) (code : BitVec 8)
    (hs : s.serving c = some (f, l)) (hr : (s.flask f).stage = .running) :
    s.pourFault c unit thread pc word code =
      ((s.modCore c (fun k => if k.faultCode = 0 then
          { k with faultCode := code, faultUnit := BitVec.ofNat 4 unit, faultThread := BitVec.ofNat 4 thread, faultPc := pc, faultWord := word }
        else k)).modFlask f (fun x =>
          { x with fault := some ⟨code, l, BitVec.ofNat 8 unit, BitVec.ofNat 8 thread, pc, word, some s.now⟩ })).stopFlask f .fault := by
  have h2 : ∀ g : Core → Core, ((s.modCore c g).flask f).stage = .running := fun _ => hr
  simp only [State.pourFault, hs, h2]

/-- Stopping a flask changes its stage and its cores' queues, and nothing else. -/
theorem State.flasks_stopFlask (s : State) (f : Nat) (why : StopWhy) :
    (s.stopFlask f why).flasks = (s.modFlask f (fun x => { x with stage := .stopping why })).flasks := by
  obtain ⟨cs, h⟩ := State.foldl_modCore_eq (s.hosts f) Core.dropQueues (s.modFlask f (fun x => { x with stage := .stopping why }))
  unfold State.stopFlask
  rw [h]

@[simp] theorem State.rest_stopFlask (s : State) (f : Nat) (why : StopWhy) : (s.stopFlask f why).rest = s.rest := by
  obtain ⟨cs, h⟩ := State.foldl_modCore_eq (s.hosts f) Core.dropQueues (s.modFlask f (fun x => { x with stage := .stopping why }))
  unfold State.stopFlask
  rw [h]
  rfl

theorem State.core_stopFlask (s : State) (f : Nat) (why : StopWhy) (d : Nat) :
    (s.stopFlask f why).core d = Core.dropQueues^[(s.hosts f).count d] (s.core d) := by
  unfold State.stopFlask
  rw [State.core_foldl_modCore]
  rfl

@[simp] theorem State.flask_stopFlask_self (s : State) (f : Nat) (why : StopWhy) :
    (s.stopFlask f why).flask f = { s.flask f with stage := .stopping why } := by
  rw [State.flask_congr (s.flasks_stopFlask f why), State.flask_modFlask_self]

theorem State.flask_stopFlask_ne (s : State) {f g : Nat} (why : StopWhy) (h : g ≠ f) :
    (s.stopFlask f why).flask g = s.flask g := by
  rw [State.flask_congr (s.flasks_stopFlask f why), State.flask_modFlask_ne _ _ h]

/-- States that agree outside cores, flasks and counter values read alike. -/
theorem State.sameBytes_of_rest {s t : State} (h : t.rest = s.rest) : s.sameBytes t :=
  State.sameBytes_of (congrArg State.mem h :) (congrArg State.work h :) (congrArg State.mould h :)

/-- What a fault of a running pour leaves (R270, R271): the pour stopped with the fault recorded, the queues of its cores
discarded, the core's own first fault recorded, and nothing else changed. -/
theorem State.pourFault_facts (s : State) {c f l : Nat} (unit thread : Nat) (pc : BitVec 32) (word : Word) (code : BitVec 8)
    (hs : s.serving c = some (f, l)) (hr : (s.flask f).stage = .running) :
    let t := s.pourFault c unit thread pc word code
    (t.flask f).stage = .stopping .fault ∧
    (t.flask f).fault = some ⟨code, l, BitVec.ofNat 8 unit, BitVec.ofNat 8 thread, pc, word, some s.now⟩ ∧
    (∀ d n, t.thread d n = s.thread d n) ∧
    (∀ d ∈ s.hosts f, ∃ k, t.core d = Core.dropQueues k ∧ k.lme.flights = (s.core d).lme.flights ∧ k.te.flights = (s.core d).te.flights ∧ k.ve.flights = (s.core d).ve.flights ∧ k.se.active = (s.core d).se.active) ∧
    t.rest = s.rest ∧ s.sameBytes t ∧
    ((s.core c).faultCode = 0 → (t.core c).faultCode = code ∧ (t.core c).faultUnit = BitVec.ofNat 4 unit ∧
        (t.core c).faultThread = BitVec.ofNat 4 thread ∧ (t.core c).faultPc = pc ∧ (t.core c).faultWord = word) := by
  intro t
  have ht : t = _ := State.pourFault_running s unit thread pc word code hs hr
  generalize hg : (fun k : Core => if k.faultCode = 0 then
          { k with faultCode := code, faultUnit := BitVec.ofNat 4 unit, faultThread := BitVec.ofNat 4 thread, faultPc := pc, faultWord := word }
        else k) = g at ht
  have gth : ∀ k n, (g k).thread n = k.thread n := by intro k n; subst hg; dsimp only; split <;> rfl
  have gfl : ∀ k : Core, (g k).lme.flights = k.lme.flights ∧ (g k).te.flights = k.te.flights ∧ (g k).ve.flights = k.ve.flights ∧ (g k).se.active = k.se.active := by
    intro k; subst hg; dsimp only; split <;> simp
  have hcore : ∀ d, t.core d = Core.dropQueues^[(s.hosts f).count d] ((s.modCore c g).core d) := by
    intro d
    rw [ht, State.core_stopFlask]
    show Core.dropQueues^[List.count d (Flask.map (State.flask _ f))] _ = _
    rw [State.flask_modFlask_self]
    rfl
  refine ⟨?_, ?_, ?_, ?_, ?_, ?_, ?_⟩
  · rw [ht]; simp
  · rw [ht]; simp
  · intro d n
    have h1 : (s.modCore c g).thread d n = s.thread d n := by
      by_cases hd : d = c
      · subst hd; simp [State.thread, gth]
      · simp [State.thread, State.core_modCore_ne _ _ hd]
    rw [← h1, State.thread, hcore]
    generalize (s.hosts f).count d = m
    induction m with
    | zero => rfl
    | succ m ih => rw [Function.iterate_succ_apply', Core.thread_dropQueues]; exact ih
  · intro d hd
    obtain ⟨m, hm⟩ : ∃ m, (s.hosts f).count d = m + 1 := ⟨_, (Nat.succ_pred_eq_of_pos (List.count_pos_iff.2 hd)).symm⟩
    rw [hcore, hm]
    refine ⟨Core.dropQueues^[m] ((s.modCore c g).core d), Function.iterate_succ_apply' _ _ _, ?_⟩
    have base : ((s.modCore c g).core d).lme.flights = (s.core d).lme.flights ∧ ((s.modCore c g).core d).te.flights = (s.core d).te.flights ∧ ((s.modCore c g).core d).ve.flights = (s.core d).ve.flights ∧ ((s.modCore c g).core d).se.active = (s.core d).se.active := by
      by_cases hd : d = c
      · subst hd; rw [State.core_modCore_self]; exact gfl _
      · rw [State.core_modCore_ne _ _ hd]; simp
    clear hm
    induction m with
    | zero => exact base
    | succ m ih => rw [Function.iterate_succ_apply']; exact ih
  · rw [ht, State.rest_stopFlask]; rfl
  · apply State.sameBytes_of_rest; rw [ht, State.rest_stopFlask]; rfl
  · intro h0
    rw [hcore, State.core_modCore_self]
    have base : (g (s.core c)).faultCode = code ∧ (g (s.core c)).faultUnit = BitVec.ofNat 4 unit ∧
        (g (s.core c)).faultThread = BitVec.ofNat 4 thread ∧ (g (s.core c)).faultPc = pc ∧ (g (s.core c)).faultWord = word := by
      subst hg; simp [h0]
    generalize (s.hosts f).count c = m
    induction m with
    | zero => exact base
    | succ m ih => rw [Function.iterate_succ_apply']; exact ih

end Sys2Proof.Machine
end

