-- ==== Sys2Proof/WellFormed.lean ====
section
/-! DEFINITION. Which commands are well formed: the lengths and ranges that the tables give the operands which the types do
not already bound. The meanings are total all the same: an ill-formed command has an effect too (a frame whose payload is
too long is discarded). -/

namespace Sys2Proof

/-- Channels of DRAM stack `n` (Table 12-3): 0 to 15 near, 16 to 27 mid, 28 to 31 far. -/
def channelsOf (n : Nat) : Nat := if n < 16 then 256 else if n < 28 then 64 else if n < 32 then 32 else 0

/-- Every pair names a channel of a stack below `top`. -/
def channelsOk (top : Nat) (l : List (Nat × Nat)) : Bool := l.all (fun e => decide (e.1 < top) && decide (e.2 < channelsOf e.1))

/-- Every offset lies below a bound. -/
def offsetsOk (top : Nat) (l : List (Nat × EccFind)) : Bool := l.all (fun e => decide (e.1 < top))

/-- A control frame carries at most 4,096 bytes (Table 15-2, R453). -/
def cpOk (p : List Byte) : Bool := decide (p.length ≤ 4096)

/-- A fabric frame carries at most 2,048 bytes (R419). -/
def fabOk (d : List Byte) : Bool := decide (d.length ≤ 2048)

/-- Samples of a number of sensors, each one byte (Table 12-7). -/
def samplesOk (n : Nat) (l : List Nat) : Bool := l.length == n && l.all (fun t => decide (t < 256))

/-- The command is well formed. -/
def Instr.wf : Instr → Bool
  | .info _ p | .errClear _ p | .memRead _ p _ | .memWrite _ p _ | .regRead _ p | .regWrite _ p | .mouldLoad _ p
  | .mouldCommit _ p | .pourStart _ p | .pourAbort _ p | .flaskReset _ p | .attest _ p | .debugLevel _ p | .own _ p
  | .decommission _ p | .powerState _ p | .warmReset _ p | .badOpcodeCommand _ _ p => cpOk p
  | .cpSync p | .cpSyncAck p => p.length == 16
  | .hello _ d => d.length == 128
  | .keyx _ d => d.length == 1056
  | .idle _ _ d => d.length == 18
  | .lsa _ _ d | .put _ _ d _ | .addFrame _ _ d _ | .getReq _ _ d _ | .post _ _ d | .ack _ _ d | .nack _ _ d
  | .getResp _ _ d | .lost _ _ d => fabOk d
  | .thermalSample a b t => samplesOk 32 a && samplesOk 64 b && decide (t < 256)
  | .trainingDone l => channelsOk 32 l
  | .powerTransitionComplete l => channelsOk 28 l
  | .channelMoveDone _ l => offsetsOk (2 ^ 37) l
  | .retainedCopyDone _ l => offsetsOk (2 ^ 25) l
  | _ => true

end Sys2Proof
end

