-- ==== Sys2Proof/Tests/Slice0.lean ====
section
/-! SUPPORT. Small tests: ill-formed commands, worked examples of the manual, and for every obligation with hypotheses a
concrete state that meets them, clause by clause. -/

namespace Sys2Proof.Tests

open Sys2Proof Sys2Proof.Machine

/-! ### States for tests -/

/-- A flask of two cores, of which logical core 0 has a RETAINED group, one window over the near tier and one over the
scratchpads. -/
def tFlask : FlaskDef :=
  { ncores := 2, mincores := 1, codeg := 1, declared := false, mark := false, chains := 0, crreg := 0, wdog := 10000,
    noprog := 1000000, ltmo := 100, rtmo := 5000, coreList := [0, 1], spareList := [2],
    parts := [[0, 1, 2], [0, 1, 1]], windows := [(memKey 0 0, 2 ^ 41), (memKey 3 0, 2 ^ 26)], routes := none }

/-- A mould with that flask and one version-buffered region. -/
def tMould : Mould :=
  { fabaddr := 0xFFF, mnear := 0, mmid := 0, mfar := 0, pcap := 0x960, slew := 0x20, clken := BitVec.allOnes 128, chains := [],
    regions := [⟨0, 0x100000, 0x100000, false, true, false, 0, 0x200000⟩], flasks := [(0, some tFlask)] }

/-- A core of the flask, with thread 0 running at PC 0. -/
def tCore (l : Nat) : Core :=
  { Core.init with
    serves := some (0, l)
    arch := { Arch.init with rcd := { Arch.init.rcd with threads := [(0, { Thread.idle with run := .run })] } } }

/-- The module in Run, Owned and at level Open, the control link up, the pour of flask 0 running. -/
def tRun : State :=
  { State.reset with
    mould := some tMould, flasks := [(0, { Flask.init with stage := .running, map := [0, 1], spares := [2] })],
    cores := [(0, tCore 0), (1, tCore 1)], cp := { Cp.init with st := .up, peerBufs := 64 },
    sec := { State.reset.sec with serial := 0x123456789, lifecycle := 1, debug := 2, nonce := List.replicate 32 7 },
    pwr := { State.reset.pwr with
      state := .run, boot := .ready, present := true, vin := 54000,
      duty := [(0, 16), (1, 16), (2, 16), (3, 16), (256, 16)] } }

/-- The same module with no pour. -/
def tIdle : State :=
  { tRun with
    flasks := [(0, { Flask.init with map := [0, 1], spares := [2] })], cores := [],
    pwr := { tRun.pwr with state := .idle } }

/-- An instruction of core 0, thread 0. -/
def tOp (opc : BitVec 8) (bits : BitVec 56) : Op := ⟨opc, ⟨0, 0, bits, 0, []⟩⟩

/-- A word at the start of the code partition of core 0. -/
def tWord (w : Word) : List Host.Cell :=
  ((leBytes 8 w.toNat).zipIdx.filter (fun e => e.1 != 0)).map (fun e => (memKey 3 e.2, e.1))

/-- The running module with an instruction at the PC of thread 0 of core 0. -/
def tAt (o : Op) : State := { tRun with mem := tWord o.word }

/-- The hypotheses of `issues` and `nextOk`, as a check. -/
def tIssues (s : State) (o : Op) : Bool :=
  s.mayIssue o && (!o.xt || s.pcOk o.core ((s.thread o.core o.thread).pc + 8)) && s.guardOn o &&
  (issueFault o (s.declared o.core) == none) && !(s.thread o.core o.thread).interlocked o && (s.stallOf o == none) &&
  decide (s.fetchThrough o = (s, true)) && s.pcOk o.core ((s.thread o.core o.thread).pc + BitVec.ofNat 32 o.size)

/-- The operands of an instruction of core 0, thread 0. -/
def tIns (bits : BitVec 56) : Ins := ⟨0, 0, bits, 0, []⟩

/-- The running module with thread 0 of core 0 so changed, and with what changes its core. -/
def tWith (o : Op) (f : Thread → Thread) (g : Core → Core := id) : State :=
  { tAt o with cores := [(0, g ((tCore 0).modRec (fun r => { r with threads := [(0, f { Thread.idle with run := .run })] }))), (1, tCore 1)] }

/-- A thread that holds an instruction from cycle 5 on. -/
def tHeld (o : Op) (w : Hold) (x : Thread) : Thread := { x with run := .stall, held := some ⟨w, 5, o⟩ }

/-- A chain of two primes, one of them special. -/
def tChain : Chain :=
  { logn := 10, l := 1, k := 1, primes := [⟨12289, 0, 0, 13, 0, 0, 0, 0, 0, 0, List.replicate 2560 1⟩, ⟨18433, 1, 0, 14, 0, 0, 0, 0, 0, 0, List.replicate 2560 1⟩],
    qinv := [0], logp := 14, noiseLimit := 0x4000, vbound := 0, rndnoise := 0, ksnoise := [0], fprint := List.replicate 16 1 }

/-- The running module with chain 0, loaded, and core 0 so changed. -/
def tEng (g : Core → Core) : State :=
  { tRun with
    mould := some { tMould with chains := [(0, some tChain)] }
    cores := [(0, g { tCore 0 with loaded := 1 }), (1, tCore 1)] }

/-- An entry of an engine queue, issued at PC 0. -/
def tEnt (o : Op) : QEnt := ⟨o, 0, [], 0⟩

/-- A flight of an instruction that started at time 0. -/
def tFlight (o : Op) (slot : Option Nat) (md : Option MdOut) (abort : Option (BitVec 8)) : Flight :=
  ⟨tEnt o, [], 0, 1, 1, [], [⟨4, 0, 64⟩], slot, md, [], false, [4], abort, 0⟩

/-- TZERO of tile 4, which consumes and produces a token. -/
def tTzero : Op := tOp 0x49 0x4080008000000
/-- NTT of slice 31 of buffer 14 under prime 0, without metadata. -/
def tNtt : Op := tOp 0x50 0xF801000

/-- A tensor of two 32-bit elements at an offset of the near tier of this module. -/
def tTensor (space off : Nat) : List Byte :=
  leBytes 6 off ++ [BitVec.ofNat 8 (0xF0 + space), 0xFF] ++ leBytes 4 2 ++ List.replicate 20 0 ++ [4] ++ List.replicate 26 0 ++
  [0x40, 1, 0, 0, 1] ++ List.replicate 64 0

/-- An active instruction. -/
def tAct (o : Op) (vals : List Word) (descs : List (List Byte)) (total : Nat) (xs : List Xfer) : SeAct :=
  ⟨0, ⟨o, 0, vals, 0⟩, descs, total, 0, 0, xs, false, false, false, none, [], [], [], 0, [], [], false, [], false, 0⟩

/-- The running module with one active instruction of core 0. -/
def tSe (a : SeAct) : State := tEng (fun k => { k with se := { k.se with active := [a], nextId := 1, nextX := 1 } })

/-- A key header for chain 0, with its key set and its magic as given. -/
def tHeader (magic ksid : Nat) : List Byte :=
  leBytes 4 magic ++ leBytes 2 1 ++ [1, 10] ++ leBytes 8 ksid ++ List.replicate 16 1 ++ leBytes 4 0 ++ [1, 1, 1, 0] ++
  leBytes 8 (256 + 8192) ++ List.replicate 208 0

/-- The descriptor of that key, and of a ciphertext of key set 7. -/
def tKey : List Byte := leBytes 8 0xFFF0000000000000 ++ List.replicate 55 0 ++ [3] ++ List.replicate 12 0 ++ [0, 1, 10, 1] ++ List.replicate 48 0
def tCt : List Byte := List.replicate 64 0 ++ leBytes 8 7 ++ List.replicate 56 0

/-- The running module with flask 0 so changed, every thread halted. -/
def tPour (f : Flask → Flask) : State :=
  { tRun with
    flasks := [(0, f { Flask.init with stage := .running, map := [0, 1], spares := [2] })]
    cores := [(0, { Core.init with serves := some (0, 0) }), (1, { Core.init with serves := some (0, 1) })] }

/-- The header of the first CMD frame. -/
def tHdr : CpHdr := ⟨0, 0, 5, 0⟩

/-- A module on which no DEBUG_LEVEL has been accepted. -/
def tClosed : State := { tIdle with sec := { tIdle.sec with debug := 0 } }

/-- The owner of a Blank module. -/
def tBlank : State := { tIdle with sec := { tIdle.sec with lifecycle := 0 } }

/-- A frame the module has sent and holds. -/
def tHeldFrame : CpFrame := ⟨0x11, false, 7, 0, 0, 5, 0x01, 0, []⟩

/-- The module with its control link in a state. -/
def tLink (f : Cp → Cp) : State := { tIdle with cp := f tIdle.cp }

/-- The running module with fabric port 31 so changed. -/
def tPort (s : State) (f : Port → Port) : State := { s with fab := { s.fab with ports := [(31, f Port.init)] } }

/-- A HELLO of another module, with ENCRYPT as given. -/
def tHello (enc : Byte) : List Byte := leBytes 8 99 ++ leBytes 2 0x8001 ++ [31, enc, 0, 1] ++ List.replicate 64 9 ++ List.replicate 50 0

/-- The owned module whose owner key hash is that of the HELLO. -/
def tOwned : State := { tRun with sec := { tRun.sec with ownerHash := List.replicate 64 9 } }

/-- A fabric header. -/
def tFab : FabHdr := { FabHdr.zero with src := 1, dst := 0xFFF, hseq := 1 }

/-- A request that port 31 has sent and that is not acknowledged. -/
def tSent : FabFrame := ⟨0x10, tFab, [1], none⟩

/-- The error record of core 0 so changed. -/
def tErr (s : State) (f : ErrCore → ErrCore) : State := { s with err := { s.err with cores := [(0, f ⟨false, 0, 0, false⟩)] } }

/-- The module at a point of its power-on or reset, in a power state. -/
def tBoot (b : Boot) (p : Power) : State := { tIdle with pwr := { tIdle.pwr with boot := b, state := p } }

/-- The key of the base point as the cocoon stores it. -/
def tKeyBytes : List Byte := beBytes 66 ecG.1 ++ beBytes 66 ecG.2

/-- A signed image with a module section, one version-buffered region and a flask of one core. -/
def tSigned : List Byte :=
  leBytes 4 0x474E4D4C ++ [1, 0, 0, 0] ++ leBytes 4 3840 ++ [4, 0, 0, 0, 0, 1] ++ List.replicate 238 0 ++
  ([1, 0] ++ List.replicate 6 0 ++ leBytes 4 512 ++ leBytes 4 256) ++ ([3, 0] ++ List.replicate 6 0 ++ leBytes 4 768 ++ leBytes 4 512) ++
  ([4, 0] ++ List.replicate 6 0 ++ leBytes 4 1280 ++ leBytes 4 2048) ++ ([0xFF, 0] ++ List.replicate 6 0 ++ leBytes 4 3328 ++ leBytes 4 512) ++
  List.replicate 192 0 ++
  (leBytes 2 1 ++ [0x20, 0] ++ leBytes 2 0x960 ++ List.replicate 10 0 ++ List.replicate 12 0xFF ++ [0x0F] ++ List.replicate 227 0) ++
  (leBytes 256 1 ++ [0, 0, 1, 0, 0, 0, 0, 0] ++ leBytes 8 0x100000 ++ leBytes 8 0x100000 ++ leBytes 8 0x200000 ++ List.replicate 224 0) ++
  ([1, 1, 0, 1] ++ List.replicate 252 0 ++ [0] ++ List.replicate 127 0xFF ++ leBytes 8 0x1111111111111110 ++ List.replicate 1656 0) ++
  (tKeyBytes ++ beBytes 66 1 ++ beBytes 66 1 ++ List.replicate 248 0)

/-- The Owned module whose owner key is that key, with the image staged and a background command at a stage. -/
def tSec (op : BitVec 8) (st : BgStage) (data : List Byte) : State :=
  { tIdle with
    staged := tSigned, bg := some ⟨op, 5, st, data⟩
    sec := { tIdle.sec with ownerKey := tKeyBytes, ownerHash := sha512 tKeyBytes } }

/-- A chain of certificates with the fields that serial number 99 requires. -/
def tChainBytes : List Byte :=
  (leBytes 4 0x474E4345 ++ [1, 0, 3, 0] ++ leBytes 8 99 ++ leBytes 8 1 ++ List.replicate 488 0) ++
  (leBytes 4 0x474E4345 ++ [1, 0, 2, 0] ++ leBytes 8 1 ++ leBytes 8 0 ++ List.replicate 488 0) ++ List.replicate 32 3

/-- The state that an outcome leads to. -/
def tTo (x : Host.Outcome State Fault Refusal) : State := match x with | .next t => t | _ => State.reset

/-- Port 31 UP, without encryption. -/
def tUp (s : State) (f : Port → Port := id) : State := tPort s (fun k => f { k with st := 4 })

/-- A frame that arrives on the loopback is delivered as it is. -/
theorem tDelivers (s : State) (type : BitVec 8) (h : FabHdr) (d : List Byte) (n : d.length ≤ 2048) : s.delivers 32 type h d d :=
  ⟨⟨⟨.inl rfl, fun _ => rfl, fun x => (x rfl).elim⟩, n, fun x => absurd x (by decide)⟩, rfl⟩

/-- A frame in order on a link in clear is accepted as it is. -/
theorem tAccepted (s : State) (p : Nat) (type : BitVec 8) (h : FabHdr) (d : List Byte) (b : Option (Nat × Nat))
    (r : s.receives p h) (e : (s.port p).enc = false) : s.accepted p ⟨type, h, d, b⟩ d :=
  ⟨r, fun _ => rfl, fun _ x => by rw [e] at x; cases x⟩

/-! ### Instructions that issue -/

theorem tIssues_issues (s : State) (o : Op) (h : tIssues s o = true) : s.issues o ∧ s.nextOk o := by
  simp only [tIssues, Bool.and_eq_true, Bool.or_eq_true, Bool.not_eq_true', beq_iff_eq] at h
  obtain ⟨⟨⟨⟨⟨⟨⟨h1, h2⟩, h3⟩, h4⟩, h5⟩, h6⟩, h8⟩, h7⟩ := h
  refine ⟨⟨h1, fun hx => ?_, h3, h4, h5, h6, of_decide_eq_true h8⟩, h7⟩
  rcases h2 with h2 | h2
  · rw [hx] at h2; cases h2
  · exact h2

/-- Sequencer instructions of every form issue, with the highest registers and fields among them. -/
theorem test_hyp_issue_sequencer : ∀ o ∈ [tOp 0x10 0x7FF000000000, tOp 0x11 0, tOp 0x12 0, tOp 0x13 0, tOp 0x14 0, tOp 0x15 0,
    tOp 0x16 0, tOp 0x17 0, tOp 0x18 0, tOp 0x19 0, tOp 0x1A 0x7FF000000000, tOp 0x20 0xFFFFFFFF, tOp 0x21 0, tOp 0x22 0,
    tOp 0x23 0, tOp 0x24 0, tOp 0x25 0, tOp 0x26 0, tOp 0x27 0, tOp 0x28 0, tOp 0x29 0, tOp 0x2A 0x7FE0080000000, tOp 0x2B 0x400000000000,
    tOp 0x2C 0, tOp 0x30 0, tOp 0x31 0, tOp 0x34 0, tOp 0x35 0, tOp 0x36 0,
    tOp 0x37 0x7000000000000, tOp 0x08 8, tOp 0x09 0, tOp 0x0A 8, tOp 0x0B 0x800000000008, tOp 0x0C 0, tOp 0x0D 0, tOp 0x01 0,
    tOp 0x02 0x4000000000000, tOp 0x03 0x7800000000000, tOp 0x04 0, tOp 0x05 0x400000000, tOp 0x06 0x8000000000,
    tOp 0x07 0x8000000000], tIssues (tAt o) o = true := by
  decide +kernel

/-- Every engine instruction, with the extension word that it needs, is that of its row and issues. -/
theorem test_hyp_issue_engine : ∀ c ∈ [Instr.lmm (tIns 0x8000000000000), .lmmRes2 (tIns 0x8000000000000),
    .lmmRes4 (tIns 0x8000000000000), .lmmRes8 (tIns 0x8000000000000), .lmmRr (tIns 0x8000000000000), .tcfg (tIns 0x8000000000000),
    .tzero (tIns 0x8000000), .tmove (tIns 0x8000000000000), .ntt (tIns 0), .intt (tIns 0), .auto (tIns 0x8000000000000),
    .vchain (tIns 0), .vred (tIns 0), .vhistArm (tIns 0), .vhistClear (tIns 0x8000000), .vhistRead (tIns 0x10000000),
    .mred (tIns 0x8000000000000), .rescale (tIns 0x8000000000000), .ld (tIns 0), .ldS (tIns 0), .stS (tIns 0), .ldH (tIns 0),
    .stH (tIns 0), .ldC (tIns 0), .ldt (tIns 0), .stt (tIns 0), .gather (tIns 0), .scatter (tIns 0), .rput (tIns 0),
    .rget (tIns 0), .radd (tIns 0), .fill (tIns 0), .cksum (tIns 0), .kexp (tIns 0x8000000000000)],
    (match c.asOp with | some o => decide (unitOf o.code ≠ 0) && tIssues (tAt o) o | none => false) = true := by
  decide +kernel

/-- A branch target may be the last word of the code partition, and the byte behind it is none. -/
theorem test_hyp_BranchesGo :
    (tAt (tOp 0x08 0x1FFFF8)).pcOk 0 0x1FFFF8 = true ∧ (tAt (tOp 0x08 0x200000)).pcOk 0 0x200000 = false ∧
    (tAt (tOp 0x0A 4)).pcOk 0 4 = false ∧
    ∀ o ∈ [tOp 0x08 0x1FFFF8, tOp 0x08 0x200000, tOp 0x0A 4, tOp 0x09 0x7C00000000000], tIssues (tAt o) o = true := by
  decide +kernel

/-- BR.FORK meets its halted thread 1, and waits for it where the engine still holds what it issued. -/
theorem test_hyp_ForkStartsAThread :
    let o := tOp 0x0B 0x800000000008
    let e : QEnt := ⟨{ tOp 0x49 0x8000000 with ins := ⟨0, 1, 0x8000000, 0, []⟩ }, 0, [], 0⟩
    let k := fun c : Core => { c with lme := { c.lme with queue := [e] } }
    tIssues (tAt o) o = true ∧ (tAt o).pcOk 0 8 = true ∧ fld o.ins.bits 47 4 = 1 ∧ ((tAt o).thread 0 1).run = .halted ∧
    ((tAt o).core 0).outstanding = [] ∧ tIssues (tWith o id k) o = true ∧ e ∈ ((tWith o id k).core 0).outstanding ∧ e.op.thread = 1 ∧
    ((tWith o (tHeld o (.fork 0))).thread 0 0).held = some ⟨.fork 0, 5, o⟩ ∧ (tWith o (tHeld o (.fork 0))).coreIssues 0 = true ∧
    (tWith o (tHeld o (.fork 0))).nextOk o := by
  unfold State.nextOk
  decide +kernel

/-- FENCE.E meets its engines idle and busy, and a held FENCE.E is released; COMMIT has a pour. -/
theorem test_hyp_OrderingInstructionsHold :
    let o := tOp 0x03 0x7800000000000
    let e : QEnt := ⟨tOp 0x49 0x8000000, 0, [], 0⟩
    let k := fun c : Core => { c with lme := { c.lme with queue := [e] } }
    tIssues (tAt o) o = true ∧ ((tAt o).core 0).outstanding = [] ∧ tIssues (tWith o id k) o = true ∧
    e ∈ ((tWith o id k).core 0).outstandingIn 1 ∧ e.op.thread = 0 ∧ (BitVec.ofNat 4 (fld o.ins.bits 47 4)).getLsbD 0 = true ∧
    ((tWith o (tHeld o (.fence 0xF))).thread 0 0).held = some ⟨.fence 0xF, 5, o⟩ ∧
    (tWith o (tHeld o (.fence 0xF))).coreIssues 0 = true ∧ (tWith o (tHeld o (.fence 0xF))).nextOk o ∧
    ((tWith o (tHeld o (.fence 0xF)) k).thread 0 0).held = some ⟨.fence 0xF, 5, o⟩ ∧
    e ∈ ((tWith o (tHeld o (.fence 0xF)) k).core 0).outstandingIn 1 ∧
    (tAt (tOp 0x02 0)).serving 0 = some (0, 0) := by
  unfold State.nextOk
  decide +kernel

/-- Semaphores at 0 and at 1, and a held SEM.WAIT whose half is no longer 0. -/
theorem test_hyp_SemaphoresCount :
    let o := tOp 0x04 0x7F80000000000
    let k := fun c : Core => c.modSem 255 (fun _ => ⟨1, 0⟩)
    let s := tWith o (tHeld o (.semWait 255 false)) k
    tIssues (tAt o) o = true ∧ (((tAt o).core 0).sem 255).full = 0 ∧ tIssues (tWith o id k) o = true ∧
    (((tWith o id k).core 0).sem 255).full = 1 ∧ fld o.ins.bits 43 8 = 255 ∧
    (s.thread 0 0).held = some ⟨.semWait 255 false, 5, o⟩ ∧ s.coreIssues 0 = true ∧ s.nextOk o ∧ ((s.core 0).sem 255).full = 1 ∧
    (let z := tWith o (tHeld o (.semWait 255 false))
     (z.thread 0 0).held = some ⟨.semWait 255 false, 5, o⟩ ∧ ((z.core 0).sem 255).full = 0) := by
  unfold State.nextOk
  decide +kernel

/-- TOKEN.WAIT finds its 32 tokens or fewer; TOKEN.SIGNAL finds its place or a full queue; the held forms find what they
wait for. -/
theorem test_hyp_TokensMove :
    let w := tOp 0x06 0x7F00000000000
    let g := tOp 0x07 0x7F00000000000
    let k := fun c : Core => c.modTokq 63 (fun _ => ⟨32, 0⟩)
    fld w.ins.bits 45 6 = 63 ∧ fld w.ins.bits 39 6 = 32 ∧
    tIssues (tWith w id k) w = true ∧ (((tWith w id k).core 0).tokq 63).count = 32 ∧ ((tWith w id k).core 0).waiters 63 = [] ∧
    tIssues (tAt w) w = true ∧ (((tAt w).core 0).tokq 63).count = 0 ∧
    ((tWith w (tHeld w (.tokenWait 63 32)) k).thread 0 0).held = some ⟨.tokenWait 63 32, 5, w⟩ ∧
    (tWith w (tHeld w (.tokenWait 63 32)) k).coreIssues 0 = true ∧ (tWith w (tHeld w (.tokenWait 63 32)) k).nextOk w ∧
    ((tWith w (tHeld w (.tokenWait 63 32)) k).core 0).waiters 63 = [(5, 4)] ∧
    tIssues (tAt g) g = true ∧ tIssues (tWith g id k) g = true ∧
    ((tWith g (tHeld g (.signalPlace 63 32))).thread 0 0).held = some ⟨.signalPlace 63 32, 5, g⟩ ∧
    (tWith g (tHeld g (.signalPlace 63 32))).nextOk g ∧
    (let z := tWith w (tHeld w (.tokenWait 63 32))
     (z.thread 0 0).held = some ⟨.tokenWait 63 32, 5, w⟩ ∧ ((z.core 0).tokq 63).count = 0) ∧
    (let z := tWith g (tHeld g (.signalPlace 63 32)) k
     (z.thread 0 0).held = some ⟨.signalPlace 63 32, 5, g⟩ ∧ z.coreIssues 0 = true ∧ ((z.core 0).tokq 63).count = 32) := by
  unfold State.nextOk
  decide +kernel

/-- A guard that is not met: predicate 1 of a thread whose predicates are those of its start. -/
theorem test_hyp_GuardSkips :
    let o := tOp 0x70 0x10000000000000
    (Instr.ld o.ins).asOp = some o ∧ (tAt o).mayIssue o = true ∧ (tAt o).fetchThrough o = (tAt o, true) ∧ (tAt o).guardOn o = false ∧ (tAt o).nextOk o := by
  unfold State.nextOk
  decide +kernel

/-- Faults at issue: an opcode that no row lists, a reserved field, a fork of the thread itself; and the last word of the code
partition. -/
theorem test_hyp_IssueFaults :
    (∀ x ∈ [(Instr.undefinedOpcodeIssue 0x1B (tIns 0), tOp 0x1B 0, fDescFormat), (Instr.halt (tIns 1), tOp 0x01 1, fDescFormat),
      (Instr.brFork (tIns 8), tOp 0x0B 8, fHandle)],
      x.1.asOp = some x.2.1 ∧ (tAt x.2.1).mayIssue x.2.1 = true ∧ (tAt x.2.1).fetchThrough x.2.1 = (tAt x.2.1, true) ∧ x.2.1.xt = false ∧ (tAt x.2.1).guardOn x.2.1 = true ∧
      issueFault x.2.1 ((tAt x.2.1).declared 0) = some x.2.2 ∧ (tAt x.2.1).serving 0 = some (0, 0)) ∧
    (let o : Op := ⟨0x10, ⟨0, 0, 0, 0, [(memKey 3 0, .uncorrectable)]⟩⟩
     (Instr.add o.ins).asOp = some o ∧ (tAt o).mayIssue o = true ∧ ((tAt o).fetchThrough o).2 = false ∧
     (tAt o).serving 0 = some (0, 0)) ∧
    (let o := tOp 0x10 0
     let s : State := { tWith o (fun x => { x with pc := 0x1FFFF8 }) with
       mem := ((leBytes 8 o.word.toNat).zipIdx.filter (fun e => e.1 != 0)).map (fun e => (memKey 3 (0x1FFFF8 + e.2), e.1)) }
     (Instr.add o.ins).asOp = some o ∧ s.mayIssue o = true ∧ s.guardOn o = true ∧ issueFault o (s.declared 0) = none ∧
     (s.thread 0 0).interlocked o = false ∧ s.stallOf o = none ∧ s.fetchThrough o = (s, true) ∧ ¬ s.nextOk o ∧ s.serving 0 = some (0, 0)) := by
  unfold State.nextOk
  decide +kernel

/-- Each cause of a stall, and each instruction held by one whose cause has gone. -/
theorem test_hyp_StallsHoldAndEnd :
    let ld := tOp 0x72 0
    let e : QEnt := ⟨ld, 0, [0], 0⟩
    let l := fun n (c : Core) => { c with lme := { c.lme with queue := List.replicate n ⟨tOp 0x49 0x8000000, 0, [], 0⟩ } }
    let z := tOp 0x49 0x8000000
    let zt := tOp 0x49 0x80008000000
    let g := tOp 0x0D 0
    let q := fun c : Core => { c with se := { c.se with queue := [e] } }
    let k := fun c : Core => c.modTokq 0 (fun _ => ⟨32, 0⟩)
    (∀ x ∈ [(z, l 32, Hold.queueFull), (zt, k, .tokenPlace), (g, q, .slot)],
      let s := tWith x.1 id x.2.1
      s.mayIssue x.1 = true ∧ s.fetchThrough x.1 = (s, true) ∧ s.guardOn x.1 = true ∧ issueFault x.1 (s.declared 0) = none ∧
      (s.thread 0 0).interlocked x.1 = false ∧ (s.stallOf x.1).map (·.1) = some x.2.2) ∧
    (∀ x ∈ [(z, Hold.queueFull), (zt, .tokenPlace), (g, .slot), (tOp 0x0C 0, .slot)],
      let s := tWith x.1 (tHeld x.1 x.2)
      (s.thread 0 0).held = some ⟨x.2, 5, x.1⟩ ∧ s.coreIssues 0 = true ∧ s.stallOf x.1 = none ∧ s.nextOk x.1) := by
  unfold State.nextOk
  decide +kernel

/-! ### Engines -/

/-- Heads of each engine that start, one with a token to take. -/
theorem test_hyp_EnginesStartTheirHead :
    (let s := tEng (fun k => { k.modTokq 0 (fun _ => ⟨1, 0⟩) with lme := { k.lme with queue := [tEnt tTzero] } })
     s.headReady 0 1 (tEnt tTzero) = true ∧
     ((lmeCheck 0 (s.popHead 0 1 (tEnt tTzero)) (tEnt tTzero)).toOption.map (fun p => (p.occ, p.lat, p.abort))) = some (1, 2, none)) ∧
    (let e := tEnt tNtt
     let s := tEng (fun k => { k with te := { k.te with queue := [e] } })
     s.headReady 0 2 e = true ∧ (teCheck 0 (s.popHead 0 2 e) e).toOption.isSome = true) ∧
    (let e := tEnt (tOp 0x62 0x8000000)
     let s := tEng (fun k => { k with ve := { k.ve with queue := [e] } })
     s.headReady 0 3 e = true ∧ mredReads s 0 e = false ∧ (veCheck 0 none (s.popHead 0 3 e) e).toOption.isSome = true) := by
  decide +kernel

/-- Heads of each engine that may start and fail a check: TZERO of tile 0, NTT under a prime past the last, and VHIST
to a reserved stream address. -/
theorem test_hyp_StartChecksFault :
    (let e := tEnt (tOp 0x49 0)
     let s := tEng (fun k => { k with lme := { k.lme with queue := [e] } })
     s.headReady 0 1 e = true ∧ (lmeCheck 0 (s.popHead 0 1 e) e).toOption = none ∧ (s.flask 0).stage = .running ∧
     s.serving 0 = some (0, 0)) ∧
    (let e := tEnt (tOp 0x50 0xF801010)
     let s := tEng (fun k => { k with te := { k.te with queue := [e] } })
     s.headReady 0 2 e = true ∧ (teCheck 0 (s.popHead 0 2 e) e).toOption = none) ∧
    (let e : QEnt := ⟨tOp 0x62 0x10000000, 0, [0x3FC0000], 0⟩
     let s := tEng (fun k => { k with ve := { k.ve with queue := [e] } })
     s.headReady 0 3 e = true ∧ mredReads s 0 e = false ∧ (veCheck 0 none (s.popHead 0 3 e) e).toOption = none) := by
  decide +kernel

/-- The same NTT passes its check and does not abort. -/
theorem test_hyp_TransformsWriteTheirSlices :
    let e := tEnt tNtt
    let s := tEng (fun k => { k with te := { k.te with queue := [e] } })
    s.headReady 0 2 e = true ∧ s.chain tNtt.teChain = some tChain ∧ tNtt.ns = 1 ∧ tNtt.s0 = 31 ∧
    ((teCheck 0 (s.popHead 0 2 e) e).toOption.map (fun p => p.abort.isNone &&
      !breaksDistance (s.core 0).te.flights e.op (s.startCycle 0 2 e) p.reads p.writes && (s.core 0).unshared 2 p.reads p.writes)) =
        some true ∧
    tePrime tChain tNtt ((s.core 0).desc 0) 0 = some 0 ∧ tNtt.md = false := by
  decide +kernel

/-- TZERO of tile 4 meets no flight. -/
theorem test_hyp_TzeroZeroes :
    let e := tEnt tTzero
    let s := tEng (fun k => { k.modTokq 0 (fun _ => ⟨1, 0⟩) with lme := { k.lme with queue := [e] } })
    s.headReady 0 1 e = true ∧ ((lmeCheck 0 (s.popHead 0 1 e) e).toOption.map (fun p =>
      !breaksDistance (s.core 0).lme.flights e.op (s.startCycle 0 1 e) p.reads p.writes && (s.core 0).unshared 1 p.reads p.writes)) =
        some true ∧ tilesOf e.op.reg = [4] := by
  decide +kernel

/-- Flights that complete, in each engine, with metadata for the last slot. -/
theorem test_hyp_EnginesComplete :
    let md : MdOut := ⟨0xFFFF, 0, 0, true, true⟩
    let f := tFlight (tOp 0x51 0) (some 1023) (some md) none
    (∀ u ∈ [1, 2, 3], firstFlight (((tEng (fun k => k.setEngine u { k.engine u with flights := [f] })).core 0).engine u).flights = some f) ∧
    (tEng id).coreAlive 0 = true ∧ f.abort = none ∧
    ((tEng (fun k => { k with te := { k.te with flights := [f] } })).core 0).desc 1023 = ⟨List.replicate 128 0⟩ := by
  decide +kernel

/-- Flights that abort of themselves, in each engine; an AUTO of two slices whose second is misdirected, with no fault of its own, with
one in the same slice and with one behind it. -/
theorem test_hyp_EnginesAbort :
    let x := tFlight (tOp 0x51 0) (some 1023) none (some fModulus)
    let g := fun (a : Option (BitVec 8)) (n : Nat) =>
      { tFlight (tOp 0x52 0x8000000002000) (some 1023) none a with abortAt := n }
    let s := fun (u : Nat) (f : Flight) => tEng (fun k => k.setEngine u { k.engine u with flights := [f] })
    (∀ u ∈ [1, 2, 3], firstFlight (((s u x).core 0).engine u).flights = some x ∧ (s u x).coreAlive 0 = true ∧
      (s u x).serving 0 = some (0, 0) ∧ ((s u x).flask 0).stage = .running) ∧ x.abort = some fModulus ∧
    (g none 0).ent.op.code = 0x52 ∧ (g none 0).ent.op.ns = 2 ∧ (g none 0).abort = none ∧
    (g (some fModulus) 1).abort = some fModulus ∧ (g (some fModulus) 1).abortAt ≤ 1 ∧ 0 < (g (some fModulus) 1).abortAt ∧
    ∀ f ∈ [g none 0, g (some fModulus) 1], firstFlight (((s 2 f).core 0).te).flights = some f := by
  decide +kernel

/-- A word is a residue; every transform size is met. -/
theorem test_hyp_TransformWords : 0 < 12289 ∧ (List.replicate (2 ^ 10) 12288).length = 2 ^ 10 ∧ 1023 < 2 ^ 10 ∧
    (∀ w ∈ List.replicate (2 ^ 10) 12288, w < 12289) ∧ 5 % 2 = 1 := by
  refine ⟨by decide, List.length_replicate, by decide, fun w hw => ?_, by decide⟩
  rw [List.eq_of_mem_replicate hw]; decide

/-! ### The stream engine -/

/-- LD.S of eight bytes at the end of the near window passes its checks, and one at an odd address does not. -/
theorem test_hyp_StreamEngineStartsItsHead :
    let o := tOp 0x71 0x6000000
    let e := fun v : Word => (⟨o, 0, [v], 0⟩ : QEnt)
    let s := fun v => tEng (fun k => { k with se := { k.se with queue := [e v] } })
    (s 0xFFF001FFFFFFFFF8).seReady 0 (e 0xFFF001FFFFFFFFF8) = true ∧
    seCheck ((s 0xFFF001FFFFFFFFF8).popHead 0 4 (e 0xFFF001FFFFFFFFF8)) 0 (e 0xFFF001FFFFFFFFF8) = none ∧
    seCheck ((s 0xFFF0000000000001).popHead 0 4 (e 0xFFF0000000000001)) 0 (e 0xFFF0000000000001) = some fDescAlign ∧
    (s 1).serving 0 = some (0, 0) ∧ ((s 1).flask 0).stage = .running := by
  decide +kernel

/-- The LD of two elements issues its first read. -/
theorem test_hyp_TransfersIssue :
    let a := tAct (tOp 0x70 0) [] [tTensor 0 256, tTensor 0 0] 2 []
    let s := tSe a
    (s.core 0).actOf 0 = some a ∧ s.coreAlive 0 = true ∧ s.dutyOf 0 0 ≠ 0 ∧ a.moved s 0 = false ∧ s.tryPhase 0 a true = none ∧
    a.front s 0 false = 0 ∧ (s.turnOrder 0).find? (fun j => (s.issueOf 0 j).isSome) = some 0 ∧ s.walkId 0 = none ∧ a.fault = none ∧
    a.extend s 0 false false 0 ⟨0xFFF, 0, 0, 4, 0, 4, none⟩ 4096 1 ⟨0xFFF, 0, 0, 4, 0, 4, none⟩ = some 1 ∧ a.phaseNeed s 0 false 0 = .acc ⟨0xFFF, 0, 0, 4, 0, 4, none⟩ ∧ a.ent.op.remoteRead = false ∧
    s.stackOpen ⟨0xFFF, 0, 0, 4, 0, 4, none⟩ = true ∧ (s.core 0).tagFree 0 = true := by
  decide +kernel

/-- Its read lands without error, both units with four bytes each. -/
theorem test_hyp_ReadsDeliver :
    let x : Xfer := ⟨0, .data, 0, 0, 2, 0, 0, 0, []⟩
    let a := { tAct (tOp 0x70 0) [] [tTensor 0 256, tTensor 0 0] 2 [x] with nextR := 2 }
    let s := tSe a
    (s.core 0).xferOf 0 = some (a, x) ∧ (s.core 0).actOf 0 = some a ∧ s.coreAlive 0 = true ∧ (s.landXfer 0 0 x []).2 = none ∧
    s.inTime 0 x = true ∧ (∀ u ∈ [0, 1], a.readNeed s u = .acc ⟨0xFFF, 0, 4 * u, 4, 4 * u, 4, none⟩) := by
  decide +kernel

/-- A write of LD and one of ST.S land without error, each with one unit. -/
theorem test_hyp_WritesLand :
    let x : Xfer := ⟨0, .data, 1, 1, 1, 0, 0, 0, []⟩
    let a := { tAct (tOp 0x70 0) [] [tTensor 0 256, tTensor 0 0] 2 [x] with nextR := 2, nextW := 2 }
    let y : Xfer := ⟨0, .data, 1, 0, 1, 0, 0, 0, []⟩
    let b := { tAct (tOp 0x74 0x6000000) [0x123456789ABCDEF0, 0xFFF001FFFFFFFFF8] [] 1 [y] with nextW := 1 }
    (((tSe a).core 0).xferOf 0 = some (a, x) ∧ ((tSe a).landXfer 0 0 x []).2 = none ∧ (tSe a).inTime 0 x = true ∧ a.mustWait x = false ∧ a.dirty = false ∧
      a.writeNeed 1 = .acc ⟨0xFFF, 0, 260, 4, 260, 4, none⟩ ∧ fmtPlane (a.desc 0).fmt = false ∧
      a.blurs (tSe a) 1 ⟨0xFFF, 0, 260, 4, 260, 4, none⟩ = []) ∧
    ((tSe b).core 0).xferOf 0 = some (b, y) ∧ ((tSe b).landXfer 0 0 y []).2 = none ∧ (tSe b).inTime 0 y = true ∧ b.mustWait y = false ∧
    b.writeNeed 0 = .acc ⟨0xFFF, 0, 0x1FFFFFFFFF8, 8, 0x1FFFFFFFFF8, 8, none⟩ := by
  decide +kernel

/-- Instructions whose transfers have all ended: LD.S to register 31 with a post to core 1, CKSUM, LD.H and LD.C. -/
theorem test_hyp_StreamEngineCompletes :
    (let a := { tAct (tOp 0x71 0x8001F06000000) [0xFFF0000000000000] [] 1 [] with nextR := 1, nextW := 1 }
     ((tSe a).core 0).actOf 0 = some a ∧ a.moved (tSe a) 0 = true ∧ a.owesPost = false ∧ a.posted = 0 ∧ a.dirty = false ∧
      a.ent.op.f 32 5 = 31 ∧ (tSe a).coreAlive 0 = true) ∧
    (let a := tAct { tOp 0x72 0x80001F8000000 with ins := ⟨0, 0, 0x80001F8000000, 0x800100, []⟩ } [0xFFF0000000000000] [] 0 []
     a.moved (tSe a) 0 = true ∧ a.owesPost = false ∧ a.ent.op.f 27 10 = 63 ∧ a.ent.op.x 23 1 = 1 ∧ a.ent.op.remoteWrite = false ∧
     (tSe a).serving 0 = some (0, 0) ∧ ((tSe a).hosts 0)[a.ent.op.x 8 6]? = some 1 ∧ ((tSe a).flask 0).shares = []) ∧
    (let a := { tAct (tOp 0x7E 0x7C00000) [] [tTensor 0 0] 2 [] with nextR := 2, nextW := 2 }
     a.moved (tSe a) 0 = true ∧ a.owesPost = false ∧ a.total ≠ 0) ∧
    (let a := { tAct (tOp 0x73 0x700000000) [0xFFF0000000000000] [] 1 [] with nextR := 1, nextW := 1 }
     a.moved (tSe a) 0 = true ∧ a.owesPost = false ∧ a.ent.op.f 32 5 = 7) := by
  decide +kernel

/-- A key header that passes, one of another magic, one of another key set. -/
theorem test_hyp_KeyHeadersAreChecked :
    let x : Xfer := ⟨0, .header, 0, 0, 0, 0, 0, 0, []⟩
    let a := tAct (tOp 0x7F 0x8000000000000) [] [tKey, tCt, [], []] 16 [x]
    let s := fun h : List Byte => { tSe a with mem := (h.zipIdx.filter (fun e : Byte × Nat => e.1 != 0)).map (fun e : Byte × Nat => (memKey 0 e.2, e.1)) }
    let good := tHeader 0x474E4B48 7
    ((s good).core 0).actOf 0 = some a ∧ a.xfers.find? (fun y => y.kind == .header) = some x ∧ (s good).coreAlive 0 = true ∧
    (s good).inTime 0 x = true ∧ ((s good).readAll 0 [a.headerAcc] []).2 = true ∧ (s good).accData 0 a.headerAcc = good ∧ (s good).chain (a.desc 1).chain = some tChain ∧
    headerCheck good (a.desc 0) (a.desc 1) tChain = none ∧
    headerOk (tHeader 0x474E4B48 8) (a.desc 0) tChain = true ∧
    headerCheck (tHeader 0x474E4B48 8) (a.desc 0) (a.desc 1) tChain = some fKeySet ∧
    headerCheck (tHeader 0 7) (a.desc 0) (a.desc 1) tChain = some fDescFormat ∧
    (let b : Desc := ⟨(tKey.take 72) ++ [1] ++ tKey.drop 73⟩
     headerOk good b tChain = true ∧ leAt good 8 8 = (a.desc 1).ksid ∧ bytesAt good 16 16 = tChain.fprint ∧ leAt good 32 4 ≠ b.galois ∧
     headerCheck good b (a.desc 1) tChain = some fGalois) := by
  decide +kernel

/-- A transfer that is the last of its instruction, and one beside another. -/
theorem test_hyp_TransfersTimeOut :
    let x : Xfer := ⟨0, .data, 0, 0, 1, 0, 0, 0, []⟩
    let y : Xfer := ⟨1, .data, 0, 1, 1, 1, 0, 0, []⟩
    let a := { tAct (tOp 0x70 0) [] [tTensor 0 256, tTensor 0 0] 2 [x] with nextR := 1 }
    let b := { a with xfers := [x, y], nextR := 2 }
    ((tSe a).core 0).xferOf 0 = some (a, x) ∧ ((tSe b).core 0).xferOf 0 = some (b, x) ∧ (tSe a).coreAlive 0 = true ∧
    ((tSe a).core 0).actOf 0 = some a ∧ (tSe a).serving 0 = some (0, 0) ∧ ((tSe a).flask 0).stage = .running ∧
    ({ tSe a with now := 140001 }).inTime 0 x = false ∧ (tSe a).inTime 0 x = true ∧ ((tSe a).core 0).se.nextId = 1 ∧
    ((tSe a).core 0).se.walk = none := by
  decide +kernel

/-! ### Pours -/

/-- Code of 8 bytes at the start of the near tier is loaded. -/
theorem test_hyp_PoursStart :
    let s := tPour (fun x => { x with stage := .loading, code := 0xFFF0000000000000, codelen := 8, entry := 0 })
    (s.flask 0).stage = .loading ∧ ((State.copyCodes 0 [] (s.codeCores 0) s).flask 0).stage = .loading ∧
    fld (s.flask 0).code 48 4 < 3 ∧ fld (s.flask 0).code 0 48 + (s.flask 0).codelen ≤ 2 ^ 48 ∧ (s.flask 0).shares = [] ∧
    s.codeCores 0 = [(0, 0), (1, 1), (2, 0)] := by
  decide +kernel

/-- A pour that has ended, one at a commit with NOTIFY, and one stopped by an abort. -/
theorem test_hyp_PoursEnd :
    (let s := tPour (fun x => { x with cseq := 2 ^ 32 - 1 })
     (s.flask 0).stage = .running ∧ s.flaskDone 0 = true ∧ s.allThreads 0 Thread.isHalted = true ∧ s.sound) ∧
    (let s : State := { tPour (fun x => { x with notify := true, cseq := 2 ^ 32 - 1 }) with
       cores := [(0, (Core.init.modRec (fun r => { r with threads := [(0, tHeld (tOp 0x02 0) .commit Thread.idle)] })).setEngine 1 Engine.init),
                 (1, { Core.init with serves := some (0, 1) })] }
     (s.flask 0).stage = .running ∧ s.flaskDone 0 = true ∧ s.allThreads 0 (fun x => x.isHalted || x.atCommit) = true ∧
     s.allThreads 0 Thread.isHalted = false ∧ (s.hosts 0).all (fun c => !(s.core c).haltreq) = true ∧ s.sound ∧
     (s.flask 0).notify = true ∧ s.cp.ready = []) ∧
    (let s := tPour (fun x => { x with stage := .stopping .abort })
     (s.flask 0).stage = .stopping .abort ∧ s.flaskQuietNow 0 = true ∧ (s.flask 0).waiter = none) ∧
    (let s := tPour (fun x => { x with stage := .stopping .fault, map := [0], fault := some ⟨4, 0, 1, 2, 8, 0, some 9⟩ })
     s.flaskQuietNow 0 = true ∧ (s.flask 0).waiter = none) ∧
    (tPour id).vbOwner (memKey 0 0x1FFFFF) = some 0 ∧ (tPour id).vbOwner (64 * (memKey 0 0x1FFFFF / 64)) = some 0 := by
  unfold State.sound
  decide +kernel

/-- A starved core, an engine past its watchdog, and a pour without progress, each at its bound. -/
theorem test_hyp_StarvationAndTimersFault :
    (let o := tOp 0x06 0x5F00000000000
     let s := { tWith o (tHeld o (.tokenWait 47 32)) with cores := [(0, ((tCore 0).modRec (fun r =>
       { r with threads := [(0, tHeld o (.tokenWait 47 32) Thread.idle)] })))] }
     s.coreIssues 0 = true ∧ (s.core 0).starved = true ∧ (s.thread 0 0).starving = true ∧
     (s.thread 0 0).held = some ⟨.tokenWait 47 32, 5, o⟩) ∧
    (let f := tFlight tNtt none none none
     let s := { tEng (fun k => { k with te := { k.te with flights := [f] } }) with now := 14000002 }
     firstFlight ((s.core 0).engine (unitIndex .te)).flights = some f ∧ s.coreAlive 0 = true ∧ s.serving 0 = some (0, 0) ∧
     (s.flask 0).stage = .running ∧ f.start + ((s.flaskOf 0).map (·.wdog)).getD 10000 * 700 < s.cycle) ∧
    (let s := { tPour id with now := 1400000000 }
     (s.flask 0).stage = .running ∧ (s.flask 0).lastProgress + ((s.flaskDef 0).map (·.noprog)).getD 1000000 * 1400 ≤ s.now ∧
     (s.hosts 0).all (fun c => !(s.core c).haltreq) = true ∧ (s.flask 0).fault = none) := by
  decide +kernel

/-! ### Commands -/

/-- Commands that fail each of the seven checks, and one whose CTAG is recorded with its response. -/
theorem test_hyp_CommandsAreChecked :
    tIdle.takes tHdr [] ∧ tIdle.cp.record = [] ∧ tIdle.cmdFlows = true ∧
    tIdle.cmdChecks 0x99 [] = some 0x01 ∧ tIdle.cmdChecks 0x10 [] = some 0x02 ∧ tIdle.cmdChecks 0x12 (leBytes 8 1) = some 0x03 ∧
    tIdle.cmdChecks 0x42 (leBytes 16 0x4F574E45 ++ List.replicate 132 0) = some 0x04 ∧
    tClosed.cmdChecks 0x11 (leBytes 16 0xFFF4000000000000 ++ [0]) = some 0x05 ∧
    { tIdle with pwr := { tIdle.pwr with state := .doze } }.cmdChecks 0x10 (leBytes 8 0xFFF3000000000000 ++ leBytes 8 1) = some 0x06 ∧
    { tIdle with bg := some ⟨0x40, 4, .hashing, []⟩ }.cmdChecks 0x40 (List.replicate 64 1) = some 0x07 ∧
    (let s := { tIdle with cp := { tIdle.cp with record := [⟨5, 0x30, some 0, none, 0⟩] } }
     s.takes tHdr [] ∧ s.cp.record.find? (fun r => r.ctag == tHdr.ctag) = some ⟨5, 0x30, some 0, none, 0⟩ ∧
     cmdRepeatable 0x30 = false) := by
  unfold State.takes
  decide +kernel

/-- INFO, ERR_CLEAR, and REG_READ of a register, of a gap and of an address that is none. -/
theorem test_hyp_QueriesAnswer :
    let p (off : Nat) := leBytes 8 (0xFFF8000000000000 + off)
    tIdle.accepts 0x01 tHdr [] ∧ tIdle.accepts 0x02 tHdr (List.replicate 8 0xFF) ∧ tIdle.accepts 0x12 tHdr (p 0x10008) ∧
    tIdle.regOff (p 0x10008) = some 0x10008 ∧ (tIdle.readReg 0x10008).toOption.isSome = true ∧ 0x10008 < 0x400000 ∧ 0x10008 % 0x10000 < 0x800 ∧
    tIdle.accepts 0x12 tHdr (leBytes 8 0) ∧ tIdle.regOff (leBytes 8 0) = none := by
  unfold State.accepts State.takes
  decide +kernel

/-- The last byte of the near tier that no margin takes is read and written, and a byte past its end is refused; a busy
version-buffered byte. -/
theorem test_hyp_MemoryCommandsMoveBytes :
    let p (sp off len : Nat) := leBytes 8 (0xFFF0000000000000 + sp * 2 ^ 48 + off) ++ leBytes 8 len
    let w (sp off : Nat) := leBytes 8 (0xFFF0000000000000 + sp * 2 ^ 48 + off) ++ leBytes 8 0 ++ [0xA5]
    (tIdle.accepts 0x10 tHdr (p 4 0 4096) ∧ tIdle.addrOk (cmdAddr 0x10 (p 4 0 4096)) = true) ∧
    (tIdle.accepts 0x10 tHdr (p 0 (2 ^ 41) 1) ∧ tIdle.addrOk (cmdAddr 0x10 (p 0 (2 ^ 41) 1)) = false) ∧
    (tIdle.accepts 0x10 tHdr (p 0 0 4096) ∧ tIdle.addrOk (cmdAddr 0x10 (p 0 0 4096)) = true ∧
      tIdle.readable (cmdAddr 0x10 (p 0 0 4096)) ∧ (cmdAddr 0x10 (p 0 0 4096)).len = 4096) ∧
    (tIdle.accepts 0x11 tHdr (w 4 0) ∧ tIdle.addrOk (cmdAddr 0x11 (w 4 0)) = true ∧ bufAt 0 ≠ .nothing) ∧
    (tIdle.accepts 0x11 tHdr (w 0 (2 ^ 41 - 1)) ∧ tIdle.addrOk (cmdAddr 0x11 (w 0 (2 ^ 41 - 1))) = true ∧
      tIdle.readable (cmdAddr 0x11 (w 0 (2 ^ 41 - 1))) ∧ tIdle.vbBusy (cmdAddr 0x11 (w 0 (2 ^ 41 - 1))) = false) ∧
    (tRun.accepts 0x11 tHdr (w 0 0x100000) ∧ tRun.addrOk (cmdAddr 0x11 (w 0 0x100000)) = true ∧
      tRun.vbBusy (cmdAddr 0x11 (w 0 0x100000)) = true) ∧
    tIdle.accepts 0x11 tHdr (w 0 (2 ^ 41)) ∧ tIdle.addrOk (cmdAddr 0x11 (w 0 (2 ^ 41))) = false := by
  unfold State.accepts State.takes State.readable
  decide +kernel

/-- HAZCHK of the last core, the control register of the last port, and a register that is not granted. -/
theorem test_hyp_RegisterWritesAct :
    let p (off : Nat) := leBytes 8 (0xFFF8000000000000 + off) ++ leBytes 8 3
    tIdle.accepts 0x13 tHdr (p 0x3F0000) ∧ tIdle.regOff (p 0x3F0000) = some 0x3F0000 ∧ tIdle.sec.debug ≠ 0 ∧ tIdle.pwr.state = .idle ∧
    tIdle.accepts 0x13 tHdr (p 0x200A4E8) ∧ tIdle.regOff (p 0x200A4E8) = some (0x200A108 + 0x20 * 31) ∧
    tClosed.accepts 0x13 tHdr (p 0x3F0000) ∧ (tClosed.writeReg 0x3F0000 3).toOption = none := by
  unfold State.accepts State.takes
  decide +kernel

/-- MOULD_LOAD at 0, at the end, and elsewhere; MOULD_COMMIT of what fails its early checks; an image being applied. -/
theorem test_hyp_MouldImagesAreStaged :
    let p (off : Nat) := leBytes 16 off ++ [1]
    let s := { tIdle with staged := [0] }
    s.accepts 0x20 tHdr (p 0) ∧ s.accepts 0x20 tHdr (p 1) ∧ s.accepts 0x20 tHdr (p 2) ∧ leAt (p 1) 0 4 = s.staged.length ∧
    s.accepts 0x21 tHdr [] ∧ s.checksEarly.isSome = true ∧
    (tSec 0x21 .applying []).bg = some ⟨0x21, 5, .applying, []⟩ ∧ (tSec 0x21 .applying []).staged = tSigned := by
  unfold State.accepts State.takes
  decide +kernel

/-- POUR_START of eight bytes of code on the idle flask. -/
theorem test_hyp_PourStartSeatsThePour :
    let p := leBytes 8 0 ++ leBytes 8 8 ++ leBytes 8 0xFFF0000000000000 ++ leBytes 8 7
    tIdle.accepts 0x30 tHdr p ∧ tIdle.flaskDef 0 = some tFlask ∧ tIdle.pourOn 0 = false ∧ tIdle.codeOk tFlask p = true ∧
    tIdle.err.meshDead = false ∧ tIdle.err.mouldDead = false ∧ tIdle.mould.isSome = true ∧ tFlask.mincores ≤ (tIdle.unfencedCores tFlask).length ∧ tIdle.orphansOf 0 = [] ∧
    (tIdle.flask 0).shares = [] ∧ (tIdle.hosts 0).Nodup := by
  unfold State.accepts State.takes
  decide +kernel

/-- POUR_ABORT and FLASK_RESET of the running flask, and FLASK_RESET of the idle one. -/
theorem test_hyp_FlaskCommandsStop :
    tRun.flaskDef 0 = some tFlask ∧ tRun.accepts 0x31 tHdr (leBytes 8 0) ∧ tRun.accepts 0x32 tHdr (leBytes 8 0) ∧
    (tRun.flask 0).stage = .running ∧ tIdle.accepts 0x32 tHdr (leBytes 8 0) ∧ tIdle.pourOn 0 = false := by
  unfold State.accepts State.takes
  decide +kernel

/-- The background commands in states that allow them; a level that is no raise. -/
theorem test_hyp_BackgroundCommandsBegin :
    tIdle.accepts 0x40 tHdr (List.replicate 64 1) ∧ tIdle.accepts 0x41 tHdr (leBytes 16 1) ∧ tIdle.sec.debug = 2 ∧ tIdle.accepts 0x41 tHdr (leBytes 16 0) ∧
    (let token := leBytes 4 0x474E4454 ++ [1, 0, 2, 0] ++ leBytes 8 0x123456789 ++ List.replicate 32 7 ++ List.replicate 208 0
     tClosed.accepts 0x41 tHdr (leBytes 16 2 ++ token) ∧ (leBytes 16 2 ++ token).length = 272 ∧ tClosed.tokenOk token = true ∧
     tClosed.sec.lifecycle = 1) ∧
    tBlank.accepts 0x42 tHdr (leBytes 16 0x4F574E45 ++ List.replicate 65 0 ++ [1] ++ List.replicate 66 0) ∧
    tIdle.accepts 0x43 tHdr (leBytes 16 0x44434F4D ++ List.replicate 132 1) := by
  unfold State.accepts State.takes
  decide +kernel

/-- POWER_STATE for the state in force, for another, during a transition; WARM_RESET; a command at its time and one mesh cycle
before it, waiting and in the background. -/
theorem test_hyp_PowerCommandsBegin :
    tIdle.accepts 0x50 tHdr (leBytes 8 1) ∧ tIdle.accepts 0x50 tHdr (leBytes 8 3) ∧ tIdle.changing = false ∧ tIdle.pwr.state = .idle ∧
    (let s := { tIdle with pwr := { tIdle.pwr with state := .doze, target := some .idle, wakeCause := 1 } }
     s.changing = true ∧ s.accepts 0x50 tHdr (leBytes 8 1)) ∧
    tIdle.accepts 0x51 tHdr (leBytes 8 0x57525354) ∧ tIdle.bg = none ∧
    (let s := { tIdle with bg := some ⟨0x40, 4, .hashing, []⟩ }
     s.accepts 0x51 tHdr (leBytes 8 0x57525354) ∧ s.bg = some ⟨0x40, 4, .hashing, []⟩ ∧ (⟨0x40, 4, .hashing, []⟩ : Bg).past = false) ∧
    (let s := fun (op : BitVec 8) (n : Nat) =>
       { tIdle with now := n, cp := { tIdle.cp with record := [⟨4, op, none, none, 0⟩, ⟨9, 0x10, none, none, 0⟩] } }
     (s 0x40 6999999999).now < 0 + 7000000000 ∧ (s 0x40 7000000000).timeUp 4 = true ∧
     (s 0x41 13999999999).now < 0 + 14000000000 ∧ (s 0x41 14000000000).timeUp 4 = true ∧ (s 0x40 14000000000).timeUp 9 = true ∧
     (s 0x40 6999999999).cp.record.find? (fun r => r.ctag == 4) = some ⟨4, 0x40, none, none, 0⟩) ∧
    (let s := { tIdle with cp := { tIdle.cp with waiting := [⟨0x10, 9, [], []⟩] } }
     s.bg = none ∧ s.timeUp 9 = true ∧ s.cp.waiting.find? (fun w => w.ctag == 9 && !cmdUntimed w.opcode) = some ⟨0x10, 9, [], []⟩) ∧
    (let s := { tIdle with cp := { tIdle.cp with waiting := [⟨0x30, 9, [], []⟩] } }
     s.bg = none ∧ ∀ w ∈ s.cp.waiting, w.opcode ∈ [0x30#8, 0x31, 0x32, 0x51]) := by
  unfold State.accepts State.takes
  decide +kernel

/-! ### The control link and the counters -/

/-- The link in each of its states, with a well-formed SYNC payload. -/
theorem test_hyp_ControlLinkComesAndGoes :
    let p : List Byte := [0, 1, 0, 0] ++ leBytes 2 16 ++ List.replicate 10 0
    syncOk p = true ∧ (tLink (fun k => { k with st := .locking })).hubRuns = true ∧
    (let s := tLink (fun k => { k with st := .sync, gotAck := true, held := [tHeldFrame] })
     s.cp.st = .sync ∧ s.cp.gotAck = true ∧ s.cp.gotSync = false) ∧
    (let s := tLink (fun k => { k with st := .sync, gotSync := true })
     s.cp.st = .sync ∧ s.cp.gotAck = false ∧ s.cp.gotSync = true ∧ s.cp.syncAt + 140000 ≤ { s with now := 140000 }.now) ∧
    tIdle.cp.st = .up ∧ tIdle.cp.heard + 1400000 ≤ { tIdle with now := 1400000 }.now := by
  decide +kernel

/-- A held frame that is acknowledged and one that is not; a gap without a NAK, with one just sent and with one sent 10 µs ago; a
sticky bit that is not yet reported. -/
theorem test_hyp_ControlLinkKeepsOrder :
    let s := { tLink (fun k => { k with held := [tHeldFrame] }) with err := { tIdle.err with sticky := 1, raised := 1 } }
    s.cp.st = .up ∧ s.cp.held = [tHeldFrame] ∧ (⟨0, 8, 0, 0⟩ : CpHdr).ackseq = tHeldFrame.seq + 1 ∧
    (⟨0, 7, 0, 0⟩ : CpHdr).ackseq = tHeldFrame.seq ∧ s.cp.ready = [] ∧ (1 : BitVec 32) = s.cp.rxSeq + 1 ∧ s.cp.nakAt = none ∧
    s.err.raised ≠ 0 ∧ tIdle.err.raised = 0 ∧ s.eventsShared < 496 ∧ s.cp.stickyAt = none ∧
    s.cp.ackAt + 70000 ≤ { s with now := 70000 }.now ∧ { s with now := 69999 }.now < s.cp.ackAt + 70000 ∧
    { s with now := 1399999 }.now < s.cp.heard + 1400000 ∧ (tLink (fun k => { k with stickyAt := some 0 })).cp.stickyAt = some 0 ∧
    { tIdle with now := 1399999 }.now < 0 + 1400000 ∧
    (let u := fun n => { tLink (fun k => { k with nakAt := some 0 }) with now := n }
     (u 13999).cp.nakAt = some 0 ∧ (u 13999).now < 0 + 14000 ∧ 0 + 14000 ≤ (u 14000).now) := by
  decide +kernel

/-- A snapshot in progress and none, a level above Closed and Closed, both ends of WLOG's range, the end of a window. -/
theorem test_hyp_CountersObey :
    let s := { tIdle with cnt := { tIdle.cnt with snapBusy := true, clearDue := true } }
    s.cnt.snapBusy = true ∧ s.cnt.clearDue = true ∧ tIdle.cnt.snapBusy = false ∧ tIdle.cnt.clearDue = false ∧ tIdle.sec.debug ≠ 0 ∧ tClosed.sec.debug = 0 ∧
    (10 ≤ (10 : BitVec 5).toNat ∧ (30 : BitVec 5).toNat ≤ 30) ∧ ¬ (10 ≤ (9 : BitVec 5).toNat ∧ (9 : BitVec 5).toNat ≤ 30) ∧
    tIdle.sound ∧ { tIdle with now := 2 ^ 20 }.now % 2 ^ tIdle.cnt.wlog.toNat = 0 ∧ tIdle.cnt.winAt ≠ 2 ^ 20 ∧ tIdle.cnt.winSkip = false ∧
    tIdle.cnt.winAt = tIdle.now ∧ (let s := { tIdle with cnt := { tIdle.cnt with winSkip := true } }; s.cnt.winSkip = true) ∧
    { tIdle with now := 1 }.now % 2 ^ tIdle.cnt.wlog.toNat ≠ 0 ∧ counterIndex (.hub 63) = 1215 := by
  unfold State.sound
  decide +kernel

/-! ### The fabric -/

/-- A port in each of its states, and HELLOs with and without ENCRYPT. -/
theorem test_hyp_FabricPortsComeUp :
    helloOk (tHello 0) = true ∧ helloOk (tHello 1) = true ∧ leAt (tHello 1) 11 1 = 1 ∧ leAt (tHello 0) 11 1 ≠ 1 ∧
    tOwned.sec.lifecycle = 1 ∧ bytesAt (tHello 1) 14 64 = bytesAt tOwned.sec.ownerHash 0 64 ∧
    ¬ (tRun.sec.lifecycle = 1 ∧ bytesAt (tHello 1) 14 64 = bytesAt tRun.sec.ownerHash 0 64) ∧
    ((tPort tOwned (fun k => { k with st := 2, encNow := true })).port 31).st = 2 ∧
    ((tPort tOwned (fun k => { k with st := 2, encNow := true })).port 31).encNow = true ∧
    ((tPort tRun (fun k => { k with st := 2 })).port 31).encNow = false ∧ (tPort tRun id).hubRuns = true ∧
    ((tPort tRun id).port 31).en = true ∧ ((tPort tRun id).port 31).st = 0 ∧
    (∀ n ∈ [1, 5, 6, 7], ((tPort tRun (fun k => { k with st := n })).port 31).st = n) ∧ (0x80 : BitVec 8) ≠ 0 ∧ (Port.init.since + 280000000 ≤ 280000000 ∧ Port.init.since + 1400000000 ≤ 1400000000) ∧
    { tRun with pwr := { tRun.pwr with boot := .selfTest } }.hubRuns = false := by
  decide +kernel

/-- A port that is UP with a frame in its replay buffer, one that has heard seven tag failures, one in its key exchange. -/
theorem test_hyp_FabricPortsGoDown :
    let up := tPort tRun (fun k => { k with st := 4, replay := [tSent], tagFails := List.replicate 7 0 })
    (up.port 31).st = 4 ∧ tSent ∈ (up.port 31).replay ∧ 0x10 ≤ tSent.type.toNat ∧
    7 ≤ ((up.port 31).tagFails.filter (fun n => decide (up.now < n + 1400000000))).length ∧ (up.port 31).queue = [] ∧
    (up.port 31).replay.findIdx? (fun f => f.hdr.hseq == 1) = some 0 ∧ (up.port 31).replay.findIdx? (fun f => f.hdr.hseq == 9) = none ∧
    ((tUp tRun).port 31).tagFails = [] ∧ (List.replicate 17 0 ++ [1#8]).length = 18 ∧ bitAt (1#8) 0 = true ∧
    (let s := { tPort tRun (fun k => { k with st := 3 }) with sec := { tRun.sec with sp := [.ecdh 31] } }
     (s.port 31).st = 3 ∧ s.sec.sp.head? = some (.ecdh 31) ∧ s.sec.spAt + 7000000000 ≤ { s with now := 7000000000 }.now) ∧
    (up.port 31).heard + 1400000 ≤ { up with now := 1400000 }.now := by
  decide +kernel

/-- A link state of another module, newer and older than what is held; a port with credit; a port that has caught nothing. -/
theorem test_hyp_LinkStateSpreads :
    let d := leBytes 8 99 ++ leBytes 2 0x8001 ++ [0, 0] ++ leBytes 4 5
    let a : Lsa := ⟨99, 1, true, 5, []⟩
    let s := tUp tRun
    let t := { s with fab := { s.fab with db := [a] } }
    s.accepted 31 ⟨0x04, tFab, d, none⟩ d ∧ parseLsa d = some a ∧ a.serial ≠ s.sec.serial ∧
    (∃ b ∈ t.fab.db, b.serial = a.serial ∧ a.seq.toNat ≤ b.seq.toNat) ∧
    (∀ b ∈ s.fab.db, b.serial = a.serial → b.seq.toNat < a.seq.toNat) ∧ s.hubRuns = true ∧
    (s.port 31).st = 4 ∧ (s.port 31).replay.length < 256 ∧ (s.port 31).queue = [] ∧ (s.port 31).hasCredit 16 = true ∧
    (s.port 31).caught = [] ∧ (s.port 31).downAt + 1400000 ≤ 1400000 ∧ 1399999 < (s.port 31).downAt + 1400000 ∧
    (let u := { s with fab := { s.fab with ages := [(99, 1)] }, now := 5600000000 }
     u.now < Sparse.get 0 u.fab.ages (99 : BitVec 64).toNat + 5600000000 ∧ Sparse.get 0 u.fab.ages (98 : BitVec 64).toNat + 5600000000 ≤ u.now) ∧
    (s.computeRoutes.map (·.1)).Nodup := by
  refine ⟨tAccepted _ _ _ _ _ _ ?_ ?_, ?_⟩
  · unfold State.receives
    decide +kernel
  all_goals decide +kernel

/-- The additional authenticated data of a frame leave its tag out (R430). -/
theorem aad_gtag (f : FabFrame) (g : BitVec 96) : ({ f with hdr := { f.hdr with gtag := g } } : FabFrame).aad = f.aad := by
  have key (a x y : List Byte) (h : a.length = 32) :
      bytesAt (a ++ x) 0 12 ++ bytesAt (a ++ x) 16 16 = bytesAt (a ++ y) 0 12 ++ bytesAt (a ++ y) 16 16 := by
    simp only [bytesAt]
    rw [List.drop_append_of_le_length (by omega), List.drop_append_of_le_length (by omega),
      List.drop_append_of_le_length (by omega), List.drop_append_of_le_length (by omega),
      List.take_append_of_le_length (by simp; omega), List.take_append_of_le_length (by simp; omega),
      List.take_append_of_le_length (by simp; omega), List.take_append_of_le_length (by simp; omega)]
  exact key _ _ _ (by simp [leBytes])

/-- A frame with its tag on an encrypted link is accepted in clear. -/
theorem test_hyp_encrypted :
    let s := tUp tRun (fun k => { k with enc := true, keyTx := List.replicate 32 1, keyRx := List.replicate 32 2 })
    let k := s.port 31
    let f : FabFrame := ⟨0x10, { tFab with enc := true }, [5, 6], none⟩
    let g := BitVec.ofNat 96 (leNat (gcmTag k.keyRx (fabIv (k.rxCount + 1)) f.aad f.payload))
    s.accepted 31 { f with hdr := { f.hdr with gtag := g } } (gcmCrypt k.keyRx (fabIv (k.rxCount + 1)) f.payload) := by
  intro s k f g
  have e : (s.port 31).enc = true := by decide +kernel
  refine ⟨?_, fun x => ?_, fun _ _ => ⟨?_, rfl⟩⟩
  · unfold State.receives
    decide +kernel
  · rcases x with x | x
    · cases x
    · rw [e] at x; cases x
  · rw [aad_gtag]

/-- Requests that reach the running flask by the loopback: PUT and ADD at the end of the near tier, of words below the prime and of one
that is not, and GET_REQ of 2,048 bytes. -/
theorem test_hyp_RemoteRequestsAct_memory :
    let at' (a : Nat) : FabHdr := { tFab with addr := BitVec.ofNat 64 a }
    let s := tEng id
    s.delivers 32 0x10 (at' (2 ^ 41 - 4)) [1, 2, 3, 4] [1, 2, 3, 4] ∧ s.delivers 32 0x11 (at' (2 ^ 41 - 4)) [1, 2, 3, 4] [1, 2, 3, 4] ∧
    s.delivers 32 0x12 (at' 0) (leBytes 4 2048) (leBytes 4 2048) ∧
    (s.remoteCheck (at' (2 ^ 41 - 4)) 4 true = .ok 0 ∧
      s.pieces 0 0 (2 ^ 41 - 4) 4 = [(memKey 0 (2 ^ 41 - 4), 4)] ∧ s.clear (s.writerOf 32 tFab 0) [(memKey 0 (2 ^ 41 - 4), 4)] ∧
      s.addPrime (at' 0) = some 12289 ∧ leNat (s.sees .remote (memKey 0 (2 ^ 41 - 4)) 4) < 12289 ∧
      (let t := { s with mem := [(memKey 0 (2 ^ 41 - 3), 0xFF#8)] }
       12289 ≤ leNat (t.sees .remote (memKey 0 (2 ^ 41 - 4)) 4) ∧ t.clear .remote [(memKey 0 (2 ^ 41 - 4), 4)])) ∧
    s.remoteCheck (at' 0) 2048 false = .ok 0 ∧ s.pieces 0 0 0 2048 = [(memKey 0 0, 2048)] ∧ s.clear .other [(memKey 0 0, 2048)] ∧
    s.remoteCheck (at' (4 * 2 ^ 48)) 4 true = .error fPrivilege ∧ s.remoteCheck (at' (2 ^ 41)) 1 false = .error fWindow := by
  refine ⟨tDelivers _ _ _ _ (by decide), tDelivers _ _ _ _ (by decide), tDelivers _ _ _ _ (by decide), ?_⟩
  unfold State.clear
  decide +kernel

/-- POSTs to core 1: of a new instruction, of one whose pour has ended, to a flask without a pour, and of a token with and without a place
in its queue. -/
theorem test_hyp_RemoteRequestsAct_post :
    let k : FabHdr := { tFab with addr := 0, spen := true, rten := true, rtq := 15, pcore := 1, spair := 255 }
    let s := tEng id
    let old := fun s : State => (List.range 16).any (fun g => (s.flask g).oldPeers.contains (insOf k))
    s.delivers 32 0x13 k [] [] ∧ s.remoteCheck k 1 false = .ok 0 ∧ s.pourOn 0 = true ∧ s.flaskDef 0 = some tFlask ∧ old s = false ∧
    (s.flask 0).shares = [] ∧ (s.hosts 0)[k.pcore.toNat]? = some 1 ∧ k.pcore.toNat < tFlask.ncores ∧ ((s.core 1).tokq 63).count = 0 ∧
    ((s.core 1).tokq 63).reserved = 0 ∧ (s.core 1).remoteTok = [] ∧
    (let u := { s with cores := [(0, tCore 0), (1, (tCore 1).modTokq 63 (fun _ => ⟨32, 0⟩))] }
     (u.hosts 0)[k.pcore.toNat]? = some 1 ∧ ((u.core 1).tokq 63).count = 32) ∧
    (let u := { s with flasks := [(0, { Flask.init with oldPeers := [insOf k] })] }
     old u = true ∧ u.remoteCheck k 1 false = .ok 0) ∧
    (let u := { s with flasks := [] }
     old u = false ∧ u.remoteCheck k 1 false = .ok 0 ∧ u.pourOn 0 = false) ∧
    (let w : Nat × Nat × FabHdr := (15, 32, { tFab with pcore := 0 })
     let u := tEng (fun k => { k with remoteTok := [w] })
     u.serving 0 = some (0, 0) ∧ (u.core 0).remoteTok.find? (fun t => t.1 == 15 && t.2.2.pcore.toNat == 0) = some w ∧
     ((u.core 0).tokq 63).count + ((u.core 0).tokq 63).reserved + 1 ≤ 32 ∧ u.coreAlive 0 = true) := by
  refine ⟨tDelivers _ _ _ _ (by decide), ?_⟩
  decide +kernel

/-- Frames for other modules: one that has a route, and ones past the last hop, to no address, and without a route. -/
theorem test_hyp_RemoteRequestsAct_forward :
    let far : FabHdr := { tFab with dst := 2, hop := 3 }
    let s : State := { tUp tRun with fab := { (tUp tRun).fab with routes := [(2, [31])] } }
    s.accepted 31 ⟨0x10, far, [], none⟩ [] ∧ s.buffered 31 (reqChan far) < 8 ∧ s.forMe 31 far = false ∧ s.routable 2 = true ∧
    s.fab.oldAddr = none ∧ (tUp tRun).routable 2 = false ∧ s.forMe 31 { far with hop := 7 } = false ∧
    s.forMe 31 { far with dst := 0xFFF } = false ∧ s.receives 31 far := by
  have r (t : State) (h : FabHdr) (x : (t.port 31).st = 4) (y : h.enc = (t.port 31).enc) (z : h.hseq = (t.port 31).rxSeq + 1) :
      t.receives 31 h := .inr ⟨by decide, x, y, z⟩
  refine ⟨tAccepted _ _ _ _ _ _ (r _ _ ?_ ?_ ?_) ?_, ?_, ?_, ?_, ?_, ?_, ?_, ?_, r _ _ ?_ ?_ ?_⟩
  all_goals decide +kernel

/-- The answers of the only remote transfer of an RGET by the loopback, within its time. -/
theorem test_hyp_RemoteAnswersEnd :
    let x : Xfer := ⟨0, .data, 2, 0, 2, 0, 255, 0, []⟩
    let a := { tAct (tOp 0x7B 0) [] [tTensor 0 256, tTensor 0 0] 2 [x] with nextR := 2 }
    let h := { tFab with tag := 255, response := true }
    let s := { tSe a with now := 7000000 }
    (∀ type ∈ [0x20#8, 0x21, 0x22, 0x23], s.delivers 32 type h (List.replicate 8 1) (List.replicate 8 1)) ∧
    (s.core 0).tagOf 255 = some (a, x) ∧ (s.core 0).actOf 0 = some a ∧ s.coreAlive 0 = true ∧ s.inTime 0 x = true ∧ a.fault = none ∧
    a.dirty = false ∧ a.ent.op.code = 0x7B ∧ (∀ u ∈ [0, 1], a.readNeed s u = .acc ⟨0xFFF, 0, 4 * u, 4, 4 * u, 4, none⟩) ∧
    s.serving 0 = some (0, 0) ∧ (s.flask 0).stage = .running ∧
    (let y : Xfer := ⟨1, .data, 2, 2, 1, 0, 254, 0, []⟩
     a.xfers.filter (fun z => z.num != 0) = [] ∧ [x, y].filter (fun z => z.num != 0) = [y]) := by
  refine ⟨fun type _ => tDelivers _ _ _ _ (by decide), ?_⟩
  decide +kernel

/-! ### Failures and recovery -/

/-- Cores of the running flask: unfenced, fenced, with two bad words in a scratchpad, with a fence that waits; a bridge that has
failed once; a good block to scrub; a stack whose channel moves. -/
theorem test_hyp_FailuresAreContained :
    tRun.fenced 0 = false ∧ tRun.pourOf 0 = some 0 ∧ (tRun.flask 0).stage = .running ∧ (tRun.flask 0).orphans = [] ∧
    (tRun.flask 0).shares = [] ∧ (tRun.hosts 0)[0]? = some 0 ∧ ((tRun.core 0).se.active = []) ∧
    (let s := tEng (fun k => { k with spadUe := 2 })
     2 ≤ (s.core 0).spadUe ∧ s.pourOf 0 ≠ none ∧ s.fenced 0 = false) ∧
    (let s := { tIdle with cores := [(0, { Core.init with spadUe := 2 })] }
     2 ≤ (s.core 0).spadUe ∧ s.pourOf 0 = none ∧ s.fenced 0 = false) ∧ (tRun.core 0).spadUe < 2 ∧
    (tErr tRun (fun e => { e with fenced := true })).fenced 0 = true ∧
    (let s := tErr tIdle (fun e => { e with deferred := true })
     (s.errCore 0).deferred = true ∧ s.fenced 0 = false ∧ s.pourOf 0 = none) ∧
    (let e : Err := { tRun.err with bridgeFails := [(0, 1)] }
     Sparse.get 0 e.bridgeFails 0 = 1) ∧ (tRun.flask 0).fault = none ∧
    tRun.scrubbed (memKey 0 (2 ^ 41 - 64)) = true ∧ Sparse.get false tRun.lost (memKey 0 (2 ^ 41 - 64) / 64) = false ∧
    tRun.deadLine (memKey 0 (2 ^ 41 - 64)) = false ∧
    ({ tRun with dram := [(31, { Stack.init with moving := some 7 })] }.stack 31).moving = some 7 ∧ tRun.mapFuse.length < 64 ∧
    tRun.sec.debug = 2 ∧ tRun.pwr.state = .run ∧ tClosed.sec.debug ≠ 2 ∧ tRun.fencesWait = false := by
  decide +kernel

/-- A fence that must wait; a route set whose paths cross a link inside a die; a block of a working version; a core and a hub whose own
memories are read, with a pour and without one. -/
theorem test_hyp_FailuresAreContained_more :
    (let s := { tIdle with bg := some ⟨0x41, 5, .zeroising, []⟩ }
     s.fencesWait = true ∧ s.fenced 0 = false ∧ ({ s with cores := [(0, { Core.init with spadUe := 2 })] }.core 0).spadUe = 2) ∧
    (let s := tPour (fun x => { x with paths := [[0], [1]] })
     (s.flask 0).paths.length = (s.flask 0).map.length * ((s.flask 0).map.length - 1) ∧
     ((linksOf 0 (s.pathOf 0 0 1)).contains 0 = true ∧ linksOf 0 (s.pathOf 0 0 1) = [0])) ∧
    ((tPour id).flask 0).paths = [] ∧
    (let s := { tRun with work := [(memKey 0 0x100000, some 7)] }
     s.scrubbed (memKey 0 0x100000) = true ∧ s.deadLine (memKey 0 0x100000) = false ∧ s.seesWork .remote (memKey 0 0x100000) = true ∧
     s.inWork (memKey 0 0x100000 / 64) = true ∧ s.blockLost .remote (memKey 0 0x100000 / 64) = false) ∧
    tRun.coreLit 0 = true ∧ tRun.hubRuns = true ∧ tRun.pourOn 0 = true ∧ (∀ f < 16, tIdle.pourOn f = false) := by
  decide +kernel

/-- A flask of which a core is fenced, quiet, with a record: with a spare, with too few cores left, and while its RETAINED
group is copied. -/
theorem test_hyp_FlasksRecover :
    let f : Flask := { Flask.init with stage := .stopping .recover, map := [0, 1], spares := [2], records := [Arch.init.rcd, Arch.init.rcd] }
    let s := { tErr tRun (fun e => { e with fenced := true }) with flasks := [(0, { f with orphans := [(0, 0)] })], cores := [] }
    (s.flaskDef 0 = some tFlask ∧ s.flaskQuietNow 0 = true ∧ tFlask.mincores ≤ (s.unfencedCores tFlask).length ∧
      s.err.meshDead = false ∧ s.orphansOf 0 = [0] ∧ (s.flask 0).spares.find? (fun e => !s.fenced e) = some 2 ∧
      ((s.hosts 0).set 0 2).Nodup ∧ (s.flask 0).paths = [] ∧ (s.flask 0).ext = [] ∧ (s.flask 0).shares = [] ∧ (s.flask 0).records ≠ [] ∧ tFlask.retained 0 = [2] ∧ tFlask.retained 1 = []) ∧
    (let u := { tRun with
       flasks := [(0, f)], cores := []
       err := { tRun.err with cores := [(0, ⟨true, 1, 1, false⟩), (1, ⟨true, 1, 1, false⟩), (2, ⟨true, 1, 1, false⟩)] } }
     u.flaskQuietNow 0 = true ∧ (u.unfencedCores tFlask).length < tFlask.mincores ∧ (u.flask 0).fault = none) ∧
    (let u := { s with flasks := [(0, { f with stage := PStage.copying, map := [2, 1], spares := [], copies := [(0, 2)], orphans := [(0, 0)] })] }
     u.sound ∧ (u.flask 0).copies = [(0, 2)] ∧ (u.hosts 0)[0]? = some 2 ∧ (u.hosts 0).Nodup ∧
     ∀ e ∈ u.hosts 0, (u.core e).arch = Arch.init) := by
  unfold State.sound
  decide +kernel

/-- Core 1 hosts two logical cores: it may begin an exchange, and end one. -/
theorem test_hyp_time_shares :
    let y : Share := ⟨1, 0, Arch.init, false, 0⟩
    let s (y : Share) : State := { tRun with
      flasks := [(0, { Flask.init with stage := .running, map := [1, 1], shares := [y] })], cores := [(1, tCore 1)] }
    (s y).shareAt 1 = some (0, y) ∧ y.swapping = false ∧ (s y).swapDue 1 y = false ∧ { s y with now := 2800000 }.swapDue 1 y = true ∧
    (let z := { y with swapping := true }
     (s z).shareAt 1 = some (0, z) ∧ ((s z).core 1).quiet = true ∧ (s z).serving 1 = some (0, 1) ∧ z.parked ≠ 1 ∧ (s z).sound) := by
  unfold State.sound
  decide +kernel

/-! ### Power and reset -/

/-- Each point of power-on; a running cocoon outside Chrysalis and in it; input at its lower limit, and back for 100 ms. -/
theorem test_hyp_PowerComesAndGoes :
    (tBoot .off .off).pwr.boot = .off ∧ 48000 ≤ 48000 ∧ (tBoot .charging .off).pwr.boot = .charging ∧
    (tBoot .waking .chrysalis).pwr.boot = .waking ∧ (tBoot .training .idle).pwr.target = none ∧ tIdle.cocoonRuns = true ∧
    ¬ (tIdle.pwr.state = .chrysalis ∧ tIdle.pwr.boot = .ready) ∧ tIdle.bg = none ∧ tIdle.fencesWait = false ∧
    ((tBoot .ready .chrysalis).pwr.state = .chrysalis ∧ (tBoot .ready .chrysalis).pwr.boot = .ready) ∧ (tBoot .selfTest .idle).pwr.boot = .selfTest ∧
    ((tIdle.port 31).en = true ∧ (tIdle.port 31).st = 0) ∧
    (let s := { tIdle with now := 140000000, pwr := { tIdle.pwr with vinOk := some 0 } }
     s.pwr.vinOk = some 0 ∧ 0 + 140000000 ≤ s.now ∧ 139999999 < 0 + 140000000) := by
  decide +kernel

/-- The points from which a reset or a wake starts, and those at which a reset sequence ends. -/
theorem test_hyp_ResetsAct :
    tRun.operating = true ∧ (tBoot .ready .chrysalis).wakesServed = true ∧ (tBoot .ready .chrysalis).pwr.target = none ∧
    (tBoot .ready .doze).cocoonRuns = true ∧ { tIdle with pwr := { tIdle.pwr with wakesBlocked := true } }.wakesServed = false ∧
    (tBoot .resetHeld .idle).pwr.hold = 0 ∧ tRun.fencesWait = false ∧ tRun.outsideRuns = true ∧ tRun.pwr.resume = none ∧
    (∀ b ∈ [Boot.selfTest, .training], { tBoot .resetting .idle with pwr := { (tBoot .resetting .idle).pwr with resume := some b } }.pwr.resume = some b) ∧
    { tIdle with pwr := { tIdle.pwr with boot := .waking, state := .chrysalis, target := some .idle } }.wakeCycle = true ∧ tRun.domainRuns 99 = true ∧ tRun.pwr.clken.getLsbD 63 = true ∧
    (tBoot .warmPending .run).pwr.boot = .warmPending ∧ (tBoot .resetting .idle).cp.ready = [] ∧
    (List.range 16).all (tBoot .warming .run).flaskQuietNow = true ∧ (tBoot .warming .run).fenced 63 = false := by
  decide +kernel

/-- A tick, a cap in force, a sensor at its threshold and none, transitions that may and may not complete. -/
theorem test_hyp_PowerIsGoverned :
    let sensor (coreT : List Nat) (i : Nat) : Bool := if i < 32 then decide (95 ≤ (List.replicate 32 94).getD i 0)
      else if i < 96 then decide (105 ≤ coreT.getD (i - 32) 0) else decide (105 ≤ 104)
    tIdle.cocoonRuns = true ∧ tIdle.pwr.boot ≠ .resetHeld ∧ (∀ g ∈ tIdle.pwr.gatings, g < 256) ∧ tIdle.pwr.trip = false ∧
    (List.range 97).find? (sensor (List.replicate 63 104 ++ [105])) = some 95 ∧
    (List.range 97).find? (sensor (List.replicate 64 104)) = none ∧ (List.replicate 63 104 ++ [105]).length = 64 ∧
    tIdle.mayComplete .doze = true ∧ tIdle.pwr.later = [] ∧
    { tIdle with pwr := { tIdle.pwr with target := some .doze, later := [(.run, 0)] } }.pwr.later = (.run, 0) :: [] ∧ tIdle.cp.ready = [] ∧ tIdle.pwr.capLim = false ∧
    { tIdle with pwr := { tIdle.pwr with capLim := true } }.pwr.capLim = true ∧ tIdle.pwr.capAt + 1400000 ≤ 1400000 ∧
    (let g : Bg := ⟨0x50, 5, .transition, leBytes 8 2⟩
     leAt g.data 0 1 = 2) ∧
    { tIdle with dram := [(31, { Stack.init with moving := some 7 })] }.mayComplete .doze = false ∧
    (tBoot .ready .doze).mayComplete .idle = true := by
  decide +kernel

/-! ### Security -/

theorem ecMul_zero (p : Pt) (n : Nat) : ecMul 0 p n = none := by
  induction n generalizing p with
  | zero => rfl
  | succ n ih => simp [ecMul, ih, ecAdd]

theorem ecMul_one (q : Nat × Nat) (n : Nat) : ecMul 1 (some q) (n + 1) = some q := by
  simp [ecMul, ecMul_zero, ecAdd]

/-- A verification that accepts: the base point as the key, of private key 1, and the signature of digest 0 under nonce 1. -/
theorem test_hyp_verdict_accept : ecdsaVerify ecG.1 ecG.2 ecG.1 ecG.1 0 = .accept := by
  have h1 : ecG.1 * invMod ecG.1 ecN % ecN = 1 := by decide +kernel
  have h2 : onCurve ecG.1 ecG.2 = true := by decide +kernel
  have h3 : ¬ (ecG.1 = 0 ∨ ecN ≤ ecG.1 ∨ ecG.1 = 0 ∨ ecN ≤ ecG.1) := by decide +kernel
  have h4 : ¬ (ecP ≤ ecG.1 ∨ ecP ≤ ecG.2 ∨ (ecG.1 = 0 ∧ ecG.2 = 0)) := by decide +kernel
  have h5 : ecG.1 % ecN = ecG.1 := by decide +kernel
  have h6 : ecScale 0 (some ecG) = none := ecMul_zero _ _
  have h7 : ecScale 1 (some (ecG.1, ecG.2)) = some (ecG.1, ecG.2) := ecMul_one (ecG.1, ecG.2) 520
  simp only [ecdsaVerify, if_neg h3, if_neg h4, h2, Nat.zero_mul, Nat.zero_mod, h1, h6, h7, ecAdd, h5, Bool.not_true,
    Bool.false_eq_true, if_false, if_true]

/-- A job that rejects; a point of the curve, and one that is none. -/
theorem test_hyp_verdicts : ecdsaVerify ecG.1 ecG.2 0 1 0 = .reject ∧ onCurve ecG.1 ecG.2 = true ∧ onCurve 1 1 = false := by
  decide +kernel

/-- The image passes the early checks, the checks of its signature's fields, and the late checks; another owner's module refuses its
signature, and another image fails a late check. -/
theorem test_hyp_SecurityJobsLeadOn_mould :
    let s := tSec 0x21 .hashing []
    tSigned.length = 3840 ∧ s.checksEarly = none ∧ s.checksSignature = none ∧ s.checksLate = none ∧
    (tIdle.accepts 0x21 tHdr []) ∧ { s with bg := none }.accepts 0x21 tHdr [] ∧ { s with bg := none }.checksEarly = none ∧
    { s with sec := { s.sec with ownerHash := [] } }.checksSignature ≠ none ∧
    { s with staged := tSigned.set 1283 0 }.checksLate ≠ none := by
  unfold State.accepts State.takes
  decide +kernel

/-- Fuses that take a key and fuses that clash; a certificate chain that passes and one that does not; a port in its key
exchange. -/
theorem test_hyp_SecurityJobsLeadOn_jobs :
    let s := tPort tRun (fun k => { k with st := 3, peerSerial := 99, ecdh := true })
    fuseClash [] tKeyBytes = false ∧ fuseClash tKeyBytes (List.replicate 132 0) = true ∧
    (s.port 31).st = 3 ∧ (s.port 31).peerCert = [] ∧ (s.port 31).ecdh = true ∧ tChainBytes.length = 1056 ∧
    chainFieldsOk tChainBytes (s.port 31).peerSerial.toNat = true ∧ chainFieldsOk tChainBytes 98 = false ∧
    (tSec 0x42 .fusing (List.replicate 148 1)).bg = some ⟨0x42, 5, .fusing, List.replicate 148 1⟩ := by
  decide +kernel

/-! ### Management and invariants -/

/-- States in which the management connector answers, and registers that are and are not granted. -/
theorem test_hyp_ManagementAnswers :
    tIdle.cocoonRuns = true ∧ (tBoot .ready .doze).wakesServed = true ∧ (tBoot .ready .doze).pwr.target = none ∧
    tIdle.sec.debug = 2 ∧ tIdle.pwr.state ≠ .chrysalis ∧ tClosed.sec.debug ≠ 2 ∧ (tClosed.regGranted true (regAt 0) = false) ∧
    (tIdle.readReg 0x3F0000).toOption.isSome = true ∧ (tIdle.writeReg 0x3F0000 1).toOption.isSome = true ∧
    (let a : CmdAddr := ⟨0xFFF, 0, 2 ^ 41 - 8, 8⟩
     tIdle.addrAsleep a = false ∧ tIdle.addrOk a = true ∧ tIdle.readable a) := by
  unfold State.readable
  decide +kernel

/-- The state after reset is sound. -/
theorem test_hyp_StepsKeepMemorySound : State.reset.sound := by
  unfold State.sound
  decide

/-- The queue of the state after reset is empty. -/
theorem test_hyp_EmptyQueueLetsTimePass : State.reset.pending = [] := rfl

/-! ### Well-formedness -/

/-- Each check of `wf` refuses a term that it names, one past its bound. -/
theorem test_wf_refuses : ∀ c ∈ [Instr.info tHdr (List.replicate 4097 0), .cpSync [], .cpSyncAck (List.replicate 17 0),
    .hello 0 (List.replicate 127 0), .keyx 0 [], .idle 0 0 [], .lsa 0 tFab (List.replicate 2049 0), .put 0 tFab (List.replicate 2049 0) [],
    .getResp 0 tFab (List.replicate 2049 0), .thermalSample [] (List.replicate 64 0) 0,
    .thermalSample (List.replicate 32 0) (List.replicate 64 256) 0, .thermalSample (List.replicate 32 0) (List.replicate 64 0) 256,
    .trainingDone [(32, 0)], .trainingDone [(0, 256)], .powerTransitionComplete [(28, 0)], .channelMoveDone 0 [(2 ^ 37, .uncorrectable)],
    .retainedCopyDone 0 [(2 ^ 25, .uncorrectable)]], c.wf = false := by
  decide +kernel

/-- The same checks take a term at their bound. -/
theorem test_wf_takes : ∀ c ∈ [Instr.info tHdr (List.replicate 4096 0), .cpSync (List.replicate 16 0), .hello 31 (List.replicate 128 0),
    .keyx 31 (List.replicate 1056 0), .idle 31 0 (List.replicate 18 0), .put 32 tFab (List.replicate 2048 0) [],
    .thermalSample (List.replicate 32 255) (List.replicate 64 255) 255, .trainingDone [(31, 31)], .powerTransitionComplete [(27, 63)],
    .channelMoveDone 31 [(2 ^ 37 - 1, .corrected)], .retainedCopyDone 63 [(2 ^ 25 - 1, .uncorrectable)]], c.wf = true := by
  decide +kernel

/-! ### Worked examples of the manual -/

/-- The table gives its rows no bits, so no word spells a command. -/
theorem test_decode_none : decodeTableWord 32 0x70 = none := rfl

/-- Table 10-16: the fields of the LMM.RES4 of Table 9-5, in a declared-shape flask. -/
theorem test_encoding_lmm_res4 :
    let o := tOp 0x42 0x04388008000000
    o.word = 0x4204388008000000 ∧ (o.xt, o.wen, o.wq, o.sen, o.sq, o.delay) = (false, true, 3, true, 4, 0) ∧
    decodeOk o true = true ∧ decodeOk o false = false := by
  decide +kernel

/-- Table 10-17: the fields of the AUTO of Table 6-6. -/
theorem test_encoding_auto :
    let o : Op := ⟨0x52, ⟨0, 0, 0x08000180001002, 0x0501500000000005, []⟩⟩
    o.word = 0x5208000180001002 ∧ (o.xt, o.delay, o.ns, o.md, o.teSrc, o.teDst, o.size) = (true, 12, 1, true, 0xE, 0xF, 16) ∧
    (o.x 54 10, o.x 44 10, o.x 0 18) = (20, 21, 5) ∧ decodeOk o false = true := by
  decide +kernel

/-- Table 6-3: AUTO with k = 3, N = 8, q = 113, in both domains. -/
theorem test_auto : autoCoeff 113 8 3 [1, 2, 3, 4, 5, 6, 7, 8] = [1, 109, 7, 2, 108, 8, 3, 107] ∧
    autoNtt 3 3 [0, 1, 2, 3, 4, 5, 6, 7] = [4, 5, 7, 6, 1, 0, 2, 3] := by
  decide +kernel

/-- R155: INTT undoes NTT; ψ = 40 is a primitive 16th root modulo 113 (chapter 6). -/
theorem test_intt_undoes_ntt :
    (List.range 8).map (inttWord 113 40 3 ((List.range 8).map (nttWord 113 40 3 [1, 2, 3, 4, 5, 6, 7, 112]))) = [1, 2, 3, 4, 5, 6, 7, 112] := by
  decide +kernel

/-- Chapter 2: REDC(T) = T × 106 mod 113. -/
theorem test_redc : redc (73 * 16) 113 = 73 ∧ redc 1 113 = 106 := by
  decide +kernel

/-- Chapter 1: logical core 5 at offset 0x40 is physical core 21 at offset 0x2A00_0040. -/
theorem test_scratchpad_of_logical_core :
    let s := tPour (fun x => { x with map := [0, 1, 2, 3, 4, 21] })
    s.pieces 0 3 0x0A000040 64 = [(memKey 3 0x2A000040, 64)] := by
  decide +kernel

/-- FIPS 180-4: the digest of "abc". -/
theorem test_sha512 : beNat (sha512 [0x61, 0x62, 0x63]) =
    0xddaf35a193617abacc417349ae20413112e6fa4e89a97ea20a9eeee64b55d39a2192992a274fc1a836ba3c23a3feebbd454d4423643ce80e2a9ac94fa54ca49f := by
  decide +kernel

/-! ### One step -/

/-- Chapter 20: 54.0 V reads 0xE360, 1,951 W reads 0x11E8. -/
theorem test_smbus_reads :
    (tTo (exec (.readVin true) tIdle)).pwr.smbus = [0x60, 0xE3] ∧
    (tTo (exec (.readPin true) { tIdle with pwr := { tIdle.pwr with pin := 1951000 } })).pwr.smbus = [0xE8, 0x11] := by
  decide +kernel

/-- Chapter 0: clearing one of two sticky bits leaves the other. -/
theorem test_err_clear :
    let s := { tIdle with err := { tIdle.err with sticky := 5 } }
    (tTo (exec (.errClear tHdr (leBytes 8 4)) s)).err.sticky = 1 := by
  decide +kernel

/-- Scalar results at their corners: a sum wraps, MIN is signed, a shift by 64 is one by 0, SRA keeps the sign. -/
theorem test_scalar_corners :
    let run (opc : BitVec 8) (c : Ins → Instr) (a b : Word) : Word :=
      let o := tOp opc 0xC10000000000
      let s := tWith o (fun x => (x.setReg 0 a).setReg 16 b)
      ((tTo (exec (c (tIns 0xC10000000000)) s)).thread 0 0).reg 3
    (tOp 0x10 0xC10000000000).f 46 5 = 3 ∧ (tOp 0x10 0xC10000000000).f 41 5 = 0 ∧
    run 0x10 .add 0xFFFFFFFFFFFFFFFF 1 = 0 ∧
    run 0x19 .min 0xFFFFFFFFFFFFFFFF 1 = 0xFFFFFFFFFFFFFFFF ∧ run 0x16 .shl 5 64 = 5 ∧
    run 0x18 .sra 0x8000000000000000 63 = 0xFFFFFFFFFFFFFFFF ∧ run 0x12 .mul 0x100000000 0x100000000 = 0 := by
  decide +kernel

/-- SEM.POST saturates at 65,535 (R266), and a branch behind the code partition faults with F_WINDOW (R248). -/
theorem test_post_saturates_and_fetch_faults :
    (let o := tOp 0x05 0x7FC000000000
     let s := tWith o id (fun c => c.modSem 15 (fun _ => ⟨0, 65535⟩))
     o.f 43 8 = 15 ∧ o.f 42 1 = 1 ∧ o.f 34 8 = 240 ∧ (((tTo (exec (.semPost o.ins) s)).core 0).sem 15) = ⟨0, 65535⟩) ∧
    (let o := tOp 0x08 0x200000
     ((tTo (exec (.br o.ins) (tAt o))).flask 0).fault.map (fun f => (f.code, f.pc)) = some (fWindow, 0x200000)) := by
  decide +kernel

/-- MEM_WRITE stores its bytes, and MEM_READ returns them. -/
theorem test_memory_command_round_trip :
    let a := leBytes 8 0xFFF0000000000FFF
    let s := tTo (exec (.memWrite tHdr (a ++ leBytes 8 0 ++ [0xA5, 0x5A]) []) tIdle)
    s.sees .other (memKey 0 0xFFE) 4 = [0, 0xA5, 0x5A, 0] ∧
    ((tTo (exec (.memRead ⟨1, 0, 6, 0⟩ (a ++ leBytes 8 2) []) s)).cp.held.map (·.payload)) = [[], [0xA5, 0x5A]] := by
  decide +kernel

/-- A step takes the command at the front of the queue. -/
theorem test_step_takes_the_front :
    (tTo (step { State.reset with pending := [.presentMate, .powerOn 54000] })).pending = [.powerOn 54000] ∧
    (tTo (step { State.reset with pending := [.presentMate, .powerOn 54000] })).pwr.present = true := by
  decide +kernel

end Sys2Proof.Tests
end

section
/-! PROOFS. What an issued, a held and a resumed instruction of the sequencer leaves of the state: the rules that the statements
about ordering and token instructions use. -/

namespace Sys2Proof.Machine

/-! ### What a changed thread leaves of its core -/

theorem State.onlyThread_tokq {s t : State} {c n : Nat} (h : s.onlyThread t c n) (q : Nat) :
    (t.core c).tokq q = (s.core c).tokq q :=
  (congrArg (fun k : Core => k.tokq q) h.2.1 :)

theorem State.onlyThread_fenceBusy {s t : State} {c n : Nat} (h : s.onlyThread t c n) (u : Nat) (m : BitVec 4) :
    (t.core c).fenceBusy u m = (s.core c).fenceBusy u m :=
  (congrArg (fun k : Core => k.fenceBusy u m) h.2.1 :)

theorem State.onlyThread_placesFor {s t : State} {c n : Nat} (h : s.onlyThread t c n) (q m : Nat) :
    (t.core c).placesFor q m = (s.core c).placesFor q m :=
  (congrArg (fun k : Core => k.placesFor q m) h.2.1 :)

theorem State.onlyThread_serving {s t : State} {c n : Nat} (h : s.onlyThread t c n) : t.serving c = s.serving c :=
  (congrArg Core.serves h.2.1 :)

/-- Whether the next instruction lies in the code partition rests on the PC, the mould and what the core serves. -/
theorem State.nextOk_of_onlyThread {s t : State} {o : Op} (h : s.onlyThread t o.core o.thread)
    (hx : t.thread o.core o.thread = s.thread o.core o.thread) (hn : s.nextOk o) : t.nextOk o := by
  unfold State.nextOk
  rw [hx, State.onlyThread_pcOk h]
  exact hn

/-! ### The state in which an issue is counted -/

theorem State.cores_counted {s t : State} (h : s.counted t) : t.cores = s.cores := by
  obtain ⟨ctl, val, rfl⟩ := h
  rfl

theorem State.now_counted {s t : State} (h : s.counted t) : t.now = s.now := by
  obtain ⟨ctl, val, rfl⟩ := h
  rfl

@[simp] theorem State.now_progress (s : State) (c : Nat) : (s.progress c).now = s.now := by
  unfold State.progress
  split <;> rfl

/-- Counting an issued instruction changes of its core the record of who issued last and when. -/
theorem State.core_issued (s : State) (o : Op) : (s.issued o).core o.core =
    { s.core o.core with lastIssued := o.thread, issueAt := s.issueCycle o.core + 1 } := by
  rw [State.issued, State.core_congr (State.cores_progress _ _), State.core_congr (State.cores_counted (State.coreEvent_counted _ _ _)),
    State.useCycle, State.core_modCore_self]

@[simp] theorem State.now_issued (s : State) (o : Op) : (s.issued o).now = s.now := by
  rw [State.issued, State.now_progress, State.now_counted (State.coreEvent_counted _ _ _), State.useCycle, State.now_modCore]

/-- The cycle that an issued instruction has used is the one in which it was to issue. -/
@[simp] theorem State.slotCycle_issued (s : State) (o : Op) : (s.issued o).slotCycle o.core = s.issueCycle o.core := by
  have hle : s.cycle ≤ s.issueCycle o.core := Nat.le_max_left _ _
  simp only [State.slotCycle, State.core_issued, State.cycle, State.now_issued]
  simp only [State.cycle] at hle
  omega

/-- Counting an issued instruction changes nobody's place among the waiters of a token queue. -/
@[simp] theorem State.servedFirst_issued (s : State) (o : Op) (q ticket rank : Nat) :
    ((s.issued o).core o.core).servedFirst q ticket rank = (s.core o.core).servedFirst q ticket rank := by
  rw [State.core_issued]
  rfl

/-! ### Going on and holding -/

/-- An instruction whose successor lies in the code partition leaves its thread past it, and changes nothing else. -/
theorem State.advance_next (s : State) (o : Op) (hn : s.nextOk o) :
    (s.advance o).thread o.core o.thread = (s.thread o.core o.thread).past o ∧ s.onlyThread (s.advance o) o.core o.thread := by
  have hrun : s.onlyThread (s.modThread o.core o.thread fun x => { x with run := .run, held := none }) o.core o.thread :=
    s.modThread_onlyThread _ _ _
  have hok := (State.onlyThread_pcOk hrun ((s.thread o.core o.thread).pc + BitVec.ofNat 32 o.size)).trans hn
  unfold State.advance
  rw [State.goto_ok _ _ _ _ hok]
  exact ⟨by simp [Thread.past], State.onlyThread_trans hrun (State.modThread_onlyThread _ _ _ _)⟩

/-- A held instruction stalls its thread from the cycle of its issue on, and changes nothing else. -/
theorem State.hold_stalls (s : State) (o : Op) (why : Hold) (ev : Nat) :
    (s.hold o why ev).thread o.core o.thread = (s.thread o.core o.thread).holds o why (s.slotCycle o.core) ∧
      s.onlyThread (s.hold o why ev) o.core o.thread := by
  refine ⟨?_, State.onlyThread_trans (s.modThread_onlyThread _ _ _) (State.counted_onlyThread (State.coreEvent_counted _ _ _) _ _)⟩
  rw [State.hold, State.thread_counted (State.coreEvent_counted _ _ _)]
  simp [Thread.holds]

/-- Going on from a state that has the same issuing thread. -/
theorem State.leaves_advance {s t : State} {o : Op} (h : s.onlyThread t o.core o.thread)
    (hx : t.thread o.core o.thread = s.thread o.core o.thread) (hn : s.nextOk o) :
    s.leaves o ((s.thread o.core o.thread).past o) (.next (t.advance o)) := by
  obtain ⟨hpast, honly⟩ := t.advance_next o (State.nextOk_of_onlyThread h hx hn)
  exact ⟨_, rfl, by rw [hpast, hx], State.onlyThread_trans h honly⟩

/-- An instruction held at its issue is held from its issue cycle on. -/
theorem State.leaves_hold_issued (s : State) (o : Op) (why : Hold) (ev : Nat) :
    s.leaves o ((s.thread o.core o.thread).holds o why (s.issueCycle o.core)) (.next ((s.issued o).hold o why ev)) := by
  obtain ⟨hholds, honly⟩ := (s.issued o).hold_stalls o why ev
  exact ⟨_, rfl, by rw [hholds, s.issued_thread, s.slotCycle_issued], State.onlyThread_trans (s.issued_onlyThread o) honly⟩

/-- An instruction that issues and goes on. -/
theorem State.leaves_advance_issued (s : State) (o : Op) (hn : s.nextOk o) :
    s.leaves o ((s.thread o.core o.thread).past o) (.next ((s.issued o).advance o)) :=
  State.leaves_advance (s.issued_onlyThread o) (s.issued_thread o _) hn

theorem State.thread_progress (s : State) (d c n : Nat) : (s.progress d).thread c n = s.thread c n :=
  State.thread_congr (s.cores_progress d) c n

/-- A held instruction whose stall ends and that goes on. -/
theorem State.leaves_advance_progress (s : State) (o : Op) (hn : s.nextOk o) :
    s.leaves o ((s.thread o.core o.thread).past o) (.next ((s.progress o.core).advance o)) :=
  State.leaves_advance (s.progress_onlyThread _ _ _) (s.thread_progress _ _ _) hn

/-! ### Held instructions -/

/-- A core that issues finds the instruction that its thread holds. -/
theorem State.heldFor_of_held {s : State} {c t : Nat} {ok : Hold → Bool} {h : Held} (hh : (s.thread c t).held = some h)
    (hk : ok h.why = true) : s.heldFor c t ok = if s.coreIssues c = true then some h else none := by
  simp [State.heldFor, hh, hk]

end Sys2Proof.Machine
end

section
/-! PROOFS. HALT, FENCE.E, FENCE_RELEASE and COMMIT (R247, R268, R275, R280). -/

namespace Sys2Proof.Machine

/-- The fence waits when an engine of its mask has an incomplete instruction of the thread (R268). -/
theorem Core.fenceBusy_iff (k : Core) (t : Nat) (mask : BitVec 4) : k.fenceBusy t mask = true ↔
    ∃ b u, (b, u) ∈ [(3, 4), (2, 3), (1, 2), (0, 1)] ∧ mask.getLsbD b = true ∧ ∃ e ∈ k.outstandingIn u, e.op.thread = t := by
  simp only [Core.fenceBusy, Core.threadOut, bitAt, List.any_eq_true, Bool.and_eq_true, beq_iff_eq, Prod.exists]

/-- A field of one bit is that bit. -/
theorem fld_one_beq_one {n : Nat} (w : BitVec n) (i : Nat) : (fld w i 1 == 1) = bitAt w i := by
  rw [bitAt, BitVec.getLsbD, Nat.testBit_eq_decide_div_mod_eq]
  rfl

theorem exec_halt_of_issues {i : Ins} {s : State} (h : s.issues ⟨0x01, i⟩) : exec (.halt i) s =
    .next ((s.issued ⟨0x01, i⟩).modThread i.core i.thread fun x => { x with run := .halted, pc := x.pc + 8 }) :=
  congrArg _ (s.issue_of_issues ⟨0x01, i⟩ _ h)

theorem exec_fenceE_of_issues {i : Ins} {s : State} (h : s.issues ⟨0x03, i⟩) : exec (.fenceE i) s =
    .next (if (s.core i.core).fenceBusy i.thread (BitVec.ofNat 4 (fld i.bits 47 4)) then
      (s.issued ⟨0x03, i⟩).hold ⟨0x03, i⟩ (.fence (BitVec.ofNat 4 (fld i.bits 47 4))) 0xFF
      else (s.issued ⟨0x03, i⟩).advance ⟨0x03, i⟩) := by
  have hb : ((s.issued ⟨0x03, i⟩).core i.core).fenceBusy i.thread _ = (s.core i.core).fenceBusy i.thread _ :=
    State.onlyThread_fenceBusy (s.issued_onlyThread ⟨0x03, i⟩) i.thread (BitVec.ofNat 4 (fld i.bits 47 4))
  rw [← hb]
  exact congrArg _ (s.issue_of_issues ⟨0x03, i⟩ _ h)

theorem exec_fenceRelease_of_held {i : Ins} {s : State} {mask : BitVec 4} {n : Nat}
    (h : (s.thread i.core i.thread).held = some ⟨.fence mask, n, ⟨0x03, i⟩⟩) : exec (.fenceRelease i.core i.thread) s =
    .next (if s.coreIssues i.core = true ∧
        ¬ (s.core i.core).fenceBusy i.thread (BitVec.ofNat 4 (fld i.bits 47 4)) = true then
      (s.progress i.core).advance ⟨0x03, i⟩ else s) := by
  show execFenceRelease i.core i.thread s = _
  rw [execFenceRelease, State.heldFor_of_held h rfl]
  by_cases hc : s.coreIssues i.core = true
  · by_cases hb : (s.core i.core).fenceBusy i.thread (BitVec.ofNat 4 (fld i.bits 47 4)) = true <;> simp [hc, hb, Op.f]
  · simp [hc]

theorem exec_commit_of_issues {i : Ins} {s : State} {f l : Nat} (h : s.issues ⟨0x02, i⟩) (hs : s.serving i.core = some (f, l)) :
    exec (.commit i) s = .next (((s.issued ⟨0x02, i⟩).hold ⟨0x02, i⟩ .commit 0x06).modFlask f
      fun x => { x with notify := x.notify || bitAt i.bits 50 }) := by
  have hv : (s.issued ⟨0x02, i⟩).serving i.core = some (f, l) := (State.onlyThread_serving (s.issued_onlyThread ⟨0x02, i⟩)).trans hs
  rw [← fld_one_beq_one]
  refine (congrArg _ (s.issue_of_issues ⟨0x02, i⟩ _ h)).trans ?_
  simp only [Op.core, Op.f, hv]

/-- A HALT that issues halts its thread and changes nothing else. -/
theorem leaves_halt (i : Ins) (s : State) (h : s.issues ⟨0x01, i⟩) :
    s.leaves ⟨0x01, i⟩ { s.thread i.core i.thread with run := .halted, pc := (s.thread i.core i.thread).pc + 8 } (exec (.halt i) s) := by
  rw [exec_halt_of_issues h]
  refine ⟨_, rfl, ?_, State.onlyThread_trans (s.issued_onlyThread _) (State.modThread_onlyThread _ _ _ _)⟩
  have hx := s.issued_thread ⟨0x01, i⟩ i.thread
  simp only [Op.core, Op.thread] at hx ⊢
  rw [State.thread_modThread_self, hx]

/-- Remembering a NOTIFY after a change of thread `n`: the NOTIFY of flask `f` is the only thing that has changed beside it. -/
theorem State.modFlask_notify_frame {s v : State} {c n : Nat} (h : s.onlyThread v c n) (f : Nat) (b : Bool) :
    let t := v.modFlask f fun x => { x with notify := x.notify || b }
    (t.flask f).notify = ((s.flask f).notify || b) ∧
    { t.flask f with notify := false, lastProgress := 0 } = { s.flask f with notify := false, lastProgress := 0 } ∧
    t.rest = s.rest ∧ (∀ d, d ≠ c → t.core d = s.core d) ∧
    (∀ g, g ≠ f → { t.flask g with lastProgress := 0 } = { s.flask g with lastProgress := 0 }) ∧ s.sameBytes t ∧
    (t.core c).sansThreads = (s.core c).sansThreads ∧ ∀ u, u ≠ n → t.thread c u = s.thread c u := by
  obtain ⟨⟨hrest, hcores, hflasks, hbytes⟩, hcore, hthreads⟩ := h
  intro t
  have hf : t.flask f = { v.flask f with notify := (v.flask f).notify || b } := v.flask_modFlask_self f _
  have hnotify : (v.flask f).notify = (s.flask f).notify := (congrArg Flask.notify (hflasks f) :)
  refine ⟨?_, ?_, hrest, hcores, ?_, hbytes, hcore, hthreads⟩
  · rw [hf, ← hnotify]
  · rw [hf]
    exact (congrArg (fun x : Flask => { x with notify := false }) (hflasks f) :)
  · intro g hg
    rw [v.flask_modFlask_ne _ hg]
    exact hflasks g

/-- Settles O9: each row is taken to the state operation that it is (go on, hold, halt), whose frame lemma says the rest. -/
theorem orderingInstructionsHold : Obligations.OrderingInstructionsHold := by
  intro i s x mask busy
  have hbusy : (s.core i.core).fenceBusy i.thread mask = true ↔ busy := Core.fenceBusy_iff _ _ _
  refine ⟨leaves_halt i s, fun hi hn => ⟨fun hb => ?_, fun hb => ?_⟩, fun n hx hc hn hb => ?_, fun n hx hb => ?_, fun f l hi hs => ?_⟩
  · rw [exec_fenceE_of_issues hi, if_neg (mt hbusy.1 hb)]
    exact s.leaves_advance_issued ⟨0x03, i⟩ hn
  · rw [exec_fenceE_of_issues hi, if_pos (hbusy.2 hb)]
    exact s.leaves_hold_issued ⟨0x03, i⟩ _ _
  · rw [exec_fenceRelease_of_held hx, if_pos ⟨hc, mt hbusy.1 hb⟩]
    exact s.leaves_advance_progress ⟨0x03, i⟩ hn
  · rw [exec_fenceRelease_of_held hx, if_neg fun h => h.2 (hbusy.2 hb)]
  · obtain ⟨v, hv, hholds, honly⟩ := s.leaves_hold_issued ⟨0x02, i⟩ .commit 0x06
    cases hv
    obtain ⟨hnotify, hflask, hrest, hcores, hflasks, hbytes, hcore, hthreads⟩ := State.modFlask_notify_frame honly f (bitAt i.bits 50)
    exact ⟨_, exec_commit_of_issues hi hs, hholds, hnotify, hflask, hrest, hcores, hflasks, hbytes, hcore,
      fun u hu => hthreads u (Fin.val_ne_of_ne hu)⟩

end Sys2Proof.Machine
end

section
/-! PROOFS. TOKEN.WAIT and TOKEN.SIGNAL, and the ends of their stalls (R262, R263). -/

namespace Sys2Proof.Machine

@[simp] theorem Core.tokq_modTokq_self (k : Core) (q : Nat) (f : TokQ → TokQ) : (k.modTokq q f).tokq q = f (k.tokq q) :=
  Sparse.get_set_self _ _ _ _

theorem Core.tokq_modTokq_ne (k : Core) {q p : Nat} (f : TokQ → TokQ) (h : p ≠ q) : (k.modTokq q f).tokq p = k.tokq p :=
  Sparse.get_set_ne _ _ _ h

@[simp] theorem Core.thread_modTokq (k : Core) (q : Nat) (f : TokQ → TokQ) (t : Nat) : (k.modTokq q f).thread t = k.thread t := rfl

/-- Whether a consumer is served first, said of the waiters (R263). -/
theorem Core.servedFirst_iff (k : Core) (q ticket rank : Nat) : k.servedFirst q ticket rank = true ↔
    ∀ w ∈ k.waiters q, ticket < w.1 ∨ (ticket = w.1 ∧ rank ≤ w.2) := by
  simp [Core.servedFirst]

theorem Core.placesFor_iff (k : Core) (q n : Nat) :
    k.placesFor q n = true ↔ (k.tokq q).count + (k.tokq q).reserved + n ≤ 32 :=
  decide_eq_true_iff

/-- The outcome is a next state in which `o` is past, its core's queue `q` counts `m` tokens, and nothing else has changed. -/
def State.countsTokens (s : State) (o : Op) (q m : Nat) (out : Host.Outcome State Fault Refusal) : Prop :=
  ∃ t, out = .next t ∧ t.thread o.core o.thread = (s.thread o.core o.thread).past o ∧ s.onlyCore t o.core ∧
    (t.core o.core).tokq q = ⟨m, ((s.core o.core).tokq q).reserved⟩ ∧
    (∀ p, p ≠ q → (t.core o.core).tokq p = (s.core o.core).tokq p) ∧
    (t.core o.core).sansThreads.modRec (fun r => { r with tokq := [] }) =
      (s.core o.core).sansThreads.modRec (fun r => { r with tokq := [] }) ∧
    ∀ u : Fin 16, u ≠ o.ins.thread → t.thread o.core u = s.thread o.core u

/-- Changing the count of a token queue and going on, from a state that has the same issuing thread. -/
theorem State.countsTokens_modTokq {s v : State} {o : Op} {q m : Nat} {g : TokQ → TokQ} (h : s.onlyThread v o.core o.thread)
    (hx : v.thread o.core o.thread = s.thread o.core o.thread) (hn : s.nextOk o)
    (hg : g ((s.core o.core).tokq q) = ⟨m, ((s.core o.core).tokq q).reserved⟩) :
    s.countsTokens o q m (.next ((v.modCore o.core fun k => k.modTokq q g).advance o)) := by
  have hq := State.onlyThread_tokq h
  obtain ⟨hcore, hsans, hthreads⟩ := h
  let w := v.modCore o.core fun k => k.modTokq q g
  have hwcore : w.core o.core = (v.core o.core).modTokq q g := v.core_modCore_self _ _
  have hwthread : ∀ u, w.thread o.core u = v.thread o.core u := fun u => by simp [State.thread, hwcore]
  have hwok : w.nextOk o := by
    unfold State.nextOk
    rw [hwthread, State.pcOk_congr (s := v) (t := w) o.core _ rfl (by rw [hwcore]; rfl)]
    exact State.nextOk_of_onlyThread ⟨hcore, hsans, hthreads⟩ hx hn
  obtain ⟨hpast, honly⟩ := w.advance_next o hwok
  refine ⟨_, rfl, by rw [hpast, hwthread, hx], State.onlyCore_trans hcore (State.onlyCore_trans (v.modCore_onlyCore _ _) honly.1),
    ?_, fun p hp => ?_, ?_, fun u hu => ?_⟩
  · rw [State.onlyThread_tokq honly, hwcore, Core.tokq_modTokq_self, hq, hg]
  · rw [State.onlyThread_tokq honly, hwcore, Core.tokq_modTokq_ne _ _ hp, hq]
  · rw [honly.2.1, hwcore]
    exact (congrArg (fun k : Core => k.modRec fun r => { r with tokq := [] }) hsans :)
  · rw [honly.2.2 u (Fin.val_ne_of_ne hu), hwthread, hthreads u (Fin.val_ne_of_ne hu)]

theorem State.countsTokens_tokenTake {s v : State} {o : Op} (h : s.onlyThread v o.core o.thread)
    (hx : v.thread o.core o.thread = s.thread o.core o.thread) (hn : s.nextOk o) :
    s.countsTokens o (o.f 45 6) (((s.core o.core).tokq (o.f 45 6)).count - o.f 39 6) (.next (v.tokenTake o)) :=
  State.countsTokens_modTokq h hx hn rfl

theorem State.countsTokens_tokenPut {s v : State} {o : Op} (h : s.onlyThread v o.core o.thread)
    (hx : v.thread o.core o.thread = s.thread o.core o.thread) (hn : s.nextOk o) :
    s.countsTokens o (o.f 45 6) (((s.core o.core).tokq (o.f 45 6)).count + o.f 39 6) (.next (v.tokenPut o)) :=
  State.countsTokens_modTokq h hx hn rfl

theorem exec_tokenWait_of_issues {i : Ins} {s : State} (h : s.issues ⟨0x06, i⟩) : exec (.tokenWait i) s =
    .next (if fld i.bits 39 6 ≤ ((s.core i.core).tokq (fld i.bits 45 6)).count ∧
        (s.core i.core).servedFirst (fld i.bits 45 6) (s.issueCycle i.core) (4 + i.thread) = true then
      (s.issued ⟨0x06, i⟩).tokenTake ⟨0x06, i⟩
      else (s.issued ⟨0x06, i⟩).hold ⟨0x06, i⟩ (.tokenWait (fld i.bits 45 6) (fld i.bits 39 6)) 0x04) := by
  refine (congrArg _ (s.issue_of_issues ⟨0x06, i⟩ _ h)).trans ?_
  dsimp only
  rw [State.onlyThread_tokq (s.issued_onlyThread _), State.servedFirst_issued, State.slotCycle_issued]
  rfl

theorem exec_tokenSignal_of_issues {i : Ins} {s : State} (h : s.issues ⟨0x07, i⟩) : exec (.tokenSignal i) s =
    .next (if (s.core i.core).placesFor (fld i.bits 45 6) (fld i.bits 39 6) = true then (s.issued ⟨0x07, i⟩).tokenPut ⟨0x07, i⟩
      else (s.issued ⟨0x07, i⟩).hold ⟨0x07, i⟩ (.signalPlace (fld i.bits 45 6) (fld i.bits 39 6)) 0x04) := by
  refine (congrArg _ (s.issue_of_issues ⟨0x07, i⟩ _ h)).trans ?_
  rw [State.onlyThread_placesFor (s.issued_onlyThread _)]
  rfl

theorem exec_tokenWaitSatisfied_of_held {i : Ins} {s : State} {q n m : Nat}
    (h : (s.thread i.core i.thread).held = some ⟨.tokenWait q n, m, ⟨0x06, i⟩⟩) : exec (.tokenWaitSatisfied i.core i.thread) s =
    .next (if s.coreIssues i.core = true ∧ fld i.bits 39 6 ≤ ((s.core i.core).tokq (fld i.bits 45 6)).count ∧
        (s.core i.core).servedFirst (fld i.bits 45 6) m (4 + i.thread) = true then
      (s.progress i.core).tokenTake ⟨0x06, i⟩ else s) := by
  show execTokenWaitSatisfied i.core i.thread s = _
  rw [execTokenWaitSatisfied, State.heldFor_of_held h rfl]
  by_cases hc : s.coreIssues i.core = true
  · simp only [hc, if_true, true_and]
    rfl
  · simp [hc]

theorem exec_tokenPlaceIssue_of_held {i : Ins} {s : State} {q n m : Nat}
    (h : (s.thread i.core i.thread).held = some ⟨.signalPlace q n, m, ⟨0x07, i⟩⟩) (hc : s.coreIssues i.core = true) :
    exec (.tokenPlaceIssue i.core i.thread) s =
    .next (if (s.core i.core).placesFor (fld i.bits 45 6) (fld i.bits 39 6) = true then (s.progress i.core).tokenPut ⟨0x07, i⟩
      else s) := by
  show execTokenPlaceIssue i.core i.thread s = _
  rw [execTokenPlaceIssue, State.heldFor_of_held h rfl, if_pos hc]
  rfl

/-- Settles O11: each row is taken to the state operation that it is (take, put, hold), under the condition that the statement
names; one frame lemma says what a changed count leaves. -/
theorem tokensMove : Obligations.TokensMove := by
  intro i s x k q n moved first
  have hfirst : ∀ ticket, k.servedFirst q ticket (4 + i.thread) = true ↔ first ticket := fun _ => Core.servedFirst_iff _ _ _ _
  have hplaces : k.placesFor q n = true ↔ (k.tokq q).count + (k.tokq q).reserved + n ≤ 32 := k.placesFor_iff q n
  refine ⟨fun hi hn => ⟨fun hw => ?_, fun hw => ?_⟩, fun m hx hc hn hcount hf => ?_, fun m hx hcount => ?_,
    fun hi hn => ⟨fun hp => ?_, fun hp => ?_⟩, fun m hx hc hn hp => ?_, fun m hx hc hp => ?_⟩
  · rw [exec_tokenWait_of_issues hi, if_pos ⟨hw.1, (hfirst _).2 hw.2⟩]
    exact State.countsTokens_tokenTake (s.issued_onlyThread _) (s.issued_thread _ _) hn
  · rw [exec_tokenWait_of_issues hi, if_neg fun h => hw ⟨h.1, (hfirst _).1 h.2⟩]
    exact s.leaves_hold_issued ⟨0x06, i⟩ _ _
  · rw [exec_tokenWaitSatisfied_of_held hx, if_pos ⟨hc, hcount, (hfirst m).2 hf⟩]
    exact State.countsTokens_tokenTake (o := ⟨0x06, i⟩) (s.progress_onlyThread _ _ _) (s.thread_progress _ _ _) hn
  · rw [exec_tokenWaitSatisfied_of_held hx, if_neg fun h => Nat.not_le.2 hcount h.2.1]
  · rw [exec_tokenSignal_of_issues hi, if_pos (hplaces.2 hp)]
    exact State.countsTokens_tokenPut (s.issued_onlyThread _) (s.issued_thread _ _) hn
  · rw [exec_tokenSignal_of_issues hi, if_neg fun h => Nat.not_le.2 hp (hplaces.1 h)]
    exact s.leaves_hold_issued ⟨0x07, i⟩ _ _
  · rw [exec_tokenPlaceIssue_of_held hx hc, if_pos (hplaces.2 hp)]
    exact State.countsTokens_tokenPut (o := ⟨0x07, i⟩) (s.progress_onlyThread _ _ _) (s.thread_progress _ _ _) hn
  · rw [exec_tokenPlaceIssue_of_held hx hc, if_neg fun h => Nat.not_le.2 hp (hplaces.1 h)]

end Sys2Proof.Machine
end

section
/-! PROOFS. The issue of an engine instruction: its place in its signal queue and its entry in its engine's queue (R252, R258,
R289). -/

namespace Sys2Proof.Machine

/-! ### The parts of a core that an entry changes -/

/-- The queue of unit `u`: 1 LME, 2 TE, 3 VE, 4 stream engine. -/
def Core.queue (k : Core) (u : Nat) : List QEnt := if u = 4 then k.se.queue else (k.engine u).queue

/-- Reserve a place in the signal queue of `o`, where it signals one (R258). -/
def Core.promise (k : Core) (o : Op) : Core :=
  if o.sen then k.modTokq o.sq (fun q => { q with reserved := q.reserved + 1 }) else k

/-- Put an entry behind what waits in the queue of unit `u`; one that finds the queue empty waits for its token from cycle `n`
on (R252, R263). -/
def Core.addEntry (k : Core) (u : Nat) (e : QEnt) (n : Nat) : Core :=
  if u = 4 then { k with se := { k.se with queue := k.se.queue ++ [e], ticket := if k.se.queue = [] then n else k.se.ticket } }
  else
    let g := k.engine u
    k.setEngine u { g with queue := g.queue ++ [e], ticket := if g.queue = [] then n else g.ticket }

@[simp] theorem Core.thread_promise (k : Core) (o : Op) (t : Nat) : (k.promise o).thread t = k.thread t := by
  unfold Core.promise
  split <;> rfl

@[simp] theorem Core.serves_promise (k : Core) (o : Op) : (k.promise o).serves = k.serves := by
  unfold Core.promise
  split <;> rfl

@[simp] theorem Core.queue_promise (k : Core) (o : Op) (u : Nat) : (k.promise o).queue u = k.queue u := by
  unfold Core.promise
  split <;> rfl

@[simp] theorem Core.sansQueues_promise (k : Core) (o : Op) : (k.promise o).sansQueues = k.sansQueues := by
  unfold Core.promise
  split <;> rfl

theorem Core.tokq_promise (k : Core) (o : Op) (q : Nat) : (k.promise o).tokq q =
    if o.sen = true ∧ q = o.sq then ⟨(k.tokq q).count, (k.tokq q).reserved + 1⟩ else k.tokq q := by
  unfold Core.promise
  by_cases hs : o.sen = true
  · by_cases hq : q = o.sq
    · simp [hs, hq]
    · simp [hs, hq, Core.tokq_modTokq_ne]
  · simp [hs]

@[simp] theorem Core.arch_setEngine (k : Core) (u : Nat) (g : Engine) : (k.setEngine u g).arch = k.arch := by
  unfold Core.setEngine
  split_ifs <;> rfl

@[simp] theorem Core.serves_setEngine (k : Core) (u : Nat) (g : Engine) : (k.setEngine u g).serves = k.serves := by
  unfold Core.setEngine
  split_ifs <;> rfl

@[simp] theorem Core.arch_addEntry (k : Core) (u : Nat) (e : QEnt) (n : Nat) : (k.addEntry u e n).arch = k.arch := by
  unfold Core.addEntry
  split
  · rfl
  · exact k.arch_setEngine _ _

@[simp] theorem Core.serves_addEntry (k : Core) (u : Nat) (e : QEnt) (n : Nat) : (k.addEntry u e n).serves = k.serves := by
  unfold Core.addEntry
  split
  · rfl
  · exact k.serves_setEngine _ _

@[simp] theorem Core.thread_addEntry (k : Core) (u : Nat) (e : QEnt) (n t : Nat) : (k.addEntry u e n).thread t = k.thread t := by
  rw [Core.thread, Core.arch_addEntry, Core.thread]

@[simp] theorem Core.tokq_addEntry (k : Core) (u : Nat) (e : QEnt) (n q : Nat) : (k.addEntry u e n).tokq q = k.tokq q := by
  rw [Core.tokq, Core.arch_addEntry, Core.tokq]

@[simp] theorem Core.sansQueues_addEntry (k : Core) (u : Nat) (e : QEnt) (n : Nat) :
    (k.addEntry u e n).sansQueues = k.sansQueues := by
  unfold Core.addEntry Core.setEngine Core.engine
  split_ifs <;> rfl

theorem Core.queue_addEntry_self (k : Core) (u : Nat) (e : QEnt) (n : Nat) : (k.addEntry u e n).queue u = k.queue u ++ [e] := by
  unfold Core.addEntry Core.queue Core.setEngine Core.engine
  split_ifs <;> rfl

theorem Core.queue_addEntry_ne (k : Core) {u v : Nat} (hu : u ∈ [1, 2, 3, 4]) (hv : v ∈ [1, 2, 3, 4]) (h : v ≠ u) (e : QEnt)
    (n : Nat) : (k.addEntry u e n).queue v = k.queue v := by
  simp only [List.mem_cons, List.not_mem_nil, or_false] at hu hv
  obtain rfl | rfl | rfl | rfl := hu <;> obtain rfl | rfl | rfl | rfl := hv <;>
    simp [Core.addEntry, Core.queue, Core.setEngine, Core.engine] at h ⊢

/-! ### The entry of an instruction -/

/-- What `o` enters its engine's queue as, in cycle `n`: with its PC and the scalar values it names (R289). -/
def State.entryOf (s : State) (o : Op) (n : Nat) : QEnt :=
  let x := s.thread o.core o.thread
  ⟨o, x.pc, (readRegs o).map x.reg, n⟩

/-- The state in which `o` has entered its queue and has not yet gone on. -/
def State.entered (s : State) (o : Op) : State :=
  (s.modThread o.core o.thread fun x => { x with busy := x.busy ++ writeRegs o }).modCore o.core fun k =>
    (k.promise o).addEntry (unitOf o.code) (s.entryOf o (s.slotCycle o.core)) (s.slotCycle o.core)

theorem State.enqueue_eq (s : State) (o : Op) : s.enqueue o = (s.entered o).advance o := rfl

theorem State.core_entered (s : State) (o : Op) : (s.entered o).core o.core =
    (((s.core o.core).setThread o.thread
        { s.thread o.core o.thread with busy := (s.thread o.core o.thread).busy ++ writeRegs o }).promise o).addEntry
      (unitOf o.code) (s.entryOf o (s.slotCycle o.core)) (s.slotCycle o.core) := by
  rw [State.entered, State.core_modCore_self, State.modThread, State.setThread, State.core_modCore_self]

theorem State.entered_onlyCore (s : State) (o : Op) : s.onlyCore (s.entered o) o.core :=
  State.onlyCore_trans (s.modThread_onlyThread _ _ _).1 (State.modCore_onlyCore _ _ _)

theorem State.thread_entered_self (s : State) (o : Op) : (s.entered o).thread o.core o.thread =
    { s.thread o.core o.thread with busy := (s.thread o.core o.thread).busy ++ writeRegs o } := by
  simp [State.thread, State.core_entered]

theorem State.thread_entered_ne (s : State) (o : Op) {u : Nat} (hu : u ≠ o.thread) :
    (s.entered o).thread o.core u = s.thread o.core u := by
  simp [State.thread, State.core_entered, Core.thread_setThread_ne _ _ hu]

/-- Entering a queue changes nothing on which the check of the next PC rests. -/
theorem State.nextOk_entered {s : State} {o : Op} (hn : s.nextOk o) : (s.entered o).nextOk o := by
  have hserves : ((s.entered o).core o.core).serves = (s.core o.core).serves := by
    rw [State.core_entered, Core.serves_addEntry, Core.serves_promise]
    rfl
  rw [State.nextOk, State.thread_entered_self]
  exact (State.pcOk_congr (s := s) (t := s.entered o) o.core _ rfl hserves).trans hn

theorem State.onlyThread_queue {s t : State} {c n : Nat} (h : s.onlyThread t c n) (u : Nat) :
    (t.core c).queue u = (s.core c).queue u :=
  (congrArg (fun k : Core => k.queue u) h.2.1 :)

theorem State.onlyThread_sansQueues {s t : State} {c n : Nat} (h : s.onlyThread t c n) :
    (t.core c).sansQueues = (s.core c).sansQueues :=
  (congrArg Core.sansQueues h.2.1 :)

/-- From `s` to `t` the instruction `o` has entered its engine's queue in cycle `n`, and its thread has gone on. -/
structure State.queued (s t : State) (o : Op) (n : Nat) : Prop where
  own : (t.core o.core).queue (unitOf o.code) = (s.core o.core).queue (unitOf o.code) ++ [s.entryOf o n]
  others : ∀ u ∈ [1, 2, 3, 4], u ≠ unitOf o.code → (t.core o.core).queue u = (s.core o.core).queue u
  thread : t.thread o.core o.thread =
    { (s.thread o.core o.thread).past o with busy := (s.thread o.core o.thread).busy ++ writeRegs o }
  threads : ∀ u, u ≠ o.thread → t.thread o.core u = s.thread o.core u
  tokens : ∀ q, (t.core o.core).tokq q = if o.sen = true ∧ q = o.sq then
    ⟨((s.core o.core).tokq q).count, ((s.core o.core).tokq q).reserved + 1⟩ else (s.core o.core).tokq q
  core : (t.core o.core).sansQueues = (s.core o.core).sansQueues
  frame : s.onlyCore t o.core

/-- An engine has a unit of its own (Table 9-3). -/
theorem unitOf_mem {opc : Nat} (h : unitOf opc ≠ 0) : unitOf opc ∈ [1, 2, 3, 4] := by
  unfold unitOf at h ⊢
  split_ifs at h ⊢ <;> simp at h ⊢

/-- An engine instruction that enters its queue goes on, and leaves the rest of the core and all else as it was. -/
theorem State.queued_enqueue (s : State) {o : Op} (hu : unitOf o.code ≠ 0) (hn : s.nextOk o) :
    s.queued (s.enqueue o) o (s.slotCycle o.core) := by
  obtain ⟨hpast, honly⟩ := (s.entered o).advance_next o (State.nextOk_entered hn)
  rw [State.enqueue_eq]
  constructor
  case own =>
    rw [State.onlyThread_queue honly, State.core_entered, Core.queue_addEntry_self, Core.queue_promise]
    rfl
  case others =>
    intro u hmem hne
    rw [State.onlyThread_queue honly, State.core_entered, Core.queue_addEntry_ne _ (unitOf_mem hu) hmem hne, Core.queue_promise]
    rfl
  case thread =>
    rw [hpast, State.thread_entered_self]
    rfl
  case threads => exact fun u hne => (honly.2.2 u hne).trans (s.thread_entered_ne o hne)
  case tokens =>
    intro q
    rw [State.onlyThread_tokq honly, State.core_entered, Core.tokq_addEntry, Core.tokq_promise]
    rfl
  case core =>
    rw [State.onlyThread_sansQueues honly, State.core_entered, Core.sansQueues_addEntry, Core.sansQueues_promise]
    rfl
  case frame => exact State.onlyCore_trans (s.entered_onlyCore o) honly.1

/-- An instruction that enters its queue from a state with the same issuing thread, in which only that thread may differ. -/
theorem State.queued_of_onlyThread {s v t : State} {o : Op} {n : Nat} (h : s.onlyThread v o.core o.thread)
    (hx : v.thread o.core o.thread = s.thread o.core o.thread) (hq : v.queued t o n) : s.queued t o n := by
  obtain ⟨own, others, thread, threads, tokens, core, frame⟩ := hq
  have hentry : v.entryOf o n = s.entryOf o n := by rw [State.entryOf, hx, State.entryOf]
  constructor
  case own => rw [own, State.onlyThread_queue h, hentry]
  case others => exact fun u hmem hne => (others u hmem hne).trans (State.onlyThread_queue h u)
  case thread => rw [thread, hx]
  case threads => exact fun u hne => (threads u hne).trans (h.2.2 u hne)
  case tokens => exact fun q => by rw [tokens, State.onlyThread_tokq h]
  case core => exact core.trans (State.onlyThread_sansQueues h)
  case frame => exact State.onlyCore_trans h.1 frame

/-- An instruction that issues enters its queue in its issue cycle. -/
theorem State.queued_issued (s : State) {o : Op} (hu : unitOf o.code ≠ 0) (hn : s.nextOk o) :
    s.queued ((s.issued o).enqueue o) o (s.issueCycle o.core) := by
  have honly := s.issued_onlyThread o
  have hthread := s.issued_thread o o.thread
  rw [← State.slotCycle_issued]
  exact State.queued_of_onlyThread honly hthread
    ((s.issued o).queued_enqueue hu (State.nextOk_of_onlyThread honly hthread hn))

/-! ### The rows of the engines -/

/-- An opcode that the checks at issue let pass is listed (R292). -/
theorem opcodeListed_of_issueFault {o : Op} {declared : Bool} (h : issueFault o declared = none) : opcodeListed o.code = true := by
  by_contra hl
  rw [Bool.not_eq_true] at hl
  simp [issueFault, decodeOk, hl] at h

/-- Every engine's row is the issue of its instruction into its queue (R252). -/
theorem exec_of_engine_row {c : Instr} {o : Op} (h : c.asOp = some o) (hu : unitOf o.code ≠ 0) (hl : opcodeListed o.code = true)
    (s : State) : exec c s = .next (s.issue o fun v => v.enqueue o) := by
  cases c with
  | lmm | lmmRes2 | lmmRes4 | lmmRes8 | lmmRr | tcfg | tzero | tmove
  | ntt | intt | auto | vchain | vred | mred | rescale
  | ld | ldS | ldH | ldC | stS | stH | ldt | stt | gather | scatter | rput | rget | radd | fill | cksum | kexp =>
    cases h
    rfl
  | vhistArm | vhistClear | vhistRead =>
    obtain ⟨hform, ⟨⟩⟩ := Option.ite_none_right_eq_some.1 h
    exact congrArg _ (if_pos hform)
  | undefinedOpcodeIssue op i =>
    obtain ⟨hunlisted, ⟨⟩⟩ := Option.ite_none_left_eq_some.1 h
    exact absurd hl hunlisted
  -- Every other row is the sequencer's, or stands for no instruction word.
  | _ => cases h <;> exact absurd rfl hu

/-- Settles O12: the row issues its instruction into its queue, and the frame of entering a queue says the rest. -/
theorem engineInstructionsEnterTheirQueue : Obligations.EngineInstructionsEnterTheirQueue := by
  intro c o s hc hu hi hn
  have hl : opcodeListed o.code = true := by
    obtain ⟨_, _, _, hfault, _⟩ := hi
    exact opcodeListed_of_issueFault hfault
  obtain ⟨own, others, thread, threads, tokens, core, frame⟩ := s.queued_issued hu hn
  have hexec : exec c s = .next ((s.issued o).enqueue o) :=
    (exec_of_engine_row hc hu hl s).trans (congrArg _ (s.issue_of_issues o _ hi))
  exact ⟨_, hexec, own, others, thread, threads, tokens, core, frame⟩

end Sys2Proof.Machine
end

section
/-! PROOFS. Every command and every tick keeps the canonical form of memory and takes nothing else from the queue: one lemma for
each operation of the model, each by the lemmas of the operations that it is made of. -/

set_option Elab.async false
set_option tactic.hygienic false
/- Matches reduce to case distinctions here, so that the lemmas about those apply to them. -/
set_option smartUnfolding false

namespace Sys2Proof.Machine

/-- From `s` to `t` the sound parts of the state stay sound, and the queue of commands stays. -/
def State.Keeps (s t : State) : Prop := (s.sound → t.sound) ∧ t.pending = s.pending

/-- A next state that keeps memory sound and the queue. -/
def State.KeepsOut (s : State) (out : Host.Outcome State Fault Refusal) : Prop := ∃ t, out = .next t ∧ s.Keeps t

/-- The state that an operation answers, where it answers one, keeps memory sound and the queue. -/
def State.KeepsOpt (s : State) (o : Option State) : Prop := ∀ t, o = some t → s.Keeps t

/-- The state that an operation answers, where it answers no status, keeps memory sound and the queue. -/
def State.KeepsOk (s : State) (o : Except (BitVec 8) State) : Prop := ∀ t, o = .ok t → s.Keeps t

/-- What of a state says whether its memory is sound, with its queue. -/
noncomputable def State.kept (s : State) := (s.pending, s.mem, s.work, s.lost, s.workLost, s.foreign, s.cnt.wins)

/-! ### What holds of every alternative of a match holds of the match -/

theorem optionCases {α β : Type} (Q : β → Prop) {o : Option α} {a : β} {b : α → β} (ha : Q a) (hb : ∀ x, Q (b x)) :
    Q (Option.casesOn (motive := fun _x => β) o a b) := by
  cases o with
  | none => exact ha
  | some x => exact hb x

theorem boolCases {β : Type} (Q : β → Prop) {o : Bool} {a b : β} (ha : Q a) (hb : Q b) :
    Q (Bool.casesOn (motive := fun _x => β) o a b) := by
  cases o <;> assumption

theorem listCases {α β : Type} (Q : β → Prop) {l : List α} {a : β} {b : α → List α → β} (ha : Q a) (hb : ∀ x r, Q (b x r)) :
    Q (List.casesOn (motive := fun _x => β) l a b) := by
  cases l with
  | nil => exact ha
  | cons x r => exact hb x r

theorem exceptCases {ε α β : Type} (Q : β → Prop) {o : Except ε α} {a : ε → β} {b : α → β} (ha : ∀ x, Q (a x)) (hb : ∀ x, Q
    (b x)) :
    Q (Except.casesOn (motive := fun _x => β) o a b) := by
  cases o with
  | error x => exact ha x
  | ok x => exact hb x

theorem litCases {β : Type} (Q : β → Prop) {n k : Nat} {a : β} {b : ¬ n = k → β} (ha : Q a) (hb : ∀ h, Q (b h)) :
    Q (dite (n = k) (Eq.ndrec_symm (motive := fun _x => β) a) b) := by
  by_cases h : n = k
  · subst h
    rw [dif_pos rfl]
    exact ha
  · rw [dif_neg h]
    exact hb h

theorem numCases {β : Type} (Q : β → Prop) {o : Num} {a : Bool → Nat → Int → β} {b : Bool → β} {c : β} (ha : ∀ x y z, Q (a x y z))
    (hb : ∀ x, Q (b x)) (hc : Q c) : Q (Num.casesOn (motive := fun _x => β) o a b c) := by
  cases o with
  | fin x y z => exact ha x y z
  | inf x => exact hb x
  | nan => exact hc

theorem eccCases {β : Type} (Q : β → Prop) {o : EccFind} {a : β} {b : β} {c : β} (ha : Q a) (hb : Q b) (hc : Q c) :
    Q (EccFind.casesOn (motive := fun _x => β) o a b c) := by
  cases o with
  | clean => exact ha
  | corrected => exact hb
  | uncorrectable => exact hc

theorem bufCases {β : Type} (Q : β → Prop) {o : BufAt} {a : Nat → Nat → β} {b : Nat → Nat → β} {c : Nat → Nat → β} {d : β}
    (ha : ∀ x y, Q (a x y)) (hb : ∀ x y, Q (b x y)) (hc : ∀ x y, Q (c x y)) (hd : Q d) :
    Q (BufAt.casesOn (motive := fun _x => β) o a b c d) := by
  cases o with
  | tile x y => exact ha x y
  | digits x y => exact hb x y
  | buffer x y => exact hc x y
  | nothing => exact hd

theorem verdictCases {β : Type} (Q : β → Prop) {o : Verdict} {a : β} {b : β} {c : β} (ha : Q a) (hb : Q b) (hc : Q c) :
    Q (Verdict.casesOn (motive := fun _x => β) o a b c) := by
  cases o with
  | accept => exact ha
  | reject => exact hb
  | broken => exact hc

theorem stageSparse {β : Type} (Q : β → Prop) {m : Nat} {t : PStage} {e : Nat.hasNotBit m (PStage.ctorIdx t) → β} {a :
    (Nat.hasNotBit m (PStage.ctorIdx PStage.idle) → β) → β} {b : (Nat.hasNotBit m (PStage.ctorIdx PStage.loading) → β) → β}
    {c : (Nat.hasNotBit m (PStage.ctorIdx PStage.running) → β) → β} {d : (x : StopWhy) → (Nat.hasNotBit m (PStage.ctorIdx
    (PStage.stopping x)) → β) → β} {f : (Nat.hasNotBit m (PStage.ctorIdx PStage.copying) → β) → β}
    (he : ∀ p, Q (e p)) (ha : ∀ (e : Nat.hasNotBit m (PStage.ctorIdx PStage.idle) → β), (∀ p, Q (e p)) → Q (a e)) (hb : ∀
        (e : Nat.hasNotBit m (PStage.ctorIdx PStage.loading) → β), (∀ p, Q (e p)) → Q (b e)) (hc : ∀ (e : Nat.hasNotBit m
        (PStage.ctorIdx PStage.running) → β), (∀ p, Q (e p)) → Q (c e)) (hd : ∀ (x : StopWhy) (e : Nat.hasNotBit m
        (PStage.ctorIdx (PStage.stopping x)) → β), (∀ p, Q (e p)) → Q (d x e)) (hf : ∀ (e : Nat.hasNotBit m
        (PStage.ctorIdx PStage.copying) → β), (∀ p, Q (e p)) → Q (f e)) :
    Q (PStage.rec (motive := fun t => (Nat.hasNotBit m (PStage.ctorIdx t) → β) → β) a b c d f t e) := by
  cases t with
  | idle => exact ha e he
  | loading => exact hb e he
  | running => exact hc e he
  | stopping x => exact hd x e he
  | copying => exact hf e he

theorem stopSparse {β : Type} (Q : β → Prop) {m : Nat} {t : StopWhy} {e : Nat.hasNotBit m (StopWhy.ctorIdx t) → β} {a :
    (Nat.hasNotBit m (StopWhy.ctorIdx StopWhy.fault) → β) → β} {b : (Nat.hasNotBit m (StopWhy.ctorIdx StopWhy.abort) → β) → β}
    {c : (Nat.hasNotBit m (StopWhy.ctorIdx StopWhy.reset) → β) → β} {d : (Nat.hasNotBit m
    (StopWhy.ctorIdx StopWhy.recover) → β) → β} {f : (Nat.hasNotBit m (StopWhy.ctorIdx StopWhy.thermal) → β) → β}
    (he : ∀ p, Q (e p)) (ha : ∀ (e : Nat.hasNotBit m (StopWhy.ctorIdx StopWhy.fault) → β), (∀ p, Q (e p)) → Q (a e)) (hb : ∀
    (e : Nat.hasNotBit m (StopWhy.ctorIdx StopWhy.abort) → β), (∀ p, Q (e p)) → Q (b e)) (hc : ∀ (e : Nat.hasNotBit m
    (StopWhy.ctorIdx StopWhy.reset) → β), (∀ p, Q (e p)) → Q (c e)) (hd : ∀ (e : Nat.hasNotBit m
    (StopWhy.ctorIdx StopWhy.recover) → β), (∀ p, Q (e p)) → Q (d e)) (hf : ∀ (e : Nat.hasNotBit m
        (StopWhy.ctorIdx StopWhy.thermal) → β), (∀ p, Q (e p)) → Q (f e)) :
    Q (StopWhy.rec (motive := fun t => (Nat.hasNotBit m (StopWhy.ctorIdx t) → β) → β) a b c d f t e) := by
  cases t with
  | fault => exact ha e he
  | abort => exact hb e he
  | reset => exact hc e he
  | recover => exact hd e he
  | thermal => exact hf e he

theorem needSparse {β : Type} (Q : β → Prop) {m : Nat} {t : Need} {e : Nat.hasNotBit m (Need.ctorIdx t) → β} {a :
    (Nat.hasNotBit m (Need.ctorIdx Need.wait) → β) → β} {b : (Nat.hasNotBit m (Need.ctorIdx Need.skip) → β) → β} {c :
    (x : BitVec 8) → (Nat.hasNotBit m (Need.ctorIdx (Need.bad x)) → β) → β} {d : (x : Acc) → (Nat.hasNotBit m (Need.ctorIdx
    (Need.acc x)) → β) → β}
    (he : ∀ p, Q (e p)) (ha : ∀ (e : Nat.hasNotBit m (Need.ctorIdx Need.wait) → β), (∀ p, Q (e p)) → Q (a e)) (hb : ∀
        (e : Nat.hasNotBit m (Need.ctorIdx Need.skip) → β), (∀ p, Q (e p)) → Q (b e)) (hc : ∀ (x : BitVec 8)
        (e : Nat.hasNotBit m (Need.ctorIdx (Need.bad x)) → β), (∀ p, Q (e p)) → Q (c x e)) (hd : ∀ (x : Acc)
        (e : Nat.hasNotBit m (Need.ctorIdx (Need.acc x)) → β), (∀ p, Q (e p)) → Q (d x e)) :
    Q (Need.rec (motive := fun t => (Nat.hasNotBit m (Need.ctorIdx t) → β) → β) a b c d t e) := by
  cases t with
  | wait => exact ha e he
  | skip => exact hb e he
  | bad x => exact hc x e he
  | acc x => exact hd x e he

theorem ownSparse {β : Type} (Q : β → Prop) {m : Nat} {t : OwnMem} {e : Nat.hasNotBit m (OwnMem.ctorIdx t) → β} {a :
    (x : Fin 64) → (Nat.hasNotBit m (OwnMem.ctorIdx (OwnMem.tiles x)) → β) → β} {b : (x : Fin 64) → (Nat.hasNotBit m
    (OwnMem.ctorIdx (OwnMem.tables x)) → β) → β} {c : (Nat.hasNotBit m (OwnMem.ctorIdx OwnMem.mouldBanks) → β) → β} {d :
    (Nat.hasNotBit m (OwnMem.ctorIdx OwnMem.commandMemory) → β) → β} {f : (Nat.hasNotBit m
    (OwnMem.ctorIdx OwnMem.eventQueue) → β) → β}
    (he : ∀ p, Q (e p)) (ha : ∀ (x : Fin 64) (e : Nat.hasNotBit m (OwnMem.ctorIdx (OwnMem.tiles x)) → β), (∀ p, Q (e p)) → Q
        (a x e)) (hb : ∀ (x : Fin 64) (e : Nat.hasNotBit m (OwnMem.ctorIdx (OwnMem.tables x)) → β), (∀ p, Q (e p)) → Q
        (b x e)) (hc : ∀ (e : Nat.hasNotBit m (OwnMem.ctorIdx OwnMem.mouldBanks) → β), (∀ p, Q (e p)) → Q (c e)) (hd : ∀
        (e : Nat.hasNotBit m (OwnMem.ctorIdx OwnMem.commandMemory) → β), (∀ p, Q (e p)) → Q (d e)) (hf : ∀
        (e : Nat.hasNotBit m (OwnMem.ctorIdx OwnMem.eventQueue) → β), (∀ p, Q (e p)) → Q (f e)) :
    Q (OwnMem.rec (motive := fun t => (Nat.hasNotBit m (OwnMem.ctorIdx t) → β) → β) a b c d f t e) := by
  cases t with
  | tiles x => exact ha x e he
  | tables x => exact hb x e he
  | mouldBanks => exact hc e he
  | commandMemory => exact hd e he
  | eventQueue => exact hf e he

theorem bneSparse {β : Type} (Q : β → Prop) {m : Nat} {t : BneFor} {e : Nat.hasNotBit m (BneFor.ctorIdx t) → β} {a :
    (Nat.hasNotBit m (BneFor.ctorIdx BneFor.mould) → β) → β} {b : (Nat.hasNotBit m (BneFor.ctorIdx BneFor.attest) → β) → β}
    {c : (Nat.hasNotBit m (BneFor.ctorIdx BneFor.debug) → β) → β} {d : (Nat.hasNotBit m
    (BneFor.ctorIdx BneFor.decommission) → β) → β} {f : (Nat.hasNotBit m (BneFor.ctorIdx BneFor.own) → β) → β} {g :
        (x : Nat) → (Nat.hasNotBit m (BneFor.ctorIdx (BneFor.keyxCa x)) → β) → β} {h : (x : Nat) → (Nat.hasNotBit m
        (BneFor.ctorIdx (BneFor.keyxId x)) → β) → β} {i : (x : Nat) → (Nat.hasNotBit m (BneFor.ctorIdx
        (BneFor.keyxCurve x)) → β) → β}
    (he : ∀ p, Q (e p)) (ha : ∀ (e : Nat.hasNotBit m (BneFor.ctorIdx BneFor.mould) → β), (∀ p, Q (e p)) → Q (a e)) (hb : ∀
        (e : Nat.hasNotBit m (BneFor.ctorIdx BneFor.attest) → β), (∀ p, Q (e p)) → Q (b e)) (hc : ∀ (e : Nat.hasNotBit m
        (BneFor.ctorIdx BneFor.debug) → β), (∀ p, Q (e p)) → Q (c e)) (hd : ∀ (e : Nat.hasNotBit m
        (BneFor.ctorIdx BneFor.decommission) → β), (∀ p, Q (e p)) → Q (d e)) (hf : ∀ (e : Nat.hasNotBit m
            (BneFor.ctorIdx BneFor.own) → β), (∀ p, Q (e p)) → Q (f e)) (hg : ∀ (x : Nat) (e : Nat.hasNotBit m (BneFor.ctorIdx
            (BneFor.keyxCa x)) → β), (∀ p, Q (e p)) → Q (g x e)) (hh : ∀ (x : Nat) (e : Nat.hasNotBit m (BneFor.ctorIdx
            (BneFor.keyxId x)) → β), (∀ p, Q (e p)) → Q (h x e)) (hi : ∀ (x : Nat) (e : Nat.hasNotBit m (BneFor.ctorIdx
            (BneFor.keyxCurve x)) → β), (∀ p, Q (e p)) → Q (i x e)) :
    Q (BneFor.rec (motive := fun t => (Nat.hasNotBit m (BneFor.ctorIdx t) → β) → β) a b c d f g h i t e) := by
  cases t with
  | mould => exact ha e he
  | attest => exact hb e he
  | debug => exact hc e he
  | decommission => exact hd e he
  | own => exact hf e he
  | keyxCa x => exact hg x e he
  | keyxId x => exact hh x e he
  | keyxCurve x => exact hi x e he

theorem counterSparse {β : Type} (Q : β → Prop) {m : Nat} {t : CounterId} {e : Nat.hasNotBit m (CounterId.ctorIdx t) → β} {a :
    (x : Fin 64) → (y : Fin 16) → (Nat.hasNotBit m (CounterId.ctorIdx (CounterId.core x y)) → β) → β} {b : (x : Fin 4) →
    (y : Fin 32) → (Nat.hasNotBit m (CounterId.ctorIdx (CounterId.die x y)) → β) → β} {c : (x : Fin 64) → (Nat.hasNotBit m
    (CounterId.ctorIdx (CounterId.hub x)) → β) → β}
    (he : ∀ p, Q (e p)) (ha : ∀ (x : Fin 64) (y : Fin 16) (e : Nat.hasNotBit m (CounterId.ctorIdx (CounterId.core x y)) → β),
        (∀ p, Q (e p)) → Q (a x y e)) (hb : ∀ (x : Fin 4) (y : Fin 32) (e : Nat.hasNotBit m (CounterId.ctorIdx
        (CounterId.die x y)) → β), (∀ p, Q (e p)) → Q (b x y e)) (hc : ∀ (x : Fin 64) (e : Nat.hasNotBit m (CounterId.ctorIdx
        (CounterId.hub x)) → β), (∀ p, Q (e p)) → Q (c x e)) :
    Q (CounterId.rec (motive := fun t => (Nat.hasNotBit m (CounterId.ctorIdx t) → β) → β) a b c t e) := by
  cases t with
  | core x y => exact ha x y e he
  | die x y => exact hb x y e he
  | hub x => exact hc x e he

theorem regSparse {β : Type} (Q : β → Prop) {m : Nat} {t : RegAt} {e : Nat.hasNotBit m (RegAt.ctorIdx t) → β} {a : (x : Nat) →
    (y : Nat) → (Nat.hasNotBit m (RegAt.ctorIdx (RegAt.core x y)) → β) → β} {b : (x : Nat) → (y : Nat) → (Nat.hasNotBit m
    (RegAt.ctorIdx (RegAt.die x y)) → β) → β} {c : (x : Nat) → (Nat.hasNotBit m (RegAt.ctorIdx (RegAt.hub x)) → β) → β} {d :
    (x : Nat) → (Nat.hasNotBit m (RegAt.ctorIdx (RegAt.cocoon x)) → β) → β} {f : (x : Nat) → (Nat.hasNotBit m (RegAt.ctorIdx
    (RegAt.snap x)) → β) → β} {g : (Nat.hasNotBit m (RegAt.ctorIdx RegAt.outside) → β) → β}
    (he : ∀ p, Q (e p)) (ha : ∀ (x : Nat) (y : Nat) (e : Nat.hasNotBit m (RegAt.ctorIdx (RegAt.core x y)) → β), (∀ p, Q
        (e p)) → Q (a x y e)) (hb : ∀ (x : Nat) (y : Nat) (e : Nat.hasNotBit m (RegAt.ctorIdx (RegAt.die x y)) → β), (∀ p, Q
        (e p)) → Q (b x y e)) (hc : ∀ (x : Nat) (e : Nat.hasNotBit m (RegAt.ctorIdx (RegAt.hub x)) → β), (∀ p, Q (e p)) → Q
        (c x e)) (hd : ∀ (x : Nat) (e : Nat.hasNotBit m (RegAt.ctorIdx (RegAt.cocoon x)) → β), (∀ p, Q (e p)) → Q (d x e))
        (hf : ∀ (x : Nat) (e : Nat.hasNotBit m (RegAt.ctorIdx (RegAt.snap x)) → β), (∀ p, Q (e p)) → Q (f x e)) (hg : ∀
        (e : Nat.hasNotBit m (RegAt.ctorIdx RegAt.outside) → β), (∀ p, Q (e p)) → Q (g e)) :
    Q (RegAt.rec (motive := fun t => (Nat.hasNotBit m (RegAt.ctorIdx t) → β) → β) a b c d f g t e) := by
  cases t with
  | core x y => exact ha x y e he
  | die x y => exact hb x y e he
  | hub x => exact hc x e he
  | cocoon x => exact hd x e he
  | snap x => exact hf x e he
  | outside => exact hg e he

theorem powerSparse {β : Type} (Q : β → Prop) {m : Nat} {t : Power} {e : Nat.hasNotBit m (Power.ctorIdx t) → β} {a :
    (Nat.hasNotBit m (Power.ctorIdx Power.run) → β) → β} {b : (Nat.hasNotBit m (Power.ctorIdx Power.idle) → β) → β} {c :
    (Nat.hasNotBit m (Power.ctorIdx Power.doze) → β) → β} {d : (Nat.hasNotBit m (Power.ctorIdx Power.chrysalis) → β) → β} {f :
    (Nat.hasNotBit m (Power.ctorIdx Power.off) → β) → β}
    (he : ∀ p, Q (e p)) (ha : ∀ (e : Nat.hasNotBit m (Power.ctorIdx Power.run) → β), (∀ p, Q (e p)) → Q (a e)) (hb : ∀
        (e : Nat.hasNotBit m (Power.ctorIdx Power.idle) → β), (∀ p, Q (e p)) → Q (b e)) (hc : ∀ (e : Nat.hasNotBit m
        (Power.ctorIdx Power.doze) → β), (∀ p, Q (e p)) → Q (c e)) (hd : ∀ (e : Nat.hasNotBit m
        (Power.ctorIdx Power.chrysalis) → β), (∀ p, Q (e p)) → Q (d e)) (hf : ∀ (e : Nat.hasNotBit m
            (Power.ctorIdx Power.off) → β), (∀ p, Q (e p)) → Q (f e)) :
    Q (Power.rec (motive := fun t => (Nat.hasNotBit m (Power.ctorIdx t) → β) → β) a b c d f t e) := by
  cases t with
  | run => exact ha e he
  | idle => exact hb e he
  | doze => exact hc e he
  | chrysalis => exact hd e he
  | off => exact hf e he

theorem spSparse {β : Type} (Q : β → Prop) {m : Nat} {t : SpJob} {e : Nat.hasNotBit m (SpJob.ctorIdx t) → β} {a :
    (Nat.hasNotBit m (SpJob.ctorIdx SpJob.sign) → β) → β} {b : (x : Nat) → (Nat.hasNotBit m (SpJob.ctorIdx
    (SpJob.ecdh x)) → β) → β} {c : (Nat.hasNotBit m (SpJob.ctorIdx SpJob.fuse) → β) → β}
    (he : ∀ p, Q (e p)) (ha : ∀ (e : Nat.hasNotBit m (SpJob.ctorIdx SpJob.sign) → β), (∀ p, Q (e p)) → Q (a e)) (hb : ∀
        (x : Nat) (e : Nat.hasNotBit m (SpJob.ctorIdx (SpJob.ecdh x)) → β), (∀ p, Q (e p)) → Q (b x e)) (hc : ∀
        (e : Nat.hasNotBit m (SpJob.ctorIdx SpJob.fuse) → β), (∀ p, Q (e p)) → Q (c e)) :
    Q (SpJob.rec (motive := fun t => (Nat.hasNotBit m (SpJob.ctorIdx t) → β) → β) a b c t e) := by
  cases t with
  | sign => exact ha e he
  | ecdh x => exact hb x e he
  | fuse => exact hc e he

theorem boolSparse {β : Type} (Q : β → Prop) {m : Nat} {t : Bool} {e : Nat.hasNotBit m (Bool.ctorIdx t) → β} {a :
    (Nat.hasNotBit m (Bool.ctorIdx Bool.false) → β) → β} {b : (Nat.hasNotBit m (Bool.ctorIdx Bool.true) → β) → β}
    (he : ∀ p, Q (e p)) (ha : ∀ (e : Nat.hasNotBit m (Bool.ctorIdx Bool.false) → β), (∀ p, Q (e p)) → Q (a e)) (hb : ∀
    (e : Nat.hasNotBit m (Bool.ctorIdx Bool.true) → β), (∀ p, Q (e p)) → Q (b e)) :
    Q (Bool.rec (motive := fun t => (Nat.hasNotBit m (Bool.ctorIdx t) → β) → β) a b t e) := by
  cases t with
  | false => exact ha e he
  | true => exact hb e he

theorem optionSparse {α : Type} {β : Type} (Q : β → Prop) {m : Nat} {t : Option α} {e : Nat.hasNotBit m
    (Option.ctorIdx t) → β} {a : (Nat.hasNotBit m (Option.ctorIdx Option.none) → β) → β} {b : (x : α) → (Nat.hasNotBit m
    (Option.ctorIdx (Option.some x)) → β) → β}
    (he : ∀ p, Q (e p)) (ha : ∀ (e : Nat.hasNotBit m (Option.ctorIdx Option.none) → β), (∀ p, Q (e p)) → Q (a e)) (hb : ∀
        (x : α) (e : Nat.hasNotBit m (Option.ctorIdx (Option.some x)) → β), (∀ p, Q (e p)) → Q (b x e)) :
    Q (Option.rec (motive := fun t => (Nat.hasNotBit m (Option.ctorIdx t) → β) → β) a b t e) := by
  cases t with
  | none => exact ha e he
  | some x => exact hb x e he

theorem exceptSparse {ε α : Type} {β : Type} (Q : β → Prop) {m : Nat} {t : Except ε α} {e : Nat.hasNotBit m
    (Except.ctorIdx t) → β} {a : (x : ε) → (Nat.hasNotBit m (Except.ctorIdx (Except.error x)) → β) → β} {b : (x : α) →
    (Nat.hasNotBit m (Except.ctorIdx (Except.ok x)) → β) → β}
    (he : ∀ p, Q (e p)) (ha : ∀ (x : ε) (e : Nat.hasNotBit m (Except.ctorIdx (Except.error x)) → β), (∀ p, Q (e p)) → Q
        (a x e)) (hb : ∀ (x : α) (e : Nat.hasNotBit m (Except.ctorIdx (Except.ok x)) → β), (∀ p, Q (e p)) → Q (b x e)) :
    Q (Except.rec (motive := fun t => (Nat.hasNotBit m (Except.ctorIdx t) → β) → β) a b t e) := by
  cases t with
  | error x => exact ha x e he
  | ok x => exact hb x e he

theorem listSparse {α : Type} {β : Type} (Q : β → Prop) {m : Nat} {t : List α} {e : Nat.hasNotBit m (List.ctorIdx t) → β} {a :
    (Nat.hasNotBit m (List.ctorIdx List.nil) → β) → β} {b : (x : α) → (y : List α) → ((Nat.hasNotBit m
    (List.ctorIdx y) → β) → β) → (Nat.hasNotBit m (List.ctorIdx (List.cons x y)) → β) → β}
    (he : ∀ p, Q (e p)) (ha : ∀ (e : Nat.hasNotBit m (List.ctorIdx List.nil) → β), (∀ p, Q (e p)) → Q (a e)) (hb : ∀ (x : α)
        (y : List α) (r : (Nat.hasNotBit m (List.ctorIdx y) → β) → β) (e : Nat.hasNotBit m (List.ctorIdx
        (List.cons x y)) → β), (∀ p, Q (e p)) → Q (b x y r e)) :
    Q (List.rec (motive := fun t => (Nat.hasNotBit m (List.ctorIdx t) → β) → β) a b t e) := by
  cases t with
  | nil => exact ha e he
  | cons x y => exact hb x y _ e he

theorem accessCases {β : Type} (Q : β → Prop) {o : AccessErr} {a : β} {b : List (Nat × EccFind) → β} (ha : Q a) (hb : ∀ x, Q
    (b x)) :
    Q (AccessErr.casesOn (motive := fun _x => β) o a b) := by
  cases o with
  | timeout => exact ha
  | ecc x => exact hb x

theorem linkCases {β : Type} (Q : β → Prop) {o : MeshLink} {a : Fin 64 → β} {b : Fin 4 → Fin 24 → β} {c : Fin 8 → β}
    (ha : ∀ x, Q (a x)) (hb : ∀ x y, Q (b x y)) (hc : ∀ x, Q (c x)) : Q (MeshLink.casesOn (motive := fun _x => β) o a b c) := by
  cases o with
  | corePort x => exact ha x
  | inDie x y => exact hb x y
  | bridge x => exact hc x

theorem scrubCases {β : Type} (Q : β → Prop) {o : ScrubAt} {a : Fin 4 → BitVec 48 → β} {b : OwnMem → β}
    (ha : ∀ x y, Q (a x y)) (hb : ∀ x, Q (b x)) : Q (ScrubAt.casesOn (motive := fun _x => β) o a b) := by
  cases o with
  | block x y => exact ha x y
  | own x => exact hb x

/-- Changing the listed values and dropping those that are the default keeps the canonical form. -/
theorem wf_mapFilter {α : Type} [DecidableEq α] {d : α} {g : Nat × α → α} {m : Sparse α} (h : Sparse.wf d m = true) :
    Sparse.wf d ((m.map (fun e => (e.1, g e))).filter (fun e => e.2 != d)) = true := by
  simp only [Sparse.wf, Bool.and_eq_true, Sparse.rising_iff_pairwise, List.all_eq_true] at h ⊢
  refine ⟨List.Pairwise.filter _ (List.pairwise_map.2 ?_), fun e he => by simpa using (List.mem_filter.1 he).2⟩
  exact h.1

namespace State.Keeps

theorem same {s t : State} (h : t.kept = s.kept) : s.Keeps t :=
  ⟨State.sound_congr (congrArg (·.2.1) h :) (congrArg (·.2.2.1) h :) (congrArg (·.2.2.2.1) h :) (congrArg (·.2.2.2.2.1) h :)
    (congrArg (·.2.2.2.2.2.1) h :) (congrArg (·.2.2.2.2.2.2) h :), congrArg (·.1) h⟩

theorem on {s t u : State} (g : t.Keeps u) (h : s.Keeps t) : s.Keeps u := ⟨g.1 ∘ h.1, g.2.trans h.2⟩

theorem ite {s a b : State} {p : Prop} [Decidable p] (ha : s.Keeps a) (hb : s.Keeps b) : s.Keeps (if p then a else b) := by
  split <;> assumption

theorem iteFst {s : State} {α : Type} {a b : State × α} {p : Prop} [Decidable p] (ha : s.Keeps a.1) (hb : s.Keeps b.1) :
    s.Keeps (if p then a else b).1 := by
  split <;> assumption

theorem foldl {α : Type} {s : State} {g : State → α → State} {l : List α} (hg : ∀ (s : State) (a : α), s.Keeps (g s a)) :
    s.Keeps (l.foldl g s) := by
  induction l generalizing s with
  | nil => exact .same rfl
  | cons a l ih => exact ih.on (hg s a)

theorem foldlFst {α β : Type} {s : State} {g : State × β → α → State × β} {l : List α} {p : State × β}
    (hg : ∀ (p : State × β) (a : α), p.1.Keeps (g p a).1) (h : s.Keeps p.1) : s.Keeps (l.foldl g p).1 := by
  induction l generalizing p with
  | nil => exact h
  | cons a l ih => exact ih ((hg p a).on h)

end State.Keeps

namespace State

theorem KeepsOpt.none {s : State} : s.KeepsOpt .none := fun _x e => nomatch e

theorem KeepsOpt.some {s t : State} (h : s.Keeps t) : s.KeepsOpt (.some t) := fun _x e => Option.some.inj e ▸ h

theorem KeepsOk.error {s : State} {e : BitVec 8} : s.KeepsOk (.error e) := fun _x e => nomatch e

theorem KeepsOk.ok {s t : State} (h : s.Keeps t) : s.KeepsOk (.ok t) := fun _x e => Except.ok.inj e ▸ h

theorem KeepsOut.next {s t : State} (h : s.Keeps t) : s.KeepsOut (.next t) := ⟨t, rfl, h⟩

theorem KeepsOut.ite {s : State} {a b : Host.Outcome State Fault Refusal} {p : Prop} [Decidable p] (ha : s.KeepsOut a)
    (hb : s.KeepsOut b) : s.KeepsOut (if p then a else b) := by
  split <;> assumption

theorem KeepsOpt.on {s t : State} {o : Option State} (g : t.KeepsOpt o) (h : s.Keeps t) : s.KeepsOpt o :=
  fun u hu => (g u hu).on h

theorem KeepsOpt.ite {s : State} {a b : Option State} {p : Prop} [Decidable p] (ha : s.KeepsOpt a) (hb : s.KeepsOpt b) :
    s.KeepsOpt (if p then a else b) := by
  split <;> assumption

theorem KeepsOk.ite {s : State} {a b : Except (BitVec 8) State} {p : Prop} [Decidable p] (ha : s.KeepsOk a)
    (hb : s.KeepsOk b) : s.KeepsOk (if p then a else b) := by
  split <;> assumption

/-- A state that an operation may answer is what the alternative for it starts from. -/
theorem KeepsOpt.cases {s : State} {o : Option State} {a : State} {b : State → State} (h : s.KeepsOpt o) (ha : s.Keeps a)
    (hb : ∀ t : State, t.Keeps (b t)) : s.Keeps (Option.casesOn (motive := fun _x => State) o a b) := by
  cases o with
  | none => exact ha
  | some t => exact (hb t).on (h t rfl)

theorem KeepsOpt.casesOpt {s : State} {o a : Option State} {b : State → Option State} (h : s.KeepsOpt o) (ha : s.KeepsOpt a)
    (hb : ∀ t : State, t.KeepsOpt (b t)) : s.KeepsOpt (Option.casesOn (motive := fun _x => Option State) o a b) := by
  cases o with
  | none => exact ha
  | some t => exact fun u hu => (hb t u hu).on (h t rfl)

theorem KeepsOpt.casesFst {α : Type} {s : State} {o : Option State} {a : State × α} {b : State → State × α} (h : s.KeepsOpt o)
    (ha : s.Keeps a.1) (hb : ∀ t : State, t.Keeps (b t).1) :
    s.Keeps (Option.casesOn (motive := fun _x => State × α) o a b).1 := by
  cases o with
  | none => exact ha
  | some t => exact (hb t).on (h t rfl)

theorem KeepsOk.cases {s : State} {o : Except (BitVec 8) State} {a : BitVec 8 → State} {b : State → State} (h : s.KeepsOk o)
    (ha : ∀ e, s.Keeps (a e)) (hb : ∀ t : State, t.Keeps (b t)) : s.Keeps (Except.casesOn
    (motive := fun _x => State) o a b) := by
  cases o with
  | error e => exact ha e
  | ok t => exact (hb t).on (h t rfl)

end State

namespace State.Keeps

section
variable {s : State}

theorem writeByte {v : Viewer} {key : Nat} {b : Byte} : s.Keeps (s.writeByte v key b) :=
  ⟨s.sound_writeByte v key b, by unfold State.writeByte; split <;> rfl⟩

theorem writeRun {v : Viewer} {l : List Byte} {key : Nat} : s.Keeps (s.writeRun v key l) := by
  induction l generalizing s key with
  | nil => exact .same rfl
  | cons b l ih => exact ih.on .writeByte

theorem crossed {p n : Nat} : s.Keeps (s.crossed p n) := ⟨s.sound_crossed p n, rfl⟩

theorem zeroSpan {lo len : Nat} : s.Keeps (s.zeroSpan lo len) := ⟨s.sound_zeroSpan lo len, rfl⟩

theorem putOpen {lo n : Nat} : s.Keeps (s.putOpen lo n) := ⟨s.sound_putOpen lo n, rfl⟩

theorem zeroTiers {new : Mould} : s.Keeps (s.zeroTiers new) := ⟨s.sound_zeroTiers new, rfl⟩

theorem discardWork {f : Nat} {keep : Bool} : s.Keeps (s.discardWork f keep) := ⟨s.sound_discardWork f keep, rfl⟩

theorem pending_flipBytes (f : Nat) (l : Sparse (Option Byte)) (s : State) : (s.flipBytes f l).pending = s.pending := by
  induction l generalizing s with
  | nil => rfl
  | cons e l ih => exact (ih _).trans (by split <;> rfl)

theorem flipLost {f : Nat} : s.Keeps (s.flipLost f) := ⟨s.sound_flipLost f, rfl⟩

theorem flipWork {f : Nat} : s.Keeps (s.flipWork f) :=
  .on .discardWork (.on ⟨State.sound_flipBytes f _ _, pending_flipBytes _ _ _⟩ .flipLost)

theorem moveSpan {lo dst n : Nat} : s.Keeps (s.moveSpan lo dst n) := ⟨s.sound_moveSpan lo dst n, rfl⟩

theorem copySpan {lo dst n : Nat} : s.Keeps (s.copySpan lo dst n) := ⟨s.sound_copySpan lo dst n, rfl⟩

theorem upd
    {now cores dram mapFuse coreFuse flasks mould staged mouldStatus mouldCount digest farClass cp bg sec fab pwr tap err
    cnt free draws} (hc : cnt.wins = s.cnt.wins) :
    s.Keeps { s with
      now := now, cores := cores, dram := dram, mapFuse := mapFuse, coreFuse := coreFuse, flasks := flasks, mould := mould,
      staged := staged, mouldStatus := mouldStatus, mouldCount := mouldCount, digest := digest, farClass := farClass, cp := cp,
      bg := bg, sec := sec, fab := fab, pwr := pwr, tap := tap, err := err, cnt := cnt, free := free, draws := draws } :=
  ⟨State.sound_congr rfl rfl rfl rfl rfl hc, rfl⟩

theorem updCnt {cnt : Cnt} (hc : Sparse.wf ⟨0, 0, 0⟩ s.cnt.wins = true → Sparse.wf ⟨0, 0, 0⟩ cnt.wins = true) :
    s.Keeps { s with cnt := cnt } :=
  ⟨fun ⟨h1, h2, h3, h4, h5, h6⟩ => ⟨h1, h2, h3, h4, h5, hc h6⟩, rfl⟩

/-- The working versions of a mould are dropped with it. -/
theorem dropWork {t : State} (h : t.kept = (s.pending, s.mem, [], s.lost, [], [], s.cnt.wins)) : s.Keeps t :=
  .on (same h) (t := { s with work := [], workLost := [], foreign := [] })
    ⟨fun ⟨h1, _, h3, _, _, h6⟩ => ⟨h1, rfl, h3, rfl, rfl, h6⟩, rfl⟩

theorem dropTiers : s.Keeps { s with mem := [], lost := [] } := ⟨fun ⟨_, h2, _, h4⟩ => ⟨rfl, h2, rfl, h4⟩, rfl⟩

theorem markLost {b : Nat} {v : Bool} : s.Keeps { s with lost := Sparse.set false s.lost b v } :=
  ⟨fun ⟨h1, h2, h3, h4⟩ => ⟨h1, h2, Sparse.wf_set false s.lost b v h3, h4⟩, rfl⟩

theorem markWorkLost {b : Nat} {v : Bool} : s.Keeps { s with workLost := Sparse.set false s.workLost b v } :=
  ⟨fun ⟨h1, h2, h3, h4, h5⟩ => ⟨h1, h2, h3, Sparse.wf_set false s.workLost b v h4, h5⟩, rfl⟩

/-! ### Bytes, cores, counters and messages -/

theorem setCore {c : Nat} {k : Core} : s.Keeps (s.setCore c k) := .same rfl

theorem modCore {c : Nat} {f : Core → Core} : s.Keeps (s.modCore c f) := .setCore

theorem setThread {c t : Nat} {x : Thread} : s.Keeps (s.setThread c t x) := .modCore

theorem modThread {c t : Nat} {f : Thread → Thread} : s.Keeps (s.modThread c t f) := .setThread

theorem setFlask {f : Nat} {x : Flask} : s.Keeps (s.setFlask f x) := .same rfl

theorem modFlask {f : Nat} {g : Flask → Flask} : s.Keeps (s.modFlask f g) := .setFlask

theorem freeBytes {n : Nat} : s.Keeps (s.freeBytes n).1 := .same rfl

theorem draw : s.Keeps (s.draw).1 := .same rfl

theorem newNonce : s.Keeps s.newNonce := .on (.same (s := s.draw.1) rfl) .draw

theorem bump {n by' : Nat} : s.Keeps (s.bump n by') := .same rfl

theorem countIn {lo cnt ev unit mode by' : Nat} : s.Keeps (s.countIn lo cnt ev unit mode by') :=
  .ite (.same rfl) (.foldl (fun _x _y => by extract_lets c; exact .ite .bump (.same rfl)))

theorem coreEvent {c ev : Nat} : s.Keeps (s.coreEvent c ev) :=
  .ite (.same rfl) (.foldl (fun _x _y => by extract_lets w; exact .ite .bump (.ite .bump (.same rfl))))

theorem hubEvent {ev unit : Nat} : s.Keeps (s.hubEvent ev unit) := by
  delta State.hubEvent
  extract_lets s1
  exact .ite .countIn (.on .countIn .countIn)

theorem dieEvent {d ev unit : Nat} : s.Keeps (s.dieEvent d ev unit) := .on .countIn .countIn

theorem laneOut {f : CpFrame} : s.Keeps (s.laneOut f) := by
  delta State.laneOut
  extract_lets g
  exact .on .hubEvent (.on .crossed (.same rfl))

set_option smartUnfolding true in
theorem pumpList {l : List CpFrame} {s : State} : s.Keeps (State.pumpList l s) := by
  induction l generalizing s with
  | nil => exact .same rfl
  | cons f l ih =>
    exact .ite (.on ih (.on .laneOut (.same rfl))) (.same rfl)

theorem pump : s.Keeps s.pump := .pumpList

theorem emit {f : CpFrame} : s.Keeps (s.emit f) := .on .pump (.same rfl)

theorem event {code : BitVec 8} {payload : List Byte} : s.Keeps (s.event code payload) := by
  delta State.event
  extract_lets f
  exact .ite (.same rfl) (.ite .emit (.same rfl))

theorem respond {ctag : BitVec 16} {opcode status : BitVec 8} {payload : List Byte} : s.Keeps
    (s.respond ctag opcode status payload) := by
  delta State.respond
  extract_lets keep rec'
  exact .on .emit (.same rfl)

theorem reroute {f l : Nat} : s.Keeps (s.reroute f l) := .modFlask

theorem dropLink {link : Nat} : s.Keeps (s.dropLink link) := by
  delta State.dropLink
  extract_lets s1
  exact .on (.foldl (fun _x _y => .modFlask)) (.same rfl)

theorem modStack {n : Nat} {f : Stack → Stack} : s.Keeps (s.modStack n f) := .same rfl

/-! ### Sticky bits, captures and memory -/

theorem setFreeze {v : Bool} : s.Keeps (s.setFreeze v) := .same rfl

theorem startSnap : s.Keeps s.startSnap := .ite (.same rfl) (.same rfl)

theorem trigger {kind : Nat} : s.Keeps (s.trigger kind) := .ite (.same rfl) (.on .startSnap .setFreeze)

theorem setSticky {b : Nat} : s.Keeps (s.setSticky b) := .ite (.same rfl) (.on .trigger (.same rfl))

theorem captureEcc {source core key : Nat} : s.Keeps (s.captureEcc source core key) := .ite (.same rfl) (.same rfl)

theorem captureFence {c : Nat} {cause : BitVec 8} : s.Keeps (s.captureFence c cause) := .ite (.same rfl) (.same rfl)

theorem captureLink {kind port : Nat} : s.Keeps (s.captureLink kind port) := .ite (.same rfl) (.same rfl)

theorem capturePerm {prime chain c : Nat} {ntt : Bool} : s.Keeps (s.capturePerm prime chain c ntt) := .ite (.same rfl) (.same rfl)

theorem clearSticky {mask : Word} : s.Keeps (s.clearSticky mask) := .same rfl

theorem qualify {n ch : Nat} : s.Keeps (s.qualify n ch) := by
  delta State.qualify
  extract_lets k
  exact .ite (.same rfl) (.ite .modStack (.ite .modStack (.ite (.on .setSticky .modStack) .modStack)))

theorem eccCorrected {key : Nat} : s.Keeps (s.eccCorrected key) := by
  delta State.eccCorrected
  extract_lets s0 s1
  exact optionCases s.Keeps (.on .modCore (optionCases s.Keeps (.on .dieEvent .setSticky) (fun _x => .ite
      (.on .dieEvent .setSticky) (.ite (.on .dieEvent .setSticky) .setSticky)))) (fun _x => .ite (.on .qualify (.on .modStack
      (optionCases s.Keeps (.on .dieEvent .setSticky) (fun _x => .ite (.on .dieEvent .setSticky) (.ite
      (.on .dieEvent .setSticky) .setSticky))))) (.on .modStack (optionCases s.Keeps (.on .dieEvent .setSticky) (fun _x => .ite
      (.on .dieEvent .setSticky) (.ite (.on .dieEvent .setSticky) .setSticky)))))

theorem eccUncorrected {v : Viewer} {key source core : Nat} : s.Keeps (s.eccUncorrected v key source core) := by
  delta State.eccUncorrected
  extract_lets s1 blk s2
  exact optionCases s.Keeps (.on .modCore (.ite (.on .markWorkLost (.on .captureEcc .setSticky)) (.on .markLost
      (.on .captureEcc .setSticky)))) (fun _x => .on .qualify (.on .modStack (.ite (.on .markWorkLost
      (.on .captureEcc .setSticky)) (.on .markLost (.on .captureEcc .setSticky)))))

theorem ecc {v : Viewer} {found : List (Nat × EccFind)} {source core : Nat} : s.Keeps (s.ecc v found source core) :=
  .foldl (fun s _x => eccCases s.Keeps (.same rfl) .eccCorrected .eccUncorrected)

theorem readThrough {v : Viewer} {found : List (Nat × EccFind)} {source core : Nat} {spans : List (Nat × Nat)} : s.Keeps
    (s.readThrough v found source core spans).1 :=
  .iteFst (.same rfl) .ecc

theorem readSpans {v : Viewer} {found : List (Nat × EccFind)} {source core : Nat} {spans : List (Nat × Nat)} : s.Keeps
    (s.readSpans v found source core spans).1 := by
  delta State.readSpans
  extract_lets r
  exact .readThrough

theorem keyWritten {runs : List (Nat × Nat)} : s.Keeps (s.keyWritten runs) := by
  delta State.keyWritten
  extract_lets hit
  exact .foldl (fun _x _y => .ite .modCore (.same rfl))

theorem writeSpans {v : Viewer} {found : List (Nat × EccFind)} {source core : Nat} {l : List (Nat × List Byte)} : s.Keeps
    (s.writeSpans v found source core l).1 := by
  delta State.writeSpans
  extract_lets runs whole
  exact .iteFst (.same rfl) (.iteFst .ecc (.on (.foldl (fun _x _y => .ite .markWorkLost .markLost)) (.on .keyWritten (.on (.foldl
      (fun _x _y => .writeRun)) .ecc))))

theorem stopFlask {f : Nat} {why : StopWhy} : s.Keeps (s.stopFlask f why) := .on (.foldl (fun _x _y => .modCore)) .modFlask

theorem pourFault {c unit thread : Nat} {pc : BitVec 32} {word : Word} {code : BitVec 8} : s.Keeps
    (s.pourFault c unit thread pc word code) := by
  delta State.pourFault
  extract_lets s1
  exact optionCases s.Keeps (.same rfl) (fun _x => stageSparse s.Keeps (fun _x => (.same rfl)) (fun _x h => h _) (fun _x h => h _)
      (fun _x _y => .on .stopFlask (.same rfl)) (fun _x _y _z => stopSparse s.Keeps (fun _x => (.same rfl)) (fun _x _y => .ite (.same rfl) (.same rfl))
      (fun _x h => h _) (fun _x h => h _) (fun _x h => h _) (fun _x h => h _)) (fun _x h => h _))

theorem bareFault {f lcore : Nat} {code : BitVec 8} : s.Keeps (s.bareFault f lcore code) := .on .stopFlask .modFlask

/-! ### Issue -/

theorem fetchThrough {o : Op} : s.Keeps (s.fetchThrough o).1 := by
  delta State.fetchThrough
  extract_lets pc len
  exact .readThrough

theorem progress {c : Nat} : s.Keeps (s.progress c) := optionCases s.Keeps (.same rfl) (fun _x => .modFlask)

theorem goto {c t : Nat} {pc : BitVec 32} : s.Keeps (s.goto c t pc) := by
  delta State.goto
  extract_lets s1
  exact .ite (.same rfl) (.on .pourFault (.same rfl))

theorem advance {o : Op} : s.Keeps (s.advance o) := .on .goto .modThread

theorem hold {o : Op} {why : Hold} {ev : Nat} : s.Keeps (s.hold o why ev) := .on .coreEvent .modThread

theorem useCycle {o : Op} : s.Keeps (s.useCycle o) := .modCore

theorem issued {o : Op} : s.Keeps (s.issued o) := .on .progress (.on .coreEvent .useCycle)

theorem issueFetched {o : Op} {act : State → State} (ha : ∀ (v : State), v.Keeps (act v)) : s.Keeps (s.issueFetched o act) := by
  delta State.issueFetched
  extract_lets x
  generalize Machine.issueFault o (s.declared o.core) = r
  exact .ite (.on .advance (.on .coreEvent (.same rfl))) (.ite .pourFault (optionCases s.Keeps (.ite (.same rfl)
    (optionCases s.Keeps (.on (ha _) .issued) fun _x => .hold)) fun _x => .pourFault))

theorem issue {o : Op} {act : State → State} (ha : ∀ (v : State), v.Keeps (act v)) : s.Keeps (s.issue o act) :=
  .ite (.same rfl) (boolCases s.Keeps (.on .pourFault .fetchThrough) (.on (.issueFetched (fun _x => (ha _))) .fetchThrough))

theorem enqueue {o : Op} : s.Keeps (s.enqueue o) := by
  delta State.enqueue
  extract_lets x e u s1 s2
  exact .on .advance (.same rfl)

theorem popHead {c u : Nat} {e : QEnt} : s.Keeps (s.popHead c u e) := .modCore

theorem unbusy {e : QEnt} : s.Keeps (s.unbusy e) := .modThread

/-! ### The sending side of the router -/

theorem modPort {p : Nat} {f : Port → Port} : s.Keeps (s.modPort p f) := .same rfl

theorem freeBuffer {b : Option (Nat × Nat)} : s.Keeps (s.freeBuffer b) := optionCases s.Keeps (.same rfl) (fun _x => .modPort)

theorem onWire {p : Nat} {f : FabFrame} : s.Keeps (s.onWire p f) := .on .hubEvent (.on .crossed (.same rfl))

theorem transmit {p : Nat} {f : FabFrame} : s.Keeps (s.transmit p f) := by
  delta State.transmit
  extract_lets k g
  exact .on .freeBuffer (.on .onWire .modPort)

set_option smartUnfolding true in
theorem drainList {p : Nat} {l kept : List FabFrame} {s : State} : s.Keeps (State.drainList p l kept s) := by
  induction l generalizing s kept with
  | nil => exact .same rfl
  | cons f l ih =>
    exact .ite (.on ih .transmit) ih

theorem drain {p : Nat} : s.Keeps (s.drain p) := .drainList

theorem portSend {p : Nat} {f : FabFrame} : s.Keeps (s.portSend p f) := .ite .transmit (.on .hubEvent .modPort)

theorem sendOut {f : FabFrame} : s.Keeps (s.sendOut f) :=
  listSparse s.Keeps (fun _x => .portSend) (fun _x _y => (.same rfl)) (fun _x _y _z _w h => h _)

theorem sendLoop {f : FabFrame} : s.Keeps (s.sendLoop f) := .same rfl

theorem fabSend {f : FabFrame} : s.Keeps (s.fabSend f) := .ite .sendLoop .sendOut

theorem reply {p : Nat} {h : FabHdr} {type status : BitVec 8} {payload : List Byte} : s.Keeps
    (s.reply p h type status payload) := by
  delta State.reply
  extract_lets f
  exact .ite .sendLoop (.ite (.same rfl) .sendOut)

theorem loseFrame {f : FabFrame} : s.Keeps (s.loseFrame f) := by
  delta State.loseFrame
  extract_lets dst g s1
  exact .ite (.on .sendLoop .freeBuffer) (.on .sendOut .freeBuffer)

/-! ### Instructions of the sequencer -/

theorem writeScalar {o : Op} {d : Nat} {v : Word} : s.Keeps (s.writeScalar o d v) := .on .advance .modThread

theorem writePred {o : Op} {d : Nat} {v : Bool} : s.Keeps (s.writePred o d v) := .on .advance .modThread

theorem aluReg {opc : BitVec 8} {i : Ins} {f : Word → Word → Word} : s.Keeps (s.aluReg opc i f) := by
  delta State.aluReg
  extract_lets o
  exact .issue (fun _x => .writeScalar)

theorem aluImm {opc : BitVec 8} {i : Ins} {f : Word → Word → Word} : s.Keeps (s.aluImm opc i f) := by
  delta State.aluImm
  extract_lets o
  exact .issue (fun _x => .writeScalar)

theorem predOp {opc : BitVec 8} {i : Ins} {f : Bool → Bool → Bool} : s.Keeps (s.predOp opc i f) := by
  delta State.predOp
  extract_lets o
  exact .issue (fun _x => .writePred)

theorem startThread {c t : Nat} {pc : BitVec 32} {s5 : Word} : s.Keeps (s.startThread c t pc s5) := by
  delta State.startThread
  extract_lets fl
  exact .on .goto .setThread

theorem hsetAct {o : Op} {s : State} : s.Keeps (State.hsetAct o s) := by
  delta State.hsetAct
  extract_lets v
  exact .on .advance .modCore

theorem hgetAct {o : Op} {s : State} : s.Keeps (State.hgetAct o s) := .writeScalar

theorem heldAct {o : Op} {s : State} : s.Keeps (State.heldAct o s) := .ite .hsetAct (.ite .hgetAct .enqueue)

theorem retryHeld {c t : Nat} {ok : Hold → Bool} : s.Keeps (s.retryHeld c t ok) :=
  optionCases s.Keeps (.same rfl) (fun _x => .ite (optionCases s.Keeps (.on .heldAct .issued) (fun _x => .ite (.same rfl) .hold)) (.same rfl))

theorem execMovi {i : Ins} {s : State} : s.KeepsOut (Machine.execMovi i s) := by
  delta Machine.execMovi
  extract_lets o
  exact .next (.issue (fun _x => .writeScalar))

theorem execMovhi {i : Ins} {s : State} : s.KeepsOut (Machine.execMovhi i s) := by
  delta Machine.execMovhi
  extract_lets o
  exact .next (.issue (fun _x => .writeScalar))

theorem execCmp {i : Ins} {s : State} : s.KeepsOut (Machine.execCmp i s) := by
  delta Machine.execCmp
  extract_lets o
  exact .next (.issue (fun _x => .writePred))

theorem execCmpI {i : Ins} {s : State} : s.KeepsOut (Machine.execCmpI i s) := by
  delta Machine.execCmpI
  extract_lets o
  exact .next (.issue (fun _x => .writePred))

theorem execPnot {i : Ins} {s : State} : s.KeepsOut (Machine.execPnot i s) := by
  delta Machine.execPnot
  extract_lets o
  exact .next (.issue (fun _x => .writePred))

theorem execBr {i : Ins} {s : State} : s.KeepsOut (Machine.execBr i s) := by
  delta Machine.execBr
  extract_lets o
  exact .next (.issue (fun _x => .goto))

theorem execBrReg {i : Ins} {s : State} : s.KeepsOut (Machine.execBrReg i s) := by
  delta Machine.execBrReg
  extract_lets o
  exact .next (.issue (fun _x => .goto))

theorem execBrLink {i : Ins} {s : State} : s.KeepsOut (Machine.execBrLink i s) := by
  delta Machine.execBrLink
  extract_lets o
  exact .next (.issue (fun _x => .on .goto .modThread))

theorem forkAct {o : Op} {s : State} : s.Keeps (State.forkAct o s) := by
  delta State.forkAct
  extract_lets x
  exact .on .startThread .advance

theorem execBrFork {i : Ins} {s : State} : s.KeepsOut (Machine.execBrFork i s) := by
  delta Machine.execBrFork
  extract_lets o
  exact .next (.issue (fun _x => .ite .forkAct .hold))

theorem execHalt {i : Ins} {s : State} : s.KeepsOut (Machine.execHalt i s) := by
  delta Machine.execHalt
  extract_lets o
  exact .next (.issue (fun _x => .modThread))

theorem execCommit {i : Ins} {s : State} : s.KeepsOut (Machine.execCommit i s) := by
  delta Machine.execCommit
  extract_lets o
  exact .next (.issue (fun s => optionCases s.Keeps .hold (fun _x => .on .modFlask .hold)))

theorem execFenceE {i : Ins} {s : State} : s.KeepsOut (Machine.execFenceE i s) := by
  delta Machine.execFenceE
  extract_lets o
  exact .next (.issue (fun _x => .ite .hold .advance))

theorem semTake {o : Op} {s : State} : s.Keeps (State.semTake o s) := by
  delta State.semTake
  extract_lets e
  exact .on .advance .modCore

theorem execSemWait {i : Ins} {s : State} : s.KeepsOut (Machine.execSemWait i s) := by
  delta Machine.execSemWait
  extract_lets o
  exact .next (.issue (fun _x => .ite .semTake .hold))

theorem execSemPost {i : Ins} {s : State} : s.KeepsOut (Machine.execSemPost i s) := by
  delta Machine.execSemPost
  extract_lets o
  exact .next (.issue (fun _x => .on .advance .modCore))

theorem tokenTake {o : Op} {s : State} : s.Keeps (State.tokenTake o s) := .on .advance .modCore

theorem execTokenWait {i : Ins} {s : State} : s.KeepsOut (Machine.execTokenWait i s) := by
  delta Machine.execTokenWait
  extract_lets o
  exact .next (.issue (fun _x => .ite .tokenTake .hold))

theorem tokenPut {o : Op} {s : State} : s.Keeps (State.tokenPut o s) := .on .advance .modCore

theorem execTokenSignal {i : Ins} {s : State} : s.KeepsOut (Machine.execTokenSignal i s) := by
  delta Machine.execTokenSignal
  extract_lets o
  exact .next (.issue (fun _x => .ite .tokenPut .hold))

/-! ### What the fixed-latency engines share -/

theorem freeRun {c : Nat} {r : Range} : s.Keeps (s.freeRun c r) :=
  .ite (.on .modCore .freeBytes) (.ite (.on .modCore .freeBytes) (.ite (.on .modCore (.on .freeBytes .freeBytes))
      (.on .modCore (.on .freeBytes .freeBytes))))

theorem addSat {c : Nat} {ve : Bool} {n : Nat} : s.Keeps (s.addSat c ve n) := by
  delta State.addSat
  extract_lets s1
  exact .on (.foldl (fun _x _y => .coreEvent)) (.same rfl)

theorem freeRuns {c : Nat} {l : List Range} : s.Keeps (s.freeRuns c l) := .foldl (fun _x _y => .freeRun)

theorem startHead {c u : Nat} {check : State → QEnt → Except (BitVec 8) Plan} {act : State → QEnt → State}
    {hit : State → QEnt → List Range → List Range} (ha : ∀ (v : State) x0, v.Keeps (act v x0)) : s.Keeps
    (s.startHead c u check act hit) :=
  listCases s.Keeps (.same rfl) (fun _x _y => .ite (exceptCases s.Keeps (fun _x => .on .pourFault (.on .progress (.same rfl))) (fun _x => .ite
      (.on .coreEvent (.on .coreEvent (.on .modCore (.ite (.on .setSticky (.ite (.on .coreEvent (.on .setSticky (.ite
      (.on .freeRuns (.on (ha _ _) .popHead)) (.on (ha _ _) .popHead)))) (.ite (.on .freeRuns (.on (ha _ _) .popHead)) (.on
      (ha _ _) .popHead)))) (.ite (.on .coreEvent (.on .setSticky (.ite (.on .freeRuns (.on (ha _ _) .popHead)) (.on
      (ha _ _) .popHead)))) (.ite (.on .freeRuns (.on (ha _ _) .popHead)) (.on (ha _ _) .popHead))))))) (.on .coreEvent
      (.on .modCore (.ite (.on .setSticky (.ite (.on .coreEvent (.on .setSticky (.ite (.on .freeRuns (.on (ha _ _) .popHead))
      (.on (ha _ _) .popHead)))) (.ite (.on .freeRuns (.on (ha _ _) .popHead)) (.on (ha _ _) .popHead)))) (.ite
      (.on .coreEvent (.on .setSticky (.ite (.on .freeRuns (.on (ha _ _) .popHead)) (.on (ha _ _) .popHead)))) (.ite
      (.on .freeRuns (.on (ha _ _) .popHead)) (.on (ha _ _) .popHead)))))))) (.same rfl))

theorem completeFlight {c u : Nat} : s.Keeps (s.completeFlight c u) :=
  optionCases s.Keeps (.same rfl) (fun _x => .ite (.same rfl) (.on .progress .modCore))

theorem abortFlight {c u : Nat} {f : Flight} {code : BitVec 8} {scramble : Bool} : s.Keeps
    (s.abortFlight c u f code scramble) := by
  delta State.abortFlight
  extract_lets s0 s1
  exact .on .pourFault (.on .progress (.on .modCore (.ite .freeRuns (.same rfl))))

/-! ### The limb matrix engine -/

theorem putAcc {c t : Nat} {w : Bool} {off : Nat} {v : ℤ} {st : BitVec 3} : s.Keeps (s.putAcc c t w off v st) := by
  delta State.putAcc
  extract_lets n
  exact .ite .modCore (.on .modCore .freeBytes)

theorem walkIndex {c : Nat} {d : Desc} {limit : Nat} {l : List Int} {found : List (Nat × EccFind)} {s : State} :
    s.Keeps (State.walkIndex c d limit l found s).1 := by
  induction l generalizing s found with
  | nil => exact .same rfl
  | cons off l ih =>
    exact optionCases (fun p : State × _ => s.Keeps p.1) (optionCases
        (fun p : State × _ => s.Keeps p.1) .readSpans fun _x => .iteFst .readSpans
      (exceptCases (fun p : State × _ => s.Keeps p.1) (fun _x => .on ih .readSpans) fun _x => .on ih .readSpans)) fun _x => .same rfl

theorem lmmAct {c : Nat} {e : QEnt} : s.Keeps (Machine.lmmAct s c e) := by
  delta Machine.lmmAct
  extract_lets o k d
  exact optionCases s.Keeps (.same rfl) (fun _x => .ite (.same rfl) (exceptCases s.Keeps (fun _x => (.same rfl)) (fun _x => .on (.foldl
      (fun s _x => .foldl (fun _x _y => by extract_lets pairs; exact .ite .putAcc .putAcc))) (.on (.foldl
      (fun _x _y => .coreEvent)) .modCore))))

theorem tcfgAct {c : Nat} {e : QEnt} : s.Keeps (Machine.tcfgAct s c e) := .same rfl

theorem tzeroAct {c : Nat} {e : QEnt} : s.Keeps (Machine.tzeroAct s c e) := .same rfl

theorem tmoveAct {c : Nat} {e : QEnt} : s.Keeps (Machine.tmoveAct s c e) := by
  delta Machine.tmoveAct
  extract_lets o k dr sr n so dst
  exact .ite (.same rfl) (.ite .modCore (.same rfl))

theorem lmeAct {c : Nat} {s : State} {e : QEnt} : s.Keeps (Machine.lmeAct c s e) :=
  .ite .tcfgAct (.ite .tzeroAct (.ite .tmoveAct .lmmAct))

theorem refreshBmag {c : Nat} {f : Option Flight} : s.Keeps (s.refreshBmag c f) :=
  optionCases s.Keeps (.same rfl) (fun _x => .ite .modCore (.same rfl))

/-! ### The transform engine -/

theorem teAct {c : Nat} {s : State} {e : QEnt} : s.Keeps (Machine.teAct c s e) := by
  delta Machine.teAct
  extract_lets o k src
  exact exceptSparse s.Keeps (fun _x => (.same rfl)) (fun _x _y h => h _) (fun _x _y _z => optionSparse s.Keeps (fun _x => (.same rfl))
      (fun _x h => h _) (fun _x _y _z => .ite (.same rfl) .setCore))

theorem permAbort {c : Nat} {f : Flight} {j : Nat} : s.Keeps (s.permAbort c f j) := by
  delta State.permAbort
  extract_lets o src prime
  exact .on .abortFlight (.on .capturePerm .setSticky)

/-! ### The vector engine -/

theorem putResult {c t el : Nat} {r : Nat × Num} {isIndex : Bool} : s.Keeps (s.putResult c t el r isIndex) := by
  delta State.putResult
  refine .ite (.on .modCore ?_) (.ite (.on .addSat .modCore) .modCore)
  exact numCases (fun p : State × Nat => s.Keeps p.1) (fun _x _y _z => .iteFst (.same rfl) (.freeBytes (n := 80))) (fun _x => (.same rfl)) (.same rfl)

theorem writeGroup {j : VJob} {s : State} {c g : Nat} {l : List Num} : s.Keeps (VJob.writeGroup j s c g l) := by
  delta VJob.writeGroup
  extract_lets rs base
  exact .foldl (fun _x _y => .putResult)

theorem act {j : VJob} {s : State} {c : Nat} {src : Option Desc} : s.Keeps (VJob.act j s c src) := by
  delta VJob.act
  extract_lets k0 sl m
  exact .on .freeRuns (.on (.foldl (fun s2 _x => by extract_lets lo hi; exact .ite .writeGroup (.same rfl))) (.on .addSat .setCore))

theorem vchainAct {c : Nat} {e : QEnt} : s.Keeps (Machine.vchainAct s c e) := by
  delta Machine.vchainAct
  extract_lets k j
  exact exceptCases s.Keeps (fun _x => (.same rfl)) (fun _x => .ite (.same rfl) .act)

theorem vredAct {c : Nat} {e : QEnt} : s.Keeps (Machine.vredAct s c e) := by
  delta Machine.vredAct
  extract_lets j
  exact .ite (.same rfl) .act

theorem vhistAct {c : Nat} {e : QEnt} : s.Keeps (Machine.vhistAct s c e) := .same rfl

theorem mredList {c : Nat} {e : QEnt} {found : List (Nat × EccFind)} : s.Keeps (Machine.mredList s c e found).1 := by
  delta Machine.mredList
  extract_lets pl
  exact .walkIndex

theorem mredAct {c : Nat} {e : QEnt} : s.Keeps (Machine.mredAct s c e) := by
  delta Machine.mredAct
  extract_lets o k w
  exact .ite (.same rfl) (optionSparse s.Keeps (fun _x => (.same rfl)) (fun _x h => h _) (fun _x _y _z => exceptSparse s.Keeps (fun _x => (.same rfl))
      (fun _x _y h => h _) (fun _x _y _z => .setCore)))

theorem rescaleAct {c : Nat} {e : QEnt} : s.Keeps (Machine.rescaleAct s c e) := by
  delta Machine.rescaleAct
  extract_lets o k src cor
  exact .ite (.same rfl) (optionCases s.Keeps (.same rfl) (fun _x => .on .freeRuns .setCore))

theorem veAct {c : Nat} {s : State} {e : QEnt} : s.Keeps (Machine.veAct c s e) :=
  .ite .vchainAct (.ite .vredAct (.ite .vhistAct (.ite .rescaleAct .mredAct)))

theorem vePreRead {c : Nat} {env : Option AccessErr} : s.Keeps (s.vePreRead c env) :=
  listCases s.Keeps (.same rfl) (fun _x _y => .ite (optionCases s.Keeps .mredList (fun _x => accessCases s.Keeps (.same rfl)
      (fun _x => .mredList))) (.same rfl))

theorem execVhistArm {i : Ins} {s : State} : s.KeepsOut (Machine.execVhistArm i s) := by
  delta Machine.execVhistArm
  extract_lets o
  exact .next (.ite (.issue (fun _x => .enqueue)) (.same rfl))

theorem execVhistClear {i : Ins} {s : State} : s.KeepsOut (Machine.execVhistClear i s) := by
  delta Machine.execVhistClear
  extract_lets o
  exact .next (.ite (.issue (fun _x => .enqueue)) (.same rfl))

theorem execVhistRead {i : Ins} {s : State} : s.KeepsOut (Machine.execVhistRead i s) := by
  delta Machine.execVhistRead
  extract_lets o
  exact .next (.ite (.issue (fun _x => .enqueue)) (.same rfl))

/-! ### Starts -/

theorem mixFlights {c skip : Nat} {wr : List Range} : s.Keeps (s.mixFlights c skip wr) := .foldl (fun _x _y => .freeRuns)

theorem raceFlight {c u : Nat} {f : Flight} : s.Keeps (s.raceFlight c u f) := .ite (.same rfl) (.on .freeRuns .mixFlights)

theorem startUnit {c u : Nat} {check : State → QEnt → Except (BitVec 8) Plan} {act : State → QEnt → State}
    {hit : State → QEnt → List Range → List Range} (ha : ∀ (v : State) x0, v.Keeps (act v x0)) : s.Keeps
    (s.startUnit c u check act hit) := by
  delta State.startUnit
  extract_lets t
  exact optionCases s.Keeps (.startHead (fun _x _y => (ha _ _))) (fun _x => .on .raceFlight (.startHead (fun _x _y => (ha _ _))))

theorem execLmeInstructionStart {c : Fin 64} {s : State} : s.KeepsOut (Machine.execLmeInstructionStart c s) := by
  delta Machine.execLmeInstructionStart
  extract_lets started t
  exact .next (.ite (.on .modCore (.startUnit (fun _x _y => .lmeAct))) (.startUnit (fun _x _y => .lmeAct)))

/-! ### The stream engine -/

theorem modAct {c id : Nat} {f : SeAct → SeAct} : s.Keeps (s.modAct c id f) := .modCore

theorem addXfer {c id : Nat} {kind : XKind} {pool u0 n blk : Nat} {path : List Nat} : s.Keeps
    (s.addXfer c id kind pool u0 n blk path) := by
  delta State.addXfer
  extract_lets k x
  exact .on .coreEvent (.same rfl)

theorem streamCross {c : Nat} {x : Acc} {n : Nat} : s.Keeps (s.streamCross c x n) := by
  have e : @State.streamCross = @State.streamCross := rfl
  conv_rhs at e => delta State.streamCross
  rw [e]
  beta_reduce
  generalize x.stack = o
  cases o with
  | some st => exact .on .crossed .crossed
  | none => exact .crossed

theorem sttCodes {c : Nat} {a : SeAct} {u : Nat} : s.Keeps (s.sttCodes c a u).1 :=
  .foldlFst (fun _x _y => .iteFst (.same rfl) (.same rfl)) (.same rfl)

theorem unspecify {a : SeAct} {u : Nat} {x : Acc} {data : List Byte} : s.Keeps (s.unspecify a u x data).1 :=
  listSparse (fun p : State × _ => s.Keeps p.1) (fun _x => .foldlFst (fun _x _y => .iteFst (.same rfl) (.same rfl)) (.same rfl))
      (fun _x _y => (.same rfl)) fun _x _y _z _w h => h _

theorem crossAll {c : Nat} {l : List Acc} : s.Keeps (s.crossAll c l) := .foldl (fun _x _y => .streamCross)

theorem readAll {c : Nat} {l : List Acc} {found : List (Nat × EccFind)} : s.Keeps (s.readAll c l found).1 :=
  .on .readThrough .crossAll

theorem openTile {c : Nat} {a : SeAct} : s.Keeps (s.openTile c a) := by
  delta State.openTile
  extract_lets t f
  exact .ite (.same rfl) (.on .modAct (.on .mixFlights .modCore))

theorem loadElem {c : Nat} {a : SeAct} {e code : Nat} : s.Keeps (s.loadElem c a e code) := by
  delta State.loadElem
  extract_lets o t f
  exact .ite .modCore (.ite (.on .modCore (.ite .putAcc .modCore)) (.ite .modCore .modCore))

theorem landGroup {c id u : Nat} : s.Keeps (s.landGroup c id u) :=
  optionCases s.Keeps (.same rfl) (fun _x => .ite (.on .modAct (.on .mixFlights (.on (.foldl
      (fun _x _y => .loadElem)) .openTile))) (.same rfl))

theorem arrive {c id u : Nat} {data : List Byte} : s.Keeps (s.arrive c id u data) := by
  delta State.arrive
  extract_lets s1
  exact optionCases s.Keeps (.same rfl) (fun _x => .ite (.on .landGroup (.same rfl)) (.same rfl))

theorem landReads {c id : Nat} {found : List (Nat × EccFind)} {n u : Nat} : s.Keeps (s.landReads c id found n u).1 :=
  optionCases (fun p : State × _ => s.Keeps p.1) (.same rfl) (fun _x => boolCases (fun p : State × _ => s.Keeps p.1) .readAll (.on
      (.foldl (fun s' _x => .arrive)) .readAll))

theorem unitOut {c : Nat} {a : SeAct} {u : Nat} {x : Acc} : s.Keeps (s.unitOut c a u x).1 :=
  .iteFst .sttCodes (.iteFst .freeBytes .unspecify)

theorem addUnit {c : Nat} {a : SeAct} {b : Batch} {u : Nat} : s.Keeps (s.addUnit c a b u).1 :=
  needSparse (fun p : State × _ => s.Keeps p.1) (fun _x => (.same rfl)) (fun _x h => h _) (fun _x h => h _) (fun _x _y h => h _)
      (fun _x _y _z => .unitOut)

theorem landWrites {c id : Nat} {found : List (Nat × EccFind)} {n u : Nat} : s.Keeps (s.landWrites c id found n u).1 :=
  optionCases (fun p : State × _ => s.Keeps p.1) (.same rfl) fun _x => boolCases (fun p : State × _ => s.Keeps p.1)
    (.on .writeSpans (.on .crossAll (.foldlFst (fun _x _y => .addUnit) (.same rfl))))
    (.on .modAct (.ite (.on .writeSpans (.on .crossAll (.foldlFst (fun _x _y => .addUnit) (.same rfl))))
      (.on .addSat (.on .writeSpans (.on .crossAll (.foldlFst (fun _x _y => .addUnit) (.same rfl)))))))

theorem spoil {c : Nat} {a : SeAct} : s.Keeps (s.spoil c a) :=
  .ite (.foldl (fun s _x => needSparse s.Keeps (fun _x => (.same rfl)) (fun _x h => h _) (fun _x h => h _) (fun _x _y h => h _)
      (fun _x _y _z => .on (.foldl (fun _x _y => .writeRun)) .freeBytes))) (.same rfl)

theorem settle {c id : Nat} : s.Keeps (s.settle c id) :=
  optionCases s.Keeps (.same rfl) (fun _x => .ite (.same rfl) (.on .progress (.on .unbusy (.on .modCore .spoil))))

theorem seFault {c id : Nat} {code : BitVec 8} : s.Keeps (s.seFault c id code) :=
  optionCases s.Keeps (.same rfl) (fun _x => .on .settle (.ite (.on .pourFault .modAct) (.same rfl)))

theorem endXfer {c id num : Nat} : s.Keeps (s.endXfer c id num) := .modAct

theorem postTo {f l pair : Nat} {empty : Bool} {n : Nat} : s.Keeps (s.postTo f l pair empty n) :=
  .ite .modFlask (optionCases s.Keeps (.same rfl) (fun _x => .modCore))

theorem remoteData {c : Nat} {a : SeAct} {n u : Nat} : s.Keeps (s.remoteData c a n u).1 := by
  induction n generalizing s u with
  | zero => exact .same rfl
  | succ n ih =>
    exact needSparse (fun p : State × _ => s.Keeps p.1) (fun _x => ih) (fun _x h => h _) (fun _x h => h _)
        (fun _x _y h => h _) fun _x _y _z => .on ih .unitOut

theorem issueXfer {c : Nat} {a : SeAct} {write : Bool} {u0 n : Nat} {x : Acc} : s.Keeps (s.issueXfer c a write u0 n x) := by
  delta State.issueXfer
  extract_lets remote pool tag s1
  exact .ite (.on .addXfer .modAct) (.ite (.on .fabSend (.on .crossed (.on .remoteData (.on .addXfer .modAct)))) (.on .fabSend
      (.on .addXfer .modAct)))

theorem tryPhase {c : Nat} {a : SeAct} {write : Bool} : s.KeepsOpt (s.tryPhase c a write) := by
  delta State.tryPhase
  extract_lets u
  exact .ite .none (needSparse s.KeepsOpt (fun _x => .none) (fun _x h => h _) (fun _x h => h _) (fun _x _y _z => .some .seFault)
      (fun _x _y _z => .ite .none (optionCases s.KeepsOpt .none (fun _x => .ite .none (.some .issueXfer)))))

theorem issueWalker {c : Nat} {a : SeAct} : s.KeepsOpt (s.issueWalker c a) := by
  delta State.issueWalker
  extract_lets d x
  exact optionCases s.KeepsOpt (.ite .none (.some (.on .addXfer .modAct))) (fun _x => .some .seFault)

theorem issuePost {c : Nat} {a : SeAct} : s.KeepsOpt (s.issuePost c a) := by
  delta State.issuePost
  extract_lets o f sup ds keep s1
  exact .ite (.some (.same rfl)) (.ite .none (.ite (.some (.on .seFault (.same rfl))) (.some (.on .fabSend (.on .addXfer (.same rfl))))))

theorem issueHeader {c : Nat} {a : SeAct} : s.KeepsOpt (s.issueHeader c a) := by
  delta State.issueHeader
  extract_lets x
  exact optionCases s.KeepsOpt (.ite (.some (.on .addXfer .modAct)) .none) (fun _x => .some .seFault)

theorem nextOf {c : Nat} {a : SeAct} : s.KeepsOpt (s.nextOf c a) :=
  .ite .none (.ite .issueHeader (.ite (.ite .issuePost .none) (State.KeepsOpt.casesOpt .tryPhase
      (State.KeepsOpt.casesOpt .tryPhase (.ite .issueWalker .none) (fun _x => .some (.same rfl))) (fun _x => .some (.same rfl)))))

theorem modWalk {c : Nat} {f : Walk → Walk} : s.Keeps (s.modWalk c f) := .modCore

theorem openWalk {c : Nat} {e : QEnt} : s.Keeps (s.openWalk c e) := .modCore

theorem walkNext {c : Nat} {w : Walk} : s.KeepsOpt (s.walkNext c w) := by
  delta State.walkNext
  extract_lets d
  exact .ite .none (optionCases s.KeepsOpt (.ite .none (.some (.on .coreEvent (.same rfl)))) (fun _x => .ite (.some .modWalk) .none))

theorem walkIssue {c : Nat} : s.KeepsOpt (s.walkIssue c) :=
  optionCases s.KeepsOpt (optionCases s.KeepsOpt .none (fun _x => optionCases s.KeepsOpt .none
      (fun _x => .on .walkNext .openWalk))) (fun _x => .walkNext)

theorem issueOf {c id : Nat} : s.KeepsOpt (s.issueOf c id) := by
  refine .ite .walkIssue fun t ht => ?_
  obtain ⟨a, -, ha⟩ := Option.bind_eq_some_iff.1 ht
  exact State.Keeps.nextOf t ha

theorem landWalker {c id : Nat} {found : List (Nat × EccFind)} {n u : Nat} : s.Keeps (s.landWalker c id found n u).1 :=
  optionCases (fun p : State × _ => s.Keeps p.1) (.same rfl) (fun _x => boolCases (fun p : State × _ => s.Keeps p.1) .readAll
      (.on .modAct .readAll))

theorem closeWalk {c : Nat} : s.Keeps (s.closeWalk c) := .modCore

theorem landWalk {c : Nat} {w : Walk} {x : Xfer} {found : List (Nat × EccFind)} : s.Keeps (s.landWalk c w x found) := by
  delta State.landWalk
  extract_lets gone l r
  exact .on .closeWalk (.on .modWalk .readAll)

theorem landXfer {c id : Nat} {x : Xfer} {found : List (Nat × EccFind)} : s.Keeps (s.landXfer c id x found).1 :=
  .iteFst .landWalker (.iteFst .landWrites .landReads)

theorem logKsid {k : Word} : s.Keeps (s.logKsid k) := .ite (.same rfl) (.ite (.same rfl) (.same rfl))

theorem execKexpHeaderArrival {c : Fin 64} {id : Nat} {found : List (Nat × EccFind)} {s : State} :
    s.KeepsOut (Machine.execKexpHeaderArrival c id found s) := by
  delta Machine.execKexpHeaderArrival
  generalize Machine.headerCheck = r
  exact .next (optionCases s.Keeps (.same rfl) fun _x => optionCases s.Keeps (.same rfl) fun _x => .ite (.same rfl) (boolCases s.Keeps
    (.on .seFault (.on .endXfer .readAll)) (optionCases s.Keeps (.on .seFault (.on .endXfer .readAll)) fun _x =>
      optionCases s.Keeps (.ite (.on .settle (.on .endXfer .readAll)) (.on .modAct (.on .logKsid (.on .endXfer .readAll))))
        fun _x => .on .seFault (.on .endXfer .readAll))))

/-! ### Cores at their defaults -/

theorem zeroGroup {c g : Nat} : s.Keeps (s.zeroGroup c g) := .zeroSpan

theorem zeroKinds {c : Nat} {kinds : List Nat} : s.Keeps (s.zeroKinds c kinds) := .foldl (fun t _x => .ite .zeroGroup (.same rfl))

theorem zeroSpad {c : Nat} : s.Keeps (s.zeroSpad c) := .zeroSpan

theorem zeroSpace {sp : Nat} : s.Keeps (s.zeroSpace sp) := .zeroSpan

theorem zeroParked {f l : Nat} {kinds : List Nat} : s.Keeps (s.zeroParked f l kinds) := .foldl (fun t _x => .ite .zeroSpan (.same rfl))

theorem repower {c : Nat} : s.Keeps (s.repower c) := .modCore

theorem darken {c : Nat} : s.Keeps (s.darken c) := .on .modCore .zeroSpad

theorem loadTables {c : Nat} : s.Keeps (s.loadTables c) := .modCore

theorem dropCounters {lo n : Nat} : s.Keeps (s.dropCounters lo n) := .same rfl

theorem defaultCore {c : Nat} : s.Keeps (s.defaultCore c) := .same rfl

/-! ### Pours -/

theorem giveHost {f : Nat} {d : FlaskDef} {l : Nat} : s.KeepsOpt (s.giveHost f d l) := by
  delta State.giveHost
  extract_lets x
  exact optionCases s.KeepsOpt (.ite (optionCases s.KeepsOpt .none (fun _x => .some (.same rfl))) .none) (fun _x => .some
      (.on .reroute (.ite (.on .setSticky .modFlask) .modFlask)))

theorem dropShares {f c : Nat} : s.Keeps (s.dropShares f c) := .modFlask

theorem giveHosts {f : Nat} {d : FlaskDef} {l : List Nat} {s : State} : s.Keeps (State.giveHosts f d l s).1 := by
  induction l generalizing s with
  | nil => exact .same rfl
  | cons x l ih =>
    exact State.KeepsOpt.casesFst .giveHost (.same rfl) fun _x => ih

theorem fencedEnd {f l : Nat} : s.Keeps (s.fencedEnd f l) := .on .bareFault .setSticky

theorem seat {f l : Nat} : s.Keeps (s.seat f l) := .ite (.on .zeroParked .modFlask) (.on .zeroKinds (.same rfl))

theorem seatAll {f : Nat} : s.Keeps (s.seatAll f) := .foldl (fun _x _y => .seat)

theorem stage3 {f : Nat} : s.Keeps (s.stage3 f) :=
  optionCases s.Keeps (.same rfl) (fun _x => .ite .bareFault (.ite .fencedEnd (optionCases s.Keeps (.on .modFlask
      (.on .seatAll .giveHosts)) (fun _x => .on .fencedEnd .giveHosts))))

theorem copyCode {f c : Nat} {found : List (Nat × EccFind)} : s.Keeps (s.copyCode f c found).1 := by
  delta State.copyCode
  extract_lets x
  generalize h : s.readSpans .other found 0 c _ = r
  have hr : s.Keeps r.1 := h ▸ .readSpans
  obtain ⟨s1, o⟩ := r
  cases o with
  | none => exact hr
  | some d => exact .on .writeSpans hr

theorem copyCodes {f : Nat} {found : List (Nat × EccFind)} {l : List (Nat × Nat)} {s : State} : s.Keeps
    (State.copyCodes f found l s) := by
  induction l generalizing s found with
  | nil => exact .same rfl
  | cons x l ih =>
    exact boolCases s.Keeps (.on .bareFault .copyCode) (.on ih .copyCode)

theorem startCore {f l : Nat} : s.Keeps (s.startCore f l) := by
  delta State.startCore
  extract_lets x t
  exact .ite .modFlask .modCore

theorem putToken {f l q : Nat} : s.Keeps (s.putToken f l q).1 := .iteFst (.iteFst .modFlask (.same rfl)) (.iteFst .modCore (.same rfl))

theorem redeliver {f : Nat} {d : Dest} : s.Keeps (s.redeliver f d) :=
  .ite .postTo (boolCases s.Keeps (.on .modCore .putToken) .putToken)

theorem dropAgain {f : Nat} : s.Keeps (s.dropAgain f) := .foldl (fun _x _y => .modCore)

theorem startCores {f : Nat} : s.Keeps (s.startCores f) := by
  delta State.startCores
  extract_lets s1
  exact .on .modFlask (.foldl (fun _x _y => .startCore))

theorem sendPourEnd {f : Nat} {status : BitVec 8} {x : FaultRec} {cseq : Nat} : s.Keeps (s.sendPourEnd f status x cseq) :=
  .event

theorem dropTokens {c : Nat} : s.Keeps (s.dropTokens c) := .on (.foldl (fun _x _y => .reply)) .modCore

theorem clearPour {f : Nat} : s.Keeps (s.clearPour f) := by
  delta State.clearPour
  extract_lets s1
  exact .on .modFlask (.on (.foldl (fun _x _y => .on .modCore .dropTokens)) .discardWork)

theorem darkenFenced {f : Nat} : s.Keeps (s.darkenFenced f) := .foldl (fun _x _y => .darken)

theorem flaskResetCores {f : Nat} : s.Keeps (s.flaskResetCores f) :=
  optionCases s.Keeps (.same rfl) (fun _x => .on .newNonce (.on .modFlask (.on (.foldl (fun _x _y => .zeroParked)) (.foldl
      (fun _x _y => .on .defaultCore .zeroKinds)))))

theorem settlePour {f : Nat} : s.Keeps (s.settlePour f) := by
  delta State.settlePour
  extract_lets s1
  exact optionCases s.Keeps (.on .clearPour .darkenFenced) (fun _x => .on .respond (.ite (.on .flaskResetCores
      (.on .clearPour .darkenFenced)) (.on .clearPour .darkenFenced)))

theorem endPour {f : Nat} {status : BitVec 8} {fr : FaultRec} : s.Keeps (s.endPour f status fr) :=
  .on .trigger (.on .sendPourEnd .settlePour)

theorem quietStep {f : Nat} : s.Keeps (s.quietStep f) :=
  .ite (stageSparse s.Keeps (fun _x => (.same rfl)) (fun _x h => h _) (fun _x h => h _) (fun _x h => h _)
      (fun _x _y _z => stopSparse s.Keeps (fun _x => optionCases s.Keeps .endPour (fun _x => .endPour)) (fun _x h => h _)
          (fun _x h => h _) (fun _x h => h _) (fun _x _y => (.same rfl)) (fun _x _y => .settlePour)) (fun _x h => h _)) (.same rfl)

theorem sendCommitDone {f cseq : Nat} : s.Keeps (s.sendCommitDone f cseq) := .event

theorem committed {f : Nat} {records : List Rec} : s.Keeps (s.committed f records) := .on .hubEvent .modFlask

theorem writeRecords {f : Nat} : s.Keeps (s.writeRecords f) :=
  optionSparse s.Keeps (fun _x => (.same rfl)) (fun _x h => h _) (fun _x _y _z => optionSparse s.Keeps (fun _x => (.same rfl)) (fun _x h => h _)
      (fun _x _y _z => optionCases s.Keeps (.same rfl) (fun _x => .putOpen)))

theorem resumeCore {c : Nat} : s.Keeps (s.resumeCore c) := by
  delta State.resumeCore
  extract_lets s1
  exact .on (.foldl (fun s1 _x => .ite .pourFault (.same rfl))) (.same rfl)

theorem noteExt {f : Nat} {d : Dest} : s.Keeps (s.noteExt f d) := .modFlask

/-! ### The fabric -/

theorem floodBut {a : Lsa} {but : Option Nat} : s.Keeps (s.floodBut a but) := .foldl (fun _x _y => .portSend)

theorem flood : s.Keeps s.flood := by
  delta State.flood
  extract_lets s1
  exact .on .floodBut (.same rfl)

theorem sendMgmt {p : Nat} {type : BitVec 8} {payload : List Byte} : s.Keeps (s.sendMgmt p type payload) := .onWire

theorem sendIdle {p : Nat} {rtry : Bool} : s.Keeps (s.sendIdle p rtry) := .sendMgmt

theorem portUp {p : Nat} : s.Keeps (s.portUp p) := .on .flood .modPort

theorem unroute {p : Nat} : s.Keeps (s.unroute p) := .same rfl

theorem dropBuffers {p : Nat} : s.Keeps (s.dropBuffers p) := .on (.upd rfl) (.foldl fun _x _y => .ite (.same rfl) .modPort)

theorem portLeave {p st : Nat} : s.Keeps (s.portLeave p st) := by
  delta State.portLeave
  extract_lets k s1
  exact .ite (.on (.foldl (fun _x _y => .sendOut)) (.on .flood (.on .unroute (.on .dropBuffers (.same rfl))))) (.same rfl)

theorem portDown {p : Nat} : s.Keeps (s.portDown p) := .on .setSticky (.on .captureLink .portLeave)

theorem portTrain {p : Nat} : s.Keeps (s.portTrain p) := .modPort

theorem writePortEn {p : Nat} {en : Bool} : s.Keeps (s.writePortEn p en) := by
  delta State.writePortEn
  extract_lets s1
  exact .ite (.ite (.same rfl) (.on .portLeave (.same rfl))) (.ite (.ite (.same rfl) (.same rfl)) (.same rfl))

theorem acked {p : Nat} {hack : BitVec 32} : s.Keeps (s.acked p hack) := by
  delta State.acked
  extract_lets n
  exact .on .drain .modPort

theorem askResend {p : Nat} : s.Keeps (s.askResend p) := .on .setSticky .sendIdle

theorem discardFrame {p : Nat} {why : DiscardCause} : s.Keeps (s.discardFrame p why) := by
  delta State.discardFrame
  extract_lets recent s1
  exact .ite (.on .portDown (.same rfl)) (.ite (.on .askResend (.same rfl)) (.same rfl))

theorem receive {p : Nat} {f : FabFrame} : s.Keeps (s.receive p f).1 :=
  .iteFst (.same rfl) (.iteFst (.same rfl) (.iteFst (.on .discardFrame (.on .modPort .crossed)) (.iteFst (.on .askResend (.on .acked
      (.on .modPort (.on .modPort .crossed)))) (.iteFst (.on .discardFrame (.on .modPort .crossed)) (.on .acked (.on .modPort
      (.on .hubEvent (.on .modPort (.on .modPort .crossed)))))))))

theorem resendHeld {f : FabFrame} : s.Keeps (s.resendHeld f) := by
  delta State.resendHeld
  extract_lets dst
  exact .ite .loseFrame (.ite .sendOut .loseFrame)

theorem catchUp {p : Nat} {lastseq : BitVec 32} : s.Keeps (s.catchUp p lastseq) := by
  delta State.catchUp
  extract_lets held n rest
  exact .on (.foldl (fun _x _y => .resendHeld)) .modPort

theorem checkDup : s.Keeps s.checkDup := .same rfl

theorem execLsa {p : Fin 32} {h : FabHdr} {d : List Byte} {s : State} : s.KeepsOut (Machine.execLsa p h d s) :=
  .next (optionCases s.Keeps .receive (fun _x => optionCases s.Keeps (.on .freeBuffer .receive) (fun _x => .ite
      (.on .freeBuffer .receive) (.ite (.on .freeBuffer .receive) (.on .checkDup (.on .floodBut (.on (.foldl
      (fun s _x => by extract_lets k; exact .ite (optionCases s.Keeps .modPort (fun _x => .ite
      (.on .catchUp .modPort) .modPort)) (.same rfl))) (.on (.same (s := (s.receive ↑p
          { type := 4, hdr := h, payload := d }).1.freeBuffer (some (↑p, 16))) rfl) (.on .freeBuffer .receive)))))))))

theorem loseTransfers : s.Keeps s.loseTransfers :=
  .foldl (fun s _x => .foldl (fun s _x => by extract_lets bad postBad gone; exact .ite (.same rfl) (.on .seFault (.ite (.on .modAct
      (.foldl (fun _x _y => .endXfer))) (.foldl (fun _x _y => .endXfer))))))

theorem forward {p : Nat} {f : FabFrame} : s.Keeps (s.forward p f) := by
  delta State.forward
  extract_lets g
  exact .ite .loseFrame (.ite .loseFrame (.on .sendOut .hubEvent))

theorem arriveFrame {p : Nat} {type : BitVec 8} {h : FabHdr} {d : List Byte} {act : List Byte → State → State} (ha : ∀ x0
    (v : State), v.Keeps (act x0 v)) : s.Keeps (s.arriveFrame p type h d act) := by
  delta State.arriveFrame
  extract_lets buf
  exact .ite (.ite .discardFrame (.same rfl)) (optionCases s.Keeps .receive (fun _x => .ite (.on (ha _ _) (.ite .receive
      (.on .freeBuffer .receive))) (.on .forward .receive)))

theorem notePeer {h : FabHdr} {f : Nat} : s.Keeps (s.notePeer h f) := .ite .modFlask (.same rfl)

theorem targetCross {sp off n : Nat} : s.Keeps (s.targetCross sp off n) := by
  have e : @State.targetCross = @State.targetCross := rfl
  conv_rhs at e => delta State.targetCross
  rw [e]
  beta_reduce
  generalize stackOf (memKey sp off) = o
  cases o with
  | some st => exact .crossed
  | none => exact .same rfl

theorem putAct {p : Nat} {h : FabHdr} {d : List Byte} {found : List (Nat × EccFind)} {s : State} : s.Keeps
    (State.putAct p h d found s) :=
  exceptCases s.Keeps (fun _x => .reply) (fun _x => boolCases s.Keeps (.on .reply (.on .writeSpans
      (.on .targetCross .notePeer))) (.on .reply (.on .writeSpans (.on .targetCross .notePeer))))

theorem addAct {p : Nat} {h : FabHdr} {d : List Byte} {found : List (Nat × EccFind)} {s : State} : s.Keeps
    (State.addAct p h d found s) :=
  exceptCases s.Keeps (fun _x => .reply) (fun _x => optionCases s.Keeps .reply (fun _x => optionCases s.Keeps (.on .reply
      (.on .readSpans (.on .targetCross .notePeer))) (fun _x => optionCases s.Keeps (.on .reply (.on .readSpans
      (.on .targetCross .notePeer))) (fun _x => boolCases s.Keeps (.on .reply (.on .writeSpans (.on .readSpans
      (.on .targetCross .notePeer)))) (.on .reply (.on .writeSpans (.on .readSpans (.on .targetCross .notePeer))))))))

theorem getAct {p : Nat} {h : FabHdr} {d : List Byte} {found : List (Nat × EccFind)} {s : State} : s.Keeps
    (State.getAct p h d found s) := by
  delta State.getAct
  extract_lets n
  exact exceptCases s.Keeps (fun _x => .reply) (fun _x => optionCases s.Keeps (.on .reply (.on .readSpans
      (.on .targetCross .notePeer))) (fun _x => .on .reply (.on .readSpans (.on .targetCross .notePeer))))

theorem postAct {p : Nat} {h : FabHdr} {s : State} : s.Keeps (State.postAct p h s) :=
  exceptCases s.Keeps (fun _x => .reply) (fun _x => .ite (.on .reply (.foldl (fun _x _y => .modFlask))) (.ite .reply (.ite .reply
      (.ite (boolCases s.Keeps (.on .modCore (.on .putToken (.ite (.ite (.on .postTo .notePeer) (.on .noteExt
      (.on .postTo .notePeer))) .notePeer))) (.on .reply (.ite (.on .putToken (.ite (.ite (.on .postTo .notePeer)
      (.on .noteExt (.on .postTo .notePeer))) .notePeer)) (.on .noteExt (.on .putToken (.ite (.ite (.on .postTo .notePeer)
      (.on .noteExt (.on .postTo .notePeer))) .notePeer)))))) (.on .reply (.ite (.ite (.on .postTo .notePeer) (.on .noteExt
      (.on .postTo .notePeer))) .notePeer))))))

theorem answer {h : FabHdr} {act : State → Nat → SeAct → Xfer → State} (ha : ∀ (v : State) x0 x1 x2, v.Keeps
    (act v x0 x1 x2)) : s.Keeps (s.answer h act) := by
  delta State.answer
  extract_lets c
  exact optionCases s.Keeps (.same rfl) (fun _x => .ite (ha _ _ _ _) (.same rfl))

theorem ackAct {h : FabHdr} {s : State} : s.Keeps (State.ackAct h s) :=
  .answer (fun _x _y _z _w => .on .settle (.on .endXfer (.ite (.ite .modAct (.same rfl)) .modAct)))

theorem nackAct {h : FabHdr} {s : State} : s.Keeps (State.nackAct h s) := .answer (fun _x _y _z _w => .on .seFault .endXfer)

theorem lostAct {h : FabHdr} {s : State} : s.Keeps (State.lostAct h s) :=
  .answer (fun _x _y _z _w => .on .seFault (.on .endXfer (.ite .modAct (.same rfl))))

theorem arriveRun {c id n u : Nat} {d : List Byte} {s : State} : s.Keeps (State.arriveRun c id n u d s) := by
  induction n generalizing s u d with
  | zero => exact .same rfl
  | succ n ih =>
    exact optionCases s.Keeps (.same rfl) fun _x => needSparse s.Keeps (fun _x => ih) (fun _x h => h _) (fun _x h => h _)
        (fun _x _y h => h _) fun _x _y _z => .on ih .arrive

theorem getRespAct {h : FabHdr} {d : List Byte} {s : State} : s.Keeps (State.getRespAct h d s) :=
  .answer (fun _x _y _z _w => .on .settle (.on .endXfer (.on .arriveRun .crossed)))

/-! ### The control link -/

theorem modCp {f : Cp → Cp} : s.Keeps (s.modCp f) := .same rfl

theorem sendSync : s.Keeps s.sendSync := .on .modCp .laneOut

theorem enterSync : s.Keeps s.enterSync := .on .sendSync .modCp

theorem linkUp : s.Keeps s.linkUp := .on .pump .modCp

theorem trySync : s.Keeps s.trySync := .ite .linkUp (.same rfl)

theorem cpArrives {n : Nat} : s.Keeps (s.cpArrives n) := .on .modCp (.on .hubEvent .crossed)

theorem discard : s.Keeps s.discard := .modCp

theorem takeAck {h : CpHdr} : s.Keeps (s.takeAck h) := by
  delta State.takeAck
  extract_lets n more
  exact .on .pump .modCp

theorem resendHeldCp : s.Keeps s.resendHeldCp := .on .setSticky (.on (.foldl (fun _x _y => .on .hubEvent .laneOut)) .modCp)

theorem cpDown : s.Keeps s.cpDown := .on .setSticky (.on .captureLink .modCp)

theorem outOfOrder {q : BitVec 32} : s.Keeps (s.outOfOrder q) := by
  delta State.outOfOrder
  extract_lets s1 ahead
  exact .ite (.on .setSticky (.on .laneOut (.same rfl))) (.same rfl)

theorem cpReset : s.Keeps s.cpReset := .modCp

theorem cpWarm : s.Keeps s.cpWarm := .same rfl

/-! ### The mould -/

theorem zeroPad {old : Option (List (Nat × Bool))} {c : Nat} : s.Keeps (s.zeroPad old c) :=
  .foldl (fun t _x => by extract_lets keep; exact .ite (.same rfl) .zeroGroup)

theorem setAddress {a : BitVec 12} {v : Bool} : s.Keeps (s.setAddress a v) := .ite (.same rfl) (.on .checkDup (.on .flood (.same rfl)))

theorem settleCore {old : Option (List (Nat × Bool))} {c : Nat} : s.Keeps (s.settleCore old c) :=
  .ite (.on .modCore .darken) (.on .loadTables (.on .repower (.on .modCore .zeroPad)))

theorem applyMould : s.Keeps s.applyMould := by
  delta State.applyMould
  extract_lets m olds _ s1 s2 s3 s4 s5
  have h4 : s.Keeps s4 := .on (.foldl fun _x _y => .settleCore) (.on (t := s2) (.upd rfl) (.on .zeroTiers (t := s1) (.upd rfl)))
  exact .on (.upd rfl) (.on .setAddress (.ite (.on .setSticky h4) h4))

theorem stage {off : Nat} {data : List Byte} : s.Keeps (s.stage off data) := .same rfl

theorem rejectMould {ctag : BitVec 16} {r : MvReject} : s.Keeps (s.rejectMould ctag r) := .on .respond (.same rfl)

theorem startCommit {ctag : BitVec 16} : s.Keeps (s.startCommit ctag) := optionCases s.Keeps (.same rfl) (fun _x => .rejectMould)

theorem mouldHashed {g : Bg} : s.Keeps (s.mouldHashed g) := by
  delta State.mouldHashed
  generalize s.checksSignature = r
  exact optionCases s.Keeps (.upd rfl) fun _x => .rejectMould

theorem mouldVerified {g : Bg} {v : Verdict} : s.Keeps (s.mouldVerified g v) := by
  delta State.mouldVerified
  generalize s.checksLate = r
  exact verdictCases s.Keeps (optionCases s.Keeps (.upd rfl) fun _x => .rejectMould) .rejectMould (.on .rejectMould .setSticky)

/-! ### Security -/

theorem modSec {f : Sec → Sec} : s.Keeps (s.modSec f) := .same rfl

theorem setJobs {l : List SpJob} : s.Keeps (s.setJobs l) := .modSec

theorem bgEnd {g : Bg} {status : BitVec 8} {payload : List Byte} : s.Keeps (s.bgEnd g status payload) := .on .respond (.same rfl)

theorem abandon : s.Keeps s.abandon := .same rfl

theorem setLevel {v : Nat} : s.Keeps (s.setLevel v) := by
  delta State.setLevel
  extract_lets s1
  exact .on (.foldl (fun _x _y => .modCore)) (.same rfl)

theorem zeroBuffers : s.Keeps s.zeroBuffers := .on (.upd rfl) (.foldl fun _x _y => .modCore)

theorem zeroPowered : s.Keeps s.zeroPowered := .foldl (fun s _x => .foldl (fun _x _y => .ite .zeroGroup (.same rfl)))

theorem zeroConf : s.Keeps s.zeroConf :=
  optionCases s.Keeps (.same rfl) (fun _x => .on (.foldl (fun s _x => .ite (.foldl (fun _x _y => .zeroParked)) (.same rfl))) (.foldl
      (fun _x _y => .ite .zeroSpan (.same rfl))))

theorem dropMould : s.Keeps s.dropMould := by
  delta State.dropMould
  extract_lets s1 s2
  exact .on .setAddress (.on (.foldl (fun _x _y => .ite (.same rfl) (.same rfl))) (.dropWork rfl))

theorem zeroAll : s.Keeps s.zeroAll := .on .dropMould (.on .dropTiers .zeroBuffers)

theorem settleMould : s.Keeps s.settleMould := .ite .dropMould (.same rfl)

theorem zeroise : s.Keeps s.zeroise := .on .zeroConf (.on .zeroBuffers .zeroPowered)

theorem startZeroise {g : Bg} : s.Keeps (s.startZeroise g) := .same rfl

theorem debugEnd {g : Bg} {status : BitVec 8} : s.Keeps (s.debugEnd g status) := .on .bgEnd (.ite .newNonce (.same rfl))

theorem queueVerify {g : Bg} {j : BneJob} : s.Keeps (s.queueVerify g j) := .same rfl

theorem startDebug {ctag : BitVec 16} {p : List Byte} : s.Keeps (s.startDebug ctag p) := by
  delta State.startDebug
  extract_lets g v t
  exact .ite .debugEnd (.ite (.on .debugEnd .setLevel) (.ite .startZeroise (.ite .queueVerify .debugEnd)))

theorem startOwn {ctag : BitVec 16} {p : List Byte} : s.Keeps (s.startOwn ctag p) := by
  delta State.startOwn
  extract_lets x y g
  exact .ite .bgEnd (.same rfl)

theorem startDecommission {ctag : BitVec 16} {p : List Byte} : s.Keeps (s.startDecommission ctag p) := .queueVerify

theorem startFuse {g : Bg} : s.Keeps (s.startFuse g) := .same rfl

theorem breakFuse : s.Keeps s.breakFuse :=
  optionCases s.Keeps (.same rfl) (fun _x => .ite (.same rfl) (.ite (.on .modSec .freeBytes) (.on .modSec .freeBytes)))

theorem startAttest {ctag : BitVec 16} {p : List Byte} : s.Keeps (s.startAttest ctag p) := .same rfl

theorem signReport {g : Bg} : s.Keeps (s.signReport g) := .on .queueVerify .draw

theorem keyed {p : Nat} : s.Keeps (s.keyed p) := by
  delta State.keyed
  extract_lets k
  exact .ite (.on .portUp .modPort) (.same rfl)

theorem commandVerified {g : Bg} {v : Verdict} : s.Keeps (s.commandVerified g v) := by
  delta State.commandVerified
  extract_lets t
  exact .ite (.ite (.on .bgEnd (.ite .setSticky (.same rfl))) (.on .bgEnd (.ite .setSticky (.same rfl)))) (.ite
      (verdictCases s.Keeps .startZeroise .debugEnd (.on .debugEnd (.ite .setSticky (.same rfl))))
          (verdictCases s.Keeps .startFuse .bgEnd (.on .bgEnd (.ite .setSticky (.same rfl)))))

theorem portVerified {p : Nat} {last : Bool} {v : Verdict} : s.Keeps (s.portVerified p last v) :=
  verdictCases s.Keeps (.ite (.same rfl) (.same rfl)) (.ite .portLeave (.same rfl)) (.ite (.on .portLeave .setSticky) .setSticky)

/-! ### Failures and recovery -/

theorem findErrors {lo n source : Nat} {found : List (Nat × EccFind)} : s.Keeps (s.findErrors lo n source found) :=
  .foldl (fun s _x => eccCases s.Keeps (.same rfl) .eccCorrected .eccUncorrected)

theorem modErrCore {c : Nat} {f : ErrCore → ErrCore} : s.Keeps (s.modErrCore c f) := .same rfl

theorem fuseCore {c : Nat} : s.Keeps (s.fuseCore c) := .ite (.same rfl) (.same rfl)

theorem partWrites {c id n u : Nat} : s.Keeps (s.partWrites c id n u) := by
  induction n generalizing s u with
  | zero => exact .same rfl
  | succ n ih => exact ih.on (.ite (.on .landWrites (.same rfl)) (.same rfl))

theorem cutTransfers {c : Nat} : s.Keeps (s.cutTransfers c) :=
  .foldl (fun s _x => .foldl (fun _x _y => .ite .partWrites (.ite .modFlask (.same rfl))))

theorem fenceFlask {f c : Nat} : s.Keeps (s.fenceFlask f c) := by
  delta State.fenceFlask
  extract_lets x fresh
  exact stageSparse s.Keeps (fun _x => .on .stopFlask .modFlask) (fun _x _y => (.same rfl)) (fun _x h => h _) (fun _x h => h _)
      (fun _x _y _z => stopSparse s.Keeps (fun _x => (.same rfl)) (fun _x h => h _) (fun _x h => h _) (fun _x h => h _)
      (fun _x _y => .modFlask) (fun _x h => h _)) (fun _x h => h _)

theorem cutCore {c : Nat} : s.Keeps (s.cutCore c) := by
  delta State.cutCore
  extract_lets s1
  exact .on .newNonce (.on .dropCounters (.on .modCore (.on .zeroKinds .cutTransfers)))

theorem takeFence {c : Nat} {cause : FenceCause} : s.Keeps (s.takeFence c cause) := by
  delta State.takeFence
  extract_lets s1 s2 s2 s3 s4
  exact optionCases s.Keeps (.on .darken (.on (.same (s := s3.cutCore c) rfl) (.on .cutCore (.ite (.on .fuseCore (.ite
      (.on .setSticky (.on .setSticky (.on .modErrCore .captureFence))) (.on .setSticky (.on .modErrCore .captureFence))))
      (.ite (.on .setSticky (.on .setSticky (.on .modErrCore .captureFence))) (.on .setSticky
      (.on .modErrCore .captureFence))))))) (fun _x => .on .fenceFlask (.on (.same (s := s3.cutCore c) rfl) (.on .cutCore (.ite
          (.on .fuseCore (.ite (.on .setSticky (.on .setSticky (.on .modErrCore .captureFence))) (.on .setSticky
          (.on .modErrCore .captureFence)))) (.ite (.on .setSticky (.on .setSticky (.on .modErrCore .captureFence)))
          (.on .setSticky (.on .modErrCore .captureFence)))))))

theorem fenceCore {c : Nat} {cause : FenceCause} : s.Keeps (s.fenceCore c cause) :=
  .ite (.same rfl) (.ite (.same rfl) (.ite .modErrCore .takeFence))

theorem settleFences : s.Keeps s.settleFences := .on (.foldl (fun _x _y => .fenceCore)) (.same rfl)

theorem rehost {f : Nat} {d : FlaskDef} {l : Nat} : s.KeepsOpt (s.rehost f d l) := by
  intro t ht
  obtain ⟨v, hv, rfl⟩ := Option.map_eq_some_iff.1 ht
  exact .on (.same rfl) (State.Keeps.giveHost v hv)

theorem rehostAll {f : Nat} {d : FlaskDef} {l : List Nat} {s : State} : s.Keeps (State.rehostAll f d l s).1 := by
  induction l generalizing s with
  | nil => exact .same rfl
  | cons x l ih =>
    exact State.KeepsOpt.casesFst .rehost (.same rfl) fun _x => ih

theorem unslot {f : Nat} {d : FlaskDef} {l : Nat} : s.Keeps (s.unslot f d l) := .ite (.same rfl) (.foldl (fun _x _y => .moveSpan))

theorem restoreCore {f l : Nat} : s.Keeps (s.restoreCore f l) := optionCases s.Keeps (.same rfl) (fun _x => .ite .modFlask .modCore)

theorem resumeFlask {f : Nat} : s.Keeps (s.resumeFlask f) :=
  .ite .modFlask (.on .modFlask (.on (.foldl (fun _x _y => .redeliver)) (.on (.foldl (fun _x _y => .restoreCore)) .dropAgain)))

theorem prepare {f : Nat} {d : FlaskDef} : s.Keeps (s.prepare f d) := by
  delta State.prepare
  extract_lets slots s1 s2 due idle s3
  exact .ite (.on .resumeFlask (.on (.foldl (fun _x _y => .darken)) (.on .seatAll (.foldl (fun _x _y => .unslot)))))
      (.on .modFlask (.on (.foldl (fun _x _y => .darken)) (.on .seatAll (.foldl (fun _x _y => .unslot)))))

theorem swapCore {f c : Nat} {x : Share} : s.Keeps (s.swapCore f c x) := by
  delta State.swapCore
  extract_lets l codeg size here slot s1 mine s2
  exact .on .modFlask (.on .modCore (.on .moveSpan .moveSpan))

theorem linkFails : s.Keeps s.linkFails := .on .setSticky (.on .captureLink (.on (.same (s := (s.freeBytes 1).1) rfl) .freeBytes))

theorem bareAll {code : BitVec 8} : s.Keeps (s.bareAll code) :=
  .foldl (fun s _x => stageSparse s.Keeps (fun _x => .bareFault) (fun _x _y => (.same rfl)) (fun _x h => h _) (fun _x h => h _)
      (fun _x _y _z => stopSparse s.Keeps (fun _x => (.same rfl)) (fun _x h => h _) (fun _x h => h _) (fun _x h => h _)
      (fun _x _y => .bareFault) (fun _x h => h _)) (fun _x h => h _))

theorem meshDies : s.Keeps s.meshDies := .on .bareAll (.on .setSticky (.same rfl))

theorem execMeshParityError {l : MeshLink} {fourth : Bool} {s : State} : s.KeepsOut (Machine.execMeshParityError l fourth s) :=
  .next (.ite (linkCases s.Keeps (fun _x => .on .dieEvent (.same rfl)) (fun _x _y => .on .dieEvent (.same rfl)) (fun _x => (.same rfl)))
      (linkCases s.Keeps (fun _x => .on .fenceCore .linkFails) (fun _x _y => .on .dropLink .linkFails) (fun _x => .ite
      (.on .meshDies (.on (.same (s := s.linkFails) rfl) .linkFails)) (.on (.same (s := s.linkFails) rfl) .linkFails))))

theorem scrubBlock {key : Nat} {v : Viewer} {found : EccFind} : s.Keeps (s.scrubBlock key v found) := .ite .ecc (.same rfl)

theorem hubWordLost : s.Keeps s.hubWordLost := by
  delta State.hubWordLost
  extract_lets s1
  have h1 : s.Keeps s1 := .on .bareAll .setSticky
  exact .ite (.on (.upd rfl) h1) (.on .dropMould h1)

theorem ownWord {m : OwnMem} {found : EccFind} : s.Keeps (s.ownWord m found) :=
  eccCases s.Keeps (.same rfl) (ownSparse s.Keeps (fun _x => .ite .setSticky (.same rfl)) (fun _x _y _z => .ite .setSticky (.same rfl))
      (fun _x _y _z => .ite .setSticky (.same rfl)) (fun _x h => h _) (fun _x h => h _) (fun _x h => h _)) (ownSparse s.Keeps
      (fun _x => .ite .hubWordLost (.same rfl)) (fun _x _y _z => .ite .fenceCore (.same rfl)) (fun _x _y _z => .ite .fenceCore (.same rfl))
      (fun _x h => h _) (fun _x h => h _) (fun _x h => h _))

theorem nextMove {n : Nat} : s.Keeps (s.nextMove n) := listCases s.Keeps (.same rfl) (fun _x _y => .modStack)

theorem fuseChannel {n ch : Nat} : s.Keeps (s.fuseChannel n ch) := .ite (.same rfl) (.same rfl)

theorem moveEnds {n ch : Nat} {found : List (Nat × EccFind)} : s.Keeps (s.moveEnds n ch found) := by
  delta State.moveEnds
  extract_lets s2 s3
  exact .on .nextMove (.ite (.on .setSticky (.on .fuseChannel (.on .setSticky (.on .modStack .findErrors)))) (.on .fuseChannel
      (.on .setSticky (.on .modStack .findErrors))))

theorem writeHaltreq {c : Nat} {v : Bool} : s.Keeps (s.writeHaltreq c v) := .ite .modCore (.same rfl)

/-! ### Power and reset -/

theorem modPwr {f : Pwr → Pwr} : s.Keeps (s.modPwr f) := .same rfl

theorem gateSome : s.Keeps s.gateSome := by
  delta State.gateSome
  extract_lets g n
  exact .on (.foldl (fun _x _y => by extract_lets dom; exact .ite .modCore .modStack)) .modPwr

theorem govern {mv mw : Nat} : s.Keeps (s.govern mv mw) := by
  delta State.govern
  extract_lets classes all duty0 running base pb pd h d cap step ia budget duty1 left
  exact .same rfl

theorem dropJobs : s.Keeps s.dropJobs := .on (.upd rfl) .breakFuse

theorem dropDieHub : s.Keeps s.dropDieHub := .updCnt fun _x => rfl

theorem blankCore {c : Nat} : s.Keeps (s.blankCore c) := .same rfl

theorem dropVolatile : s.Keeps s.dropVolatile := by
  delta State.dropVolatile
  extract_lets s0 s1 s2
  exact .on .cpReset (.on .dropDieHub (.on (.foldl (fun _x _y => .blankCore)) (.on (.foldl (fun _x _y => .modStack))
      (.on .zeroSpace (.on .zeroSpace (.on (.dropWork (s := s0) rfl) .dropJobs))))))

theorem setStacks {l : List Nat} {st : Nat} : s.Keeps (s.setStacks l st) := .foldl (fun _x _y => .modStack)

theorem stopAll : s.Keeps s.stopAll :=
  .foldl (fun s _x => stageSparse s.Keeps (fun _x => .stopFlask) (fun _x _y => (.same rfl)) (fun _x h => h _) (fun _x h => h _)
      (fun _x _y _z => .modFlask) (fun _x h => h _))

theorem moduleReset : s.Keeps s.moduleReset := by
  delta State.moduleReset
  extract_lets s1
  exact .ite (.on .setStacks (.on .newNonce .dropVolatile)) (.on .newNonce .dropVolatile)

theorem tryReset : s.Keeps s.tryReset := .ite (.on .modPwr .moduleReset) (.same rfl)

theorem triggerReset {cause : BitVec 4} : s.Keeps (s.triggerReset cause) := .on .modPwr .stopAll

theorem startWake {rst : BitVec 4} {ev : BitVec 8} : s.Keeps (s.startWake rst ev) := .on .modPwr .setStacks

theorem trainPorts : s.Keeps s.trainPorts := .foldl (fun _x _y => .ite .portTrain (.same rfl))

theorem powerEvent {cause : BitVec 8} : s.Keeps (s.powerEvent cause) := .event

theorem startHub : s.Keeps s.startHub := .on .modCp .trainPorts

theorem warmReset : s.Keeps s.warmReset :=
  .on .cpWarm (.on .newNonce (.on (.upd rfl) (.on (.foldl fun _x _y => .on .modFlask (.foldl fun _x _y => .zeroParked))
    (.on (.foldl fun _x _y => .ite (.same rfl) (.on .defaultCore .zeroKinds)) (.on
    (.foldl fun _x _y => .on .clearPour .darkenFenced) .dropJobs)))))

theorem powerCores : s.Keeps s.powerCores := .foldl (fun _x _y => .ite (.same rfl) (.same rfl))

theorem powerOff : s.Keeps s.powerOff := ⟨fun _x => State.sound_reset, State.Keeps.breakFuse.2⟩

theorem readFuses : s.Keeps s.readFuses := .same rfl

theorem fenceFused : s.Keeps s.fenceFused := .foldl (fun _x _y => (.same rfl))

theorem beginTransition {t : Power} {ev : BitVec 8} : s.Keeps (s.beginTransition t ev) := by
  delta State.beginTransition
  extract_lets s1
  exact .on .modPwr (optionCases s.Keeps (.same rfl) (fun _x => .ite (.ite .bgEnd (.same rfl)) (.same rfl)))

theorem nextTransition {l : List (Power × BitVec 8)} {s : State} : s.Keeps (State.nextTransition l s) := by
  induction l generalizing s with
  | nil => exact .same rfl
  | cons x l ih =>
    exact .ite (.ite (.on .modPwr .startWake) ih) (.ite (.on ih (optionCases s.Keeps (.same rfl) fun _x => .ite .bgEnd (.same rfl)))
      (.ite ih (.on .modPwr .beginTransition)))

theorem trained {which : List Nat} {failed : List (Nat × Nat)} : s.Keeps (s.trained which failed) := by
  delta State.trained
  extract_lets fails
  exact .foldl (fun s _x => by extract_lets count; exact .on (.foldl (fun _x _y => .qualify)) .modStack)

theorem applyMapFuse : s.Keeps s.applyMapFuse := .foldl (fun _x _y => .modStack)

theorem latch : s.Keeps s.latch := .modPwr

theorem enterChrysalis {entry : BitVec 4} : s.Keeps (s.enterChrysalis entry) := by
  delta State.enterChrysalis
  extract_lets s0 s1 s2
  exact .on .latch (.on .modPwr (.on .setStacks (.on .setStacks (.on .dropVolatile (.on .zeroSpace (.on .zeroSpace (.on
      (.foldl (fun _x _y => .modStack)) (.foldl (fun s _x => optionCases s.Keeps (.same rfl) (fun _x => .moveEnds))))))))))

theorem inputFault {overV : Bool} : s.Keeps (s.inputFault overV) := by
  delta State.inputFault
  extract_lets s1
  exact .ite (.on .modPwr .setSticky) (.on .enterChrysalis (.on .modPwr .setSticky))

theorem enterDoze : s.Keeps s.enterDoze := by
  delta State.enterDoze
  extract_lets s1
  exact .on .modPwr (.on .setStacks (.foldl (fun _x _y => .ite (.same rfl) (.on .dropCounters (.on .modCore .zeroKinds)))))

theorem leaveDoze : s.Keeps s.leaveDoze := .on .powerCores .setStacks

theorem enter {t : Power} {failed : List (Nat × Nat)} : s.Keeps (s.enter t failed) :=
  powerSparse s.Keeps (fun _x => .on .modPwr (powerSparse s.Keeps (fun _x => (.same rfl)) (fun _x h => h _) (fun _x h => h _)
      (fun _x _y => .leaveDoze) (fun _x _y => .on .setStacks (.on .trained (.on .zeroSpace .zeroSpace))) (fun _x h => h _)))
      (fun _x h => h _) (fun _x h => h _) (fun _x _y => .enterDoze) (fun _x _y => .enterChrysalis) (fun _x h => h _)

theorem wake {rst : BitVec 4} {ev : BitVec 8} : s.Keeps (s.wake rst ev) :=
  .ite (.same rfl) (.ite .modPwr (.ite (.ite .startWake (.same rfl)) (.ite (.ite (.same rfl) .modPwr) (.ite .beginTransition (.same rfl)))))

theorem sampleStack {n : Nat} : s.Keeps (s.sampleStack n) := by
  delta State.sampleStack
  extract_lets k r s1
  exact .ite (.on .setSticky (.same rfl)) (.same rfl)

theorem sampleGroup {g : Nat} : s.Keeps (s.sampleGroup g) :=
  .ite (.on .setSticky (.on .modStack .modPwr)) (.on .modStack .modPwr)

theorem thermalTrip {l : List Nat} : s.Keeps (s.thermalTrip l) := by
  delta State.thermalTrip
  extract_lets s1 s2
  exact .ite (.on .modPwr (.on .stopAll (.on .modPwr .setSticky))) (.on .modPwr .setSticky)

theorem tripMore {l : List Nat} : s.Keeps (s.tripMore l) := .ite .modPwr (.same rfl)

theorem settleTherm : s.Keeps s.settleTherm := .on .latch .modPwr

/-! ### Counters and time -/

theorem clearCounters : s.Keeps s.clearCounters := .same rfl

theorem writeClrall : s.Keeps s.writeClrall := .ite (.same rfl) .clearCounters

theorem writeCntVal {k : Nat} {v : BitVec 48} : s.Keeps (s.writeCntVal k v) := .same rfl

theorem writeWlog {v : BitVec 5} : s.Keeps (s.writeWlog v) := .ite (.updCnt fun _x => rfl) (.same rfl)

theorem writeWclr : s.Keeps s.writeWclr := .updCnt wf_mapFilter

theorem tickCounter {k : Nat} {w : BitVec 32} : s.Keeps (s.tickCounter k w) := by
  delta State.tickCounter
  extract_lets ev on was s1
  exact .on (.same (s := s1) rfl) (.ite .bump (.ite .bump (.same rfl)))

theorem tickCounters : s.Keeps s.tickCounters := .ite (.same rfl) (.foldl (fun _x _y => .tickCounter))

theorem holdTimers {dt : Nat} : s.Keeps (s.holdTimers dt) := .same rfl

theorem tick : s.Keeps s.tick := by
  delta State.tick
  extract_lets passed
  exact .ite (.on .holdTimers (.on (.same (s := s.tickCounters) rfl) .tickCounters)) (.ite (.same rfl) (.same rfl))

/-! ### Registers -/

theorem writeCntCtl {k : Nat} {v : Word} : s.Keeps (s.writeCntCtl k v) := .same rfl

theorem writeCounter {k : Nat} {val : Bool} {v : Word} : s.Keeps (s.writeCounter k val v) := .ite .writeCntVal .writeCntCtl

theorem writeGctrl {v : Word} : s.Keeps (s.writeGctrl v) := by
  delta State.writeGctrl
  extract_lets s1 s2
  exact .ite (.on .writeClrall (.ite (.on .startSnap (.same rfl)) (.same rfl))) (.ite (.on .startSnap (.same rfl)) (.same rfl))

theorem writeWctrl {v : Word} : s.Keeps (s.writeWctrl v) := by
  delta State.writeWctrl
  extract_lets s1
  exact .ite (.on .writeWclr .writeWlog) .writeWlog

theorem writePortCtrl {p : Nat} {v : Word} : s.Keeps (s.writePortCtrl p v) := .on .writePortEn .modPort

theorem putReg {v : Word} {x1 : RegAt} : s.Keeps (s.putReg v x1) :=
  regSparse s.Keeps (fun _x => (.same rfl)) (fun _x _y _z _w => optionCases s.Keeps (.ite .modCore (.ite .writeHaltreq (.same rfl)))
      (fun _x => .writeCounter)) (fun _x _y _z _w => optionCases s.Keeps (.same rfl) (fun _x => .writeCounter))
      (fun _x _y _z => optionCases s.Keeps (optionCases s.Keeps (.ite .writeGctrl (.ite .writeWctrl (.same rfl)))
          (fun _x => .writeCounter)) (fun _x => .writePortCtrl)) (fun _x _y h => h _) (fun _x _y h => h _) (fun _x h => h _)

theorem writeReg {off : Nat} {v : Word} : s.KeepsOk (s.writeReg off v) := by
  delta State.writeReg
  extract_lets a
  exact .ite .error (.ite .error (.ite .error (.ite .error (.ok .putReg))))

/-! ### Commands -/

theorem writeBuf {off : Nat} {b : Byte} : s.Keeps (s.writeBuf off b) := by
  delta State.writeBuf
  extract_lets onTile
  exact bufCases s.Keeps (fun _x _y => .modCore) (fun _x _y => .modCore) (fun _x _y => .modCore) (.same rfl)

theorem writeBufs {off : Nat} {l : List Byte} : s.Keeps (s.writeBufs off l) := by
  induction l generalizing s off with
  | nil => exact .same rfl
  | cons b l ih => exact ih.on .writeBuf

theorem bufWrite {off : Nat} {d : List Byte} : s.Keeps (s.bufWrite off d) := .on (.foldl (fun _x _y => .modCore)) .writeBufs

theorem cmdCross {a : CmdAddr} : s.Keeps (s.cmdCross a) := .ite .targetCross (.same rfl)

theorem readMem {a : CmdAddr} {found : List (Nat × EccFind)} : s.Keeps (s.readMem a found).1 :=
  .iteFst (.same rfl) (.on .readSpans .cmdCross)

theorem writeMem {a : CmdAddr} {d : List Byte} {found : List (Nat × EccFind)} : s.Keeps (s.writeMem a d found).1 :=
  .iteFst .bufWrite (.on .writeSpans .cmdCross)

theorem doErrClear {ctag : BitVec 16} {p : List Byte} : s.Keeps (s.doErrClear ctag p) := .on .respond .clearSticky

theorem doMemRead {ctag : BitVec 16} {p : List Byte} {found : List (Nat × EccFind)} : s.Keeps (s.doMemRead ctag p found) := by
  delta State.doMemRead
  extract_lets a
  exact .ite .respond (optionCases s.Keeps (.on .respond .readMem) (fun _x => .on .respond .readMem))

theorem doMemWrite {ctag : BitVec 16} {p : List Byte} {found : List (Nat × EccFind)} : s.Keeps (s.doMemWrite ctag p found) := by
  delta State.doMemWrite
  extract_lets a
  exact .ite .respond (.ite .respond (boolCases s.Keeps (.on .respond .writeMem) (.on .respond .writeMem)))

theorem doRegRead {ctag : BitVec 16} {p : List Byte} : s.Keeps (s.doRegRead ctag p) :=
  optionCases s.Keeps .respond (fun _x => exceptCases s.Keeps (fun _x => .respond) (fun _x => .respond))

theorem doRegWrite {ctag : BitVec 16} {p : List Byte} : s.Keeps (s.doRegWrite ctag p) :=
  optionCases s.Keeps .respond (fun _x => State.KeepsOk.cases .writeReg (fun _x => .respond) (fun _x => .respond))

theorem doMouldLoad {ctag : BitVec 16} {p : List Byte} : s.Keeps (s.doMouldLoad ctag p) := by
  delta State.doMouldLoad
  extract_lets off
  exact .ite .respond (.on .respond .stage)

theorem acceptPour {f : Nat} {d : FlaskDef} {p : List Byte} : s.Keeps (s.acceptPour f d p) := by
  delta State.acceptPour
  extract_lets s1
  exact .on .modFlask (.on .modPwr (.foldl (fun _x _y => .modCore)))

theorem doPourStart {ctag : BitVec 16} {p : List Byte} : s.Keeps (s.doPourStart ctag p) := by
  delta State.doPourStart
  extract_lets f
  exact .ite .respond (optionCases s.Keeps .respond (fun _x => .ite .respond (.ite .respond (.on .stage3 (.ite (.on .powerEvent
      (.on .respond .acceptPour)) (.on .respond .acceptPour))))))

theorem stopFor {f : Nat} {ctag : BitVec 16} {op : BitVec 8} {why : StopWhy} : s.Keeps (s.stopFor f ctag op why) := by
  delta State.stopFor
  extract_lets s1
  exact .on .modCp (.on .modFlask (stageSparse s.Keeps (fun _x => .stopFlask) (fun _x h => h _) (fun _x h => h _)
      (fun _x h => h _) (fun _x _y _z => stopSparse s.Keeps (fun _x => (.same rfl)) (fun _x h => h _) (fun _x h => h _) (fun _x h => h _)
      (fun _x _y => .modFlask) (fun _x h => h _)) (fun _x h => h _)))

theorem doPourAbort {ctag : BitVec 16} {p : List Byte} : s.Keeps (s.doPourAbort ctag p) := by
  delta State.doPourAbort
  extract_lets f
  exact .ite .respond (.ite .respond (.ite .respond .stopFor))

theorem doFlaskReset {ctag : BitVec 16} {p : List Byte} : s.Keeps (s.doFlaskReset ctag p) := by
  delta State.doFlaskReset
  extract_lets f
  exact .ite .respond (.ite .respond (.ite .stopFor (.on .respond .flaskResetCores)))

theorem doPowerState {ctag : BitVec 16} {p : List Byte} : s.Keeps (s.doPowerState ctag p) := by
  delta State.doPowerState
  extract_lets t
  exact .ite (.same rfl) (.ite .respond (.on .beginTransition (.same rfl)))

theorem doWarmReset {ctag : BitVec 16} : s.Keeps (s.doWarmReset ctag) := by
  delta State.doWarmReset
  extract_lets s1
  exact .on .modCp (.on .modPwr (.on .respond (optionCases s.Keeps (.same rfl) (fun _x => .on .respond .abandon))))

theorem cmdAct {op : BitVec 8} {ctag : BitVec 16} {p : List Byte} {found : List (Nat × EccFind)} : s.Keeps
    (s.cmdAct op ctag p found) :=
  litCases s.Keeps .respond (fun _x => litCases s.Keeps .doErrClear (fun _x => litCases s.Keeps .doMemRead
      (fun _x => litCases s.Keeps .doMemWrite (fun _x => litCases s.Keeps .doRegRead (fun _x => litCases s.Keeps .doRegWrite
      (fun _x => litCases s.Keeps .doMouldLoad (fun _x => litCases s.Keeps .startCommit (fun _x => litCases s.Keeps .doPourStart
      (fun _x => litCases s.Keeps .doPourAbort (fun _x => litCases s.Keeps .doFlaskReset (fun _x => litCases s.Keeps .startAttest
      (fun _x => litCases s.Keeps .startDebug (fun _x => litCases s.Keeps .startOwn
      (fun _x => litCases s.Keeps .startDecommission (fun _x => litCases s.Keeps .doPowerState
          (fun _x => litCases s.Keeps .doWarmReset (fun _x => (.same rfl))))))))))))))))))

theorem cmdStart {op : BitVec 8} {ctag : BitVec 16} {p : List Byte} {found : List (Nat × EccFind)} : s.Keeps
    (s.cmdStart op ctag p found) := by
  delta State.cmdStart
  extract_lets s1 s2
  exact optionCases s.Keeps (.on .cmdAct (.on .modCp (.ite (.same rfl) .countIn))) (fun _x => .on .respond (.on .modCp
      (.ite (.same rfl) .countIn)))

theorem runWaiting {n : Nat} {s : State} : s.Keeps (State.runWaiting n s) := by
  induction n generalizing s with
  | zero => exact .same rfl
  | succ n ih =>
    exact listCases s.Keeps (.same rfl) fun _x _y => .ite (.on ih (.on .cmdStart .modCp)) (.same rfl)

theorem cmdNew {op : BitVec 8} {ctag : BitVec 16} {p : List Byte} {found : List (Nat × EccFind)} : s.Keeps
    (s.cmdNew op ctag p found) := by
  delta State.cmdNew
  extract_lets s1
  exact .ite (.on .cmdStart (.same rfl)) (.same rfl)

theorem cmdAccepted {op : BitVec 8} {ctag : BitVec 16} {p : List Byte} {found : List (Nat × EccFind)} : s.Keeps
    (s.cmdAccepted op ctag p found) :=
  optionCases s.Keeps .cmdNew (fun _x => optionCases s.Keeps .modCp (fun _x => .ite .cmdNew (.on .emit .modCp)))

theorem command {op : BitVec 8} {h : CpHdr} {p : List Byte} {found : List (Nat × EccFind)} : s.Keeps (s.command op h p found) :=
  .ite (.same rfl) (.ite .discard (.ite (.on .outOfOrder .cpArrives) (.on .cmdAccepted (.on .takeAck (.on .modCp .cpArrives)))))

theorem dropWaiting {ctag : BitVec 16} : s.Keeps (s.dropWaiting ctag) :=
  optionCases s.Keeps (.same rfl) (fun _x => .on .respond .modCp)

/-! ### Management -/

theorem setCml : s.Keeps s.setCml := .modPwr

theorem smbAnswer {l : List Byte} : s.Keeps (s.smbAnswer l) := .modPwr

theorem smbus {pec : Bool} {act : State → State} (ha : ∀ (v : State), v.Keeps (act v)) : s.Keeps (s.smbus pec act) :=
  .ite (.same rfl) (.ite (ha _) .setCml)

theorem tapDr {ir : BitVec 8} {dr : BitVec 128} : s.Keeps (s.tapDr ir dr) := .same rfl

theorem tapWord {ir : BitVec 8} {w : Word} : s.Keeps (s.tapWord ir w) := .on .tapDr .freeBytes

theorem tapOpen {ir : BitVec 8} : s.Keeps (s.tapOpen ir) := .on .tapDr .freeBytes

theorem boundary {ir : BitVec 8} : s.Keeps (s.boundary ir) := .ite (.same rfl) (.ite .tapOpen .tapDr)

/-! ### Commands and time -/

/-- What a command does keeps memory sound and the queue. -/
theorem exec (c : Instr) : ∀ s : State, s.KeepsOut (Machine.exec c s) := by
  induction c with
  | add | sub | mul | and | or | xor | shl | shr | sra | min | max => exact fun _x => .next .aluReg
  | addI | subI | mulI | andI | orI | xorI | shlI | shrI | sraI | minI | maxI => exact fun _x => .next .aluImm
  | movi => exact fun _x => State.Keeps.execMovi
  | movhi => exact fun _x => State.Keeps.execMovhi
  | cmp => exact fun _x => State.Keeps.execCmp
  | cmpI => exact fun _x => State.Keeps.execCmpI
  | pand | por | pxor => exact fun _x => .next .predOp
  | pnot => exact fun _x => State.Keeps.execPnot
  | br => exact fun _x => State.Keeps.execBr
  | brReg => exact fun _x => State.Keeps.execBrReg
  | brLink => exact fun _x => State.Keeps.execBrLink
  | brFork => exact fun _x => State.Keeps.execBrFork
  | hset => exact fun _x => .next (.issue (fun _x => .hsetAct))
  | hget => exact fun _x => .next (.issue (fun _x => .hgetAct))
  | halt => exact fun _x => State.Keeps.execHalt
  | commit => exact fun _x => State.Keeps.execCommit
  | fenceE => exact fun _x => State.Keeps.execFenceE
  | semWait => exact fun _x => State.Keeps.execSemWait
  | semPost => exact fun _x => State.Keeps.execSemPost
  | tokenWait => exact fun _x => State.Keeps.execTokenWait
  | tokenSignal => exact fun _x => State.Keeps.execTokenSignal
  | lmm | lmmRes2 | lmmRes4 | lmmRes8 | lmmRr | tcfg | tzero | tmove | ntt | intt | auto | vchain | vred | mred
  | rescale | ld | ldS | stS | ldH | stH | ldC | ldt | stt | gather | scatter | rput | rget | radd | fill | cksum
  | kexp => exact fun _x => .next (.issue (fun _x => .enqueue))
  | vhistArm => exact fun _x => State.Keeps.execVhistArm
  | vhistClear => exact fun _x => State.Keeps.execVhistClear
  | vhistRead => exact fun _x => State.Keeps.execVhistRead
  | queueFullIssue | slotStallResume => exact fun _x => .next .retryHeld
  | tokenPlaceIssue => exact fun s => .next (optionCases s.Keeps .retryHeld (fun _x => .ite (.on .tokenPut .progress) (.same rfl)))
  | tokenWaitSatisfied => exact fun s => .next (optionCases s.Keeps (.same rfl) (fun _x => .ite (.on .tokenTake .progress) (.same rfl)))
  | semWaitSatisfied => exact fun s => .next (optionCases s.Keeps (.same rfl) (fun _x => .ite (.on .semTake .progress) (.same rfl)))
  | fenceRelease => exact fun s => .next (optionCases s.Keeps (.same rfl) (fun _x => .ite (.same rfl) (.on .advance .progress)))
  | forkThreadStart => exact fun s => .next (optionCases s.Keeps (.same rfl) (fun _x => .ite (.on .forkAct .progress) (.same rfl)))
  | lmeInstructionStart => exact fun _x => State.Keeps.execLmeInstructionStart
  | lmeInstructionComplete => exact fun _x => .next (.ite (.on .completeFlight .refreshBmag) (.same rfl))
  | lmeAbort | engineWatchdogExpiry => exact fun s => .next (optionCases s.Keeps (.same rfl) (fun _x => .ite .abortFlight (.same rfl)))
  | teInstructionStart => exact fun _x => .next (.startUnit (fun _x _y => .teAct))
  | teInstructionComplete | veInstructionComplete => exact fun _x => .next .completeFlight
  | teAbort =>
    exact fun s => .next (optionCases s.Keeps (.same rfl) (fun _x => .ite (.same rfl) (optionCases s.Keeps (optionCases s.Keeps (.same rfl)
        (fun _x => .permAbort)) (fun _x => optionCases s.Keeps (.ite .permAbort .abortFlight) (fun _x => .ite
        (.ite .permAbort .abortFlight) .permAbort)))))
  | veInstructionStart => exact fun _x => .next (.on (.startUnit (fun _x _y => .veAct)) .vePreRead)
  | veAbort =>
    exact fun s => .next (optionCases s.Keeps (.same rfl) (fun _x => boolSparse s.Keeps (fun _x => (.same rfl)) (fun _x h => h _)
        (fun _x _y => optionSparse s.Keeps (fun _x => (.same rfl)) (fun _x h => h _) (fun _x _y _z => .abortFlight))))
  | seInstructionStart =>
    exact fun s => .next (listCases s.Keeps (.same rfl) (fun _x _y => .ite (optionCases s.Keeps (.same rfl) (fun _x => .on .pourFault
        (.on .progress (.same rfl)))) (.same rfl)))
  | transferIssue => exact fun _x => .next (.ite (.same rfl) (State.KeepsOpt.cases .issueOf (.same rfl) (fun _x => .modCore)))
  | transferComplete =>
    exact fun s => .next (optionCases s.Keeps (optionCases s.Keeps (.same rfl) (fun _x => .ite (.same rfl) .landWalk)) (fun _x => .ite (.same rfl)
        (optionCases s.Keeps (.on .settle (.on .endXfer .landXfer)) (fun _x => .on .seFault (.on .endXfer .landXfer)))))
  | seInstructionComplete =>
    exact fun s => .next (optionCases s.Keeps (.same rfl) (fun _x => .ite (.same rfl) (.on .progress (.ite (.on .postTo (.on .unbusy
        (.on .modCore (.on .spoil (.ite .modThread (.ite .modThread (.ite .modCore (.ite .modCore (.ite .modCore
        (.ite .modCore (.same rfl))))))))))) (.on .unbusy (.on .modCore (.on .spoil (.ite .modThread (.ite .modThread (.ite .modCore
        (.ite .modCore (.ite .modCore (.ite .modCore (.same rfl))))))))))))))
  | kexpHeaderArrival => exact fun _x => State.Keeps.execKexpHeaderArrival
  | transferTimeout =>
    exact fun s => .next (optionCases s.Keeps (optionCases s.Keeps (.same rfl) (fun _x => .ite (.same rfl) (.same rfl))) (fun _x => .ite (.same rfl)
        (.on .seFault (.on .endXfer (.ite (.on .modAct (.ite (.on .landWrites .freeBytes) .freeBytes)) (.ite
        (.on .landWrites .freeBytes) .freeBytes))))))
  | remoteTokenDeliver =>
    exact fun s => .next (optionCases s.Keeps (.same rfl) (fun _x => optionCases s.Keeps (.same rfl) (fun _x => .ite (.on .reply
        (.ite .modCore (.same rfl))) (.same rfl))))
  | tokenStarved =>
    exact fun s => .next (.ite (optionCases s.Keeps (optionCases s.Keeps (.same rfl) (fun _x => .pourFault))
        (fun _x => .pourFault)) (.same rfl))
  | pourNoProgressTimeout => exact fun _x => .next (.ite .bareFault (.same rfl))
  | flaskQuiet =>
    exact fun _x => .next (.ite (.on .runWaiting (.on .modCp (.on .settleMould .quietStep))) (.on .settleMould .quietStep))
  | pourNormalEnd =>
    exact fun _x => .next (.ite (.on .endPour (.on .sendCommitDone (.on .committed (.on .writeRecords .flipWork)))) (.same rfl))
  | commitFlip =>
    exact fun _x => .next (.ite (.on (.foldl (fun _x _y => .resumeCore)) (.on .modFlask (.ite (.on .sendCommitDone
        (.on .committed (.on .writeRecords .flipWork))) (.on .committed (.on .writeRecords .flipWork))))) (.same rfl))
  | pourCodeLoaded =>
    exact fun _x => .next (.ite (.ite (.on (.foldl (fun _x _y => .redeliver)) (.on .startCores
        (.on .dropAgain .copyCodes))) .copyCodes) (.same rfl))
  | info | errClear | memRead | memWrite | regRead | regWrite | mouldLoad | mouldCommit | pourStart | pourAbort
  | flaskReset | attest | debugLevel | own | decommission | powerState | warmReset => exact fun _x => .next .command
  | mouldApplyDone =>
    exact fun s => .next (optionCases s.Keeps (.same rfl) (fun _x => .ite (.on .respond (.on (.upd rfl) .applyMould)) (.same rfl)))
  | warmResetBegin => exact fun _x => .next (.ite (.on .modPwr (.on .modCp .stopAll)) (.same rfl))
  | commandTimeout =>
    exact fun s => .next (.ite (.same rfl) (optionCases s.Keeps .dropWaiting (fun _x => .ite (.on .respond .abandon) .dropWaiting)))
  | freeze => exact fun _x => .next .setFreeze
  | snap => exact fun _x => .next .startSnap
  | snapDone => exact fun _x => .next (.ite (.ite (.same rfl) (.same rfl)) (.same rfl))
  | clrall => exact fun _x => .next .writeClrall
  | cntValWrite =>
    exact fun s => .next (counterSparse s.Keeps (fun _x => .writeCntVal) (fun _x _y _z _w => .ite (.same rfl) .writeCntVal)
        (fun _x _y _z h => h _) (fun _x _y h => h _))
  | wlogWrite => exact fun _x => .next .writeWlog
  | wclr => exact fun _x => .next .writeWclr
  | windowEnd => exact fun _x => .next (.ite (.updCnt wf_mapFilter) (.same rfl))
  | portEnWrite => exact fun _x => .next .writePortEn
  | haltreq => exact fun _x => .next .writeHaltreq
  | cpLock => exact fun _x => .next (.ite .enterSync (.same rfl))
  | cpLossOfLock | cpLivenessExpiry => exact fun _x => .next (.ite .cpDown (.same rfl))
  | cpSync =>
    exact fun _x => .next (.ite .discard (.ite (.on .trySync (.on .laneOut (.on .modCp (.ite
        (.on .enterSync .cpArrives) .cpArrives)))) (.same rfl)))
  | cpSyncAck => exact fun _x => .next (.ite .discard (.ite (.on .trySync (.on .modCp .cpArrives)) (.same rfl)))
  | cpSyncTimer => exact fun _x => .next (.ite .sendSync (.same rfl))
  | cpIdle => exact fun _x => .next (.ite (.on .takeAck .cpArrives) (.same rfl))
  | cpNak => exact fun _x => .next (.ite (.ite (.on .takeAck .cpArrives) (.on .resendHeldCp (.on .takeAck .cpArrives))) (.same rfl))
  | cpResendTimeout => exact fun _x => .next (.ite .resendHeldCp (.same rfl))
  | cpIdleTimer => exact fun _x => .next (.ite .laneOut (.same rfl))
  | stickyEventTimer => exact fun _x => .next (.ite (.same rfl) (.on .event (.same rfl)))
  | fabTrainDone => exact fun _x => .next (.ite (.on .sendMgmt .modPort) (.same rfl))
  | fabTrainTimeout => exact fun _x => .next (.ite .modPort (.same rfl))
  | fabPortRetryTimer => exact fun _x => .next (.ite .portTrain (.same rfl))
  | hello =>
    exact fun _x => .next (.ite (.ite (.on .portLeave (.on .modPort .crossed)) (.ite (.on .portUp (.on .modPort .crossed))
        (.ite (.on .sendMgmt (.on .modPort (.on .draw (.on .modPort .crossed)))) (.on .portLeave
        (.on .modPort .crossed))))) (.same rfl))
  | keyx => exact fun _x => .next (.ite (.ite (.on .portLeave .crossed) (.on .modSec (.on .modPort .crossed))) (.same rfl))
  | keyxTimeout => exact fun _x => .next (.ite .portLeave (.same rfl))
  | fabLossOfLock | fabLivenessExpiry => exact fun _x => .next (.ite .portDown (.same rfl))
  | idle =>
    exact fun s => .next (.ite (.ite (.on (.foldl (fun s _x => optionCases s.Keeps (.same rfl) (fun _x => .on .hubEvent
        (.on .crossed (.same rfl))))) (.on .modPort (.on .acked (.on .modPort (.on .hubEvent .crossed))))) (.on .acked (.on .modPort
        (.on .hubEvent .crossed)))) (.same rfl))
  | fabIdleTimer => exact fun _x => .next (.ite .sendIdle (.same rfl))
  | lsa => exact fun _x => State.Keeps.execLsa
  | lsaTimer => exact fun _x => .next (.ite .flood (.same rfl))
  | lsaAgeOut => exact fun _x => .next (.ite (.same rfl) (.same rfl))
  | routeRecomputeDone => exact fun _x => .next (.on .loseTransfers (.on (.foldl (fun _x _y => .resendHeld)) (.same rfl)))
  | lastseqTimeout => exact fun _x => .next (.ite (.same rfl) (.on (.foldl (fun _x _y => .loseFrame)) .modPort))
  | put => exact fun _x => .next (.arriveFrame (fun _x s => .putAct))
  | addFrame => exact fun _x => .next (.arriveFrame (fun _x s => .addAct))
  | getReq => exact fun _x => .next (.arriveFrame (fun _x s => .getAct))
  | post => exact fun _x => .next (.arriveFrame (fun _x s => .postAct))
  | ack => exact fun _x => .next (.arriveFrame (fun _x s => .ackAct))
  | nack => exact fun _x => .next (.arriveFrame (fun _x s => .nackAct))
  | getResp => exact fun _x => .next (.arriveFrame (fun _x s => .getRespAct))
  | lost => exact fun _x => .next (.arriveFrame (fun _x s => .lostAct))
  | crossbarParityError =>
    exact fun _x => .next (.ite (.on .loseFrame (.on .setSticky .captureLink)) (.ite (.same rfl) (.ite .discardFrame (.ite
        (.on .askResend (.on .acked .modPort)) (.on .loseFrame (.on .setSticky (.on .captureLink (.on .crossed (.on .acked
        (.on .modPort .hubEvent))))))))))
  | meshParityError => exact fun _x => State.Keeps.execMeshParityError
  | scrub =>
    exact fun s => .next (scrubCases s.Keeps (fun _x _y => .ite (.same rfl) (.ite .scrubBlock (.ite .scrubBlock (.same rfl))))
        (fun _x => .ownWord))
  | channelMoveDone => exact fun s => .next (optionCases s.Keeps (.same rfl) (fun _x => .moveEnds))
  | thermalSample =>
    exact fun _x => .next (.ite (.same rfl) (.on .settleTherm (.ite (.ite (.on .modPwr (.on (.foldl (fun _x _y => .sampleStack)) (.on
        (.foldl (fun _x _y => .sampleGroup)) (.on .modPwr (.foldl (fun _x _y => .modStack)))))) (.on (.foldl
        (fun _x _y => .sampleStack)) (.on (.foldl (fun _x _y => .sampleGroup)) (.on .modPwr (.foldl (fun _x _y => .modStack))))))
        (.ite (.on .tripMore (.on (.foldl (fun _x _y => .sampleStack)) (.on (.foldl (fun _x _y => .sampleGroup)) (.on .modPwr
        (.foldl (fun _x _y => .modStack)))))) (.on .thermalTrip (.on (.foldl (fun _x _y => .sampleStack)) (.on (.foldl
        (fun _x _y => .sampleGroup)) (.on .modPwr (.foldl (fun _x _y => .modStack))))))))))
  | governorTick => exact fun _x => .next (.ite (.same rfl) (.ite (.same rfl) (.on .tryReset (.on .govern (.on .gateSome (.same rfl))))))
  | rampLimitTimer => exact fun _x => .next (.ite .setSticky (.same rfl))
  | coreFence => exact fun _x => .next (.ite (.same rfl) .fenceCore)
  | fenceDeferredEffect => exact fun _x => .next (.ite .takeFence (.same rfl))
  | flaskRecovery =>
    exact fun s => .next (optionCases s.Keeps (.same rfl) (fun _x => .ite (.ite (.on .fencedEnd (.on (.foldl
        (fun _x _y => .dropShares)) .discardWork)) (.ite (.on .fencedEnd (.on (.foldl (fun _x _y => .dropShares)) .discardWork))
        (optionCases s.Keeps (.on .prepare (.on .rehostAll (.on (.foldl (fun _x _y => .dropShares)) .discardWork)))
        (fun _x => .on .fencedEnd (.on .rehostAll (.on (.foldl (fun _x _y => .dropShares)) .discardWork)))))) (.same rfl)))
  | retainedCopyDone =>
    exact fun s => .next (optionCases s.Keeps (.same rfl) (fun _x => optionCases s.Keeps (.same rfl) (fun _x => .ite (.on .resumeFlask
        (.on .modFlask (.on .darken (.on (.foldl (fun s _x => .foldl (fun _x _y => .copySpan))) .findErrors)))) (.on .modFlask
        (.on .darken (.on (.foldl (fun s _x => .foldl (fun _x _y => .copySpan))) .findErrors))))))
  | timeShareSwap => exact fun s => .next (optionCases s.Keeps (.same rfl) (fun _x => .ite .modFlask (.same rfl)))
  | securityJobComplete =>
    exact fun s => .next (listSparse s.Keeps (fun _x => (.same rfl)) (fun _x h => h _) (fun _x _y _z _w _v => spSparse s.Keeps
        (fun _x => (.same rfl)) (fun _x _y => optionCases s.Keeps .setJobs (fun _x => .ite (.on .signReport .setJobs) .setJobs))
        (fun _x _y _z => .on .keyed .setJobs) (fun _x h => h _)))
  | bneVerifyComplete =>
    exact fun s => .next (listCases s.Keeps (.same rfl) (fun _x _y => bneSparse s.Keeps (fun _x => optionCases s.Keeps .modSec
        (fun _x => .on .commandVerified .modSec)) (fun _x _y => optionCases s.Keeps .modSec
        (fun _x => .on .mouldVerified .modSec)) (fun _x h => h _) (fun _x h => h _) (fun _x h => h _) (fun _x h => h _)
            (fun _x _y _z => .on .portVerified .modSec) (fun _x _y _z => .on .portVerified .modSec) (fun _x _y _z => .modSec)))
  | debugZeroiseDone =>
    exact fun s => .next (optionCases s.Keeps (.same rfl) (fun _x => .ite (.on .settleFences (.on .debugEnd
        (.on .setLevel .zeroise))) (.same rfl)))
  | powerTransitionComplete =>
    exact fun s => .next (optionCases s.Keeps (.same rfl) (fun _x => .ite (.same rfl) (.on .nextTransition (.ite (optionCases s.Keeps
        (.on .modPwr .enter) (fun _x => .ite (.on .bgEnd (.on .modPwr .enter)) (.on .modPwr .enter))) (.on .powerEvent
        (optionCases s.Keeps (.on .modPwr .enter) (fun _x => .ite (.on .bgEnd (.on .modPwr .enter)) (.on .modPwr .enter))))))))
  | powerOn | inputRecoveryTimer => exact fun _x => .next (.ite .modPwr (.same rfl))
  | bulkCharged => exact fun _x => .next (.ite (.on .modPwr (.on .newNonce (.on .fenceFused .readFuses))) (.same rfl))
  | trainingDone =>
    exact fun _x => .next (.ite (.on .nextTransition (.on .modPwr (.on .trained (.on .applyMapFuse (.on .zeroSpace
        (.on .zeroSpace .zeroSpace)))))) (.same rfl))
  | powerLoss => exact fun _x => .next .powerOff
  | inputFault => exact fun _x => .next (.ite .inputFault (.same rfl))
  | presentMate => exact fun _x => .next .modPwr
  | presentBreak => exact fun _x => .next (.ite (.on .inputFault .modPwr) .modPwr)
  | resetN => exact fun _x => .next (.ite .modPwr (.ite (.on .modPwr .triggerReset) (.ite (.on .modPwr .startWake) (.same rfl))))
  | wakeN => exact fun _x => .next (.ite .wake (.same rfl))
  | clockFault => exact fun _x => .next (.ite (.ite .fenceCore (.same rfl)) (.ite (.on .tryReset .triggerReset) (.same rfl)))
  | clearFaults => exact fun _x => .next (.smbus (fun _x => .modPwr))
  | statusWord | readVin | readIin | readTemperature1 | readTemperature2 | readTemperature3 | readPin | pmbusRevision
  | mfrSticky | mfrPowerState => exact fun _x => .next (.smbus (fun _x => .smbAnswer))
  | mfrWake => exact fun _x => .next (.smbus (fun _x => .ite .wake .setCml))
  | smbusInvalidCommand => exact fun _x => .next (.ite .setCml (.same rfl))
  | tapReset => exact fun _x => .next .tapDr
  | extest | samplePreload => exact fun _x => .next .boundary
  | idcode | bypass => exact fun _x => .next (.ite .tapDr (.same rfl))
  | dbgreg =>
    exact fun s => .next (.ite (.same rfl) (.ite .tapDr (.ite (State.KeepsOk.cases .writeReg (fun _x => .tapOpen)
        (fun _x => .tapOpen)) (.ite (exceptCases s.Keeps (fun _x => .tapOpen) (fun _x => .tapWord)) .tapOpen))))
  | dbgmem =>
    exact fun s => .next (.ite (.same rfl) (.ite .tapDr (.ite .tapOpen (.ite (.on .tapOpen .writeMem) (.ite (optionCases s.Keeps
        (.on .tapOpen .readMem) (fun _x => .on .tapWord .readMem)) .tapOpen)))))
  | undefinedOpcodeIssue => exact fun _x => .ite (.next (.same rfl)) (.next (.issue fun _x => (.same rfl)))
  | badOpcodeCommand => exact fun _x => .next (.ite (.same rfl) .command)
  | cpFrameDiscard => exact fun s => .next (.ite (optionCases s.Keeps .discard (fun _x => .ite .outOfOrder .discard)) (.same rfl))
  | fabricFrameDiscard => exact fun _x => .next (.ite .discardFrame (.same rfl))
  | sha512DigestDone =>
    exact fun s => .next (listSparse s.Keeps (fun _x => (.same rfl)) (fun _x h => h _) (fun _x _y _z _w _v => optionSparse s.Keeps
        (fun _x => (.same rfl)) (fun _x h => h _) (fun _x _y _z => .ite .modSec (.ite (.on .mouldHashed .modSec) (.same rfl)))))
  | bneCurveCheckDone =>
    exact fun s => .next (listCases s.Keeps (.same rfl) (fun _x _y => bneSparse s.Keeps (fun _x => optionCases s.Keeps .modSec
        (fun _x => .ite (.on .bgEnd .modSec) (.same rfl))) (fun _x h => h _) (fun _x h => h _) (fun _x h => h _) (fun _x h => h _)
        (fun _x h => h _) (fun _x _y h => h _) (fun _x _y h => h _) (fun _x _y _z => .ite .modSec (.ite
        (.on .portLeave .modSec) (.same rfl)))))
  | fuseProgrammingDone =>
    exact fun s => .next (listSparse s.Keeps (fun _x => (.same rfl)) (fun _x h => h _) (fun _x _y _z _w _v => spSparse s.Keeps
        (fun _x => (.same rfl)) (fun _x h => h _) (fun _x _y h => h _) (fun _x _y => optionSparse s.Keeps (fun _x => (.same rfl))
        (fun _x h => h _) (fun _x _y _z => .ite (.same rfl) (.ite (.same rfl) (.on .setLevel (.same rfl)))))))
  | lifecycleZeroingDone =>
    exact fun s => .next (optionCases s.Keeps (.same rfl) (fun _x => .ite (.on .settleFences (.on .bgEnd .zeroAll)) (.same rfl)))
  | selfTestDone =>
    exact fun _x => .next (.ite (.on .startHub (.on .modPwr (.ite (.on .setStacks (.foldl (fun _x _y => .fenceCore))) (.foldl
        (fun _x _y => .fenceCore))))) (.same rfl))
  | resetNRelease => exact fun _x => .next (.on .tryReset .modPwr)
  | resetSequenceDone =>
    exact fun s => .next (.ite (optionCases s.Keeps (.on .powerEvent (.on .startHub .modPwr)) (fun _x => .ite
        (.on .startHub .modPwr) .modPwr)) (.ite (.ite (.on .enterSync (.ite (optionCases s.Keeps (.on .modPwr (.ite
        (.on .powerCores (.on .setStacks .warmReset)) .warmReset)) (fun _x => .on .modPwr (.ite (.on .powerCores
        (.on .setStacks .warmReset)) .warmReset))) (.on .powerEvent (optionCases s.Keeps (.on .modPwr (.ite (.on .powerCores
        (.on .setStacks .warmReset)) .warmReset)) (fun _x => .on .modPwr (.ite (.on .powerCores
        (.on .setStacks .warmReset)) .warmReset)))))) (.on .modCp (.ite (optionCases s.Keeps (.on .modPwr (.ite
            (.on .powerCores (.on .setStacks .warmReset)) .warmReset)) (fun _x => .on .modPwr (.ite (.on .powerCores
            (.on .setStacks .warmReset)) .warmReset))) (.on .powerEvent (optionCases s.Keeps (.on .modPwr (.ite
            (.on .powerCores (.on .setStacks .warmReset)) .warmReset)) (fun _x => .on .modPwr (.ite (.on .powerCores
            (.on .setStacks .warmReset)) .warmReset))))))) (.same rfl)))
  | timeShareSwapDone => exact fun s => .next (optionCases s.Keeps (.same rfl) (fun _x => .ite .swapCore (.same rfl)))

end

end State.Keeps

/-- Settles O60: a tick keeps the queue empty, and a command is run on what is left of the queue. -/
theorem stepsKeepMemorySound : Obligations.StepsKeepMemorySound := by
  intro s t h
  delta step at h
  cases hp : s.pending with
  | nil =>
    rw [hp] at h
    obtain ⟨hsound, hpending⟩ : s.Keeps t := Host.Outcome.next.inj h ▸ State.Keeps.tick
    exact ⟨hsound, by rw [hpending, hp]; rfl⟩
  | cons c rest =>
    rw [hp] at h
    obtain ⟨u, hu, hsound, hpending⟩ := State.Keeps.exec c { s with pending := rest }
    obtain rfl := Host.Outcome.next.inj (hu.symm.trans h)
    exact ⟨hsound, hpending⟩

end Sys2Proof.Machine
end

section
/-! PROOFS. A step is the command at the front; and what the scalar and predicate instructions write (R285, R293 to R296). -/

set_option Elab.async false
set_option tactic.hygienic false

namespace Sys2Proof.Machine

/-! ### Steps -/

/-- Settles O1: the step function takes the front command, and what a command answers is a next state that keeps memory sound. -/
theorem stepRunsTheFront : Obligations.StepRunsTheFront := by
  intro c s
  obtain ⟨t, ht, -⟩ := State.Keeps.exec c s
  exact ⟨rfl, t, ht⟩

/-! ### Writing a register or a predicate and going on -/

theorem State.thread_issued_ins (s : State) (opc : BitVec 8) (i : Ins) (n : Nat) :
    (s.issued ⟨opc, i⟩).thread i.core n = s.thread i.core n :=
  s.issued_thread ⟨opc, i⟩ n

/-- An instruction that issues, changes its thread but for the PC, and goes on. -/
theorem State.leaves_modThread_advance {s : State} {o : Op} {g : Thread → Thread} (hg : ∀ x, (g x).pc = x.pc) (hn : s.nextOk o) :
    s.leaves o ((g (s.thread o.core o.thread)).past o) (.next (((s.issued o).modThread o.core o.thread g).advance o)) :=
  ⟨_, rfl, s.advance_thread (s.issued o) o g (s.issued_onlyThread o) hg hn (s.issued_thread o _)⟩

theorem State.leaves_writeScalar {s : State} {o : Op} (d : Nat) (v : Word) (hn : s.nextOk o) :
    s.leaves o (((s.thread o.core o.thread).setReg d v).past o) (.next ((s.issued o).writeScalar o d v)) :=
  State.leaves_modThread_advance (fun _x => rfl) hn

theorem Thread.pc_setPred (x : Thread) (n : Nat) (v : Bool) : (x.setPred n v).pc = x.pc := by
  unfold Thread.setPred
  split <;> rfl

theorem State.leaves_writePred {s : State} {o : Op} (d : Nat) (v : Bool) (hn : s.nextOk o) :
    s.leaves o (((s.thread o.core o.thread).setPred d v).past o) (.next ((s.issued o).writePred o d v)) :=
  State.leaves_modThread_advance (fun x => x.pc_setPred d v) hn

/-! ### Register and immediate forms -/

theorem State.leaves_aluReg {s : State} {i : Ins} {opc : BitVec 8} (f : Word → Word → Word) (h : s.issues ⟨opc, i⟩)
    (hn : s.nextOk ⟨opc, i⟩) : let x := s.thread i.core i.thread
    s.leaves ⟨opc, i⟩ ((x.setReg (fld i.bits 46 5) (f (x.reg (fld i.bits 41 5)) (x.reg (fld i.bits 36 5)))).past ⟨opc, i⟩)
      (.next (s.aluReg opc i f)) := by
  intro x
  rw [State.aluReg, s.issue_of_issues _ _ h, State.issued_thread]
  exact State.leaves_writeScalar _ _ hn

theorem State.leaves_aluImm {s : State} {i : Ins} {opc : BitVec 8} (f : Word → Word → Word) (h : s.issues ⟨opc, i⟩)
    (hn : s.nextOk ⟨opc, i⟩) : let x := s.thread i.core i.thread
    s.leaves ⟨opc, i⟩ ((x.setReg (fld i.bits 46 5) (f (x.reg (fld i.bits 41 5))
      ((BitVec.ofNat 32 (fld i.bits 0 32)).signExtend 64))).past ⟨opc, i⟩) (.next (s.aluImm opc i f)) := by
  intro x
  rw [State.aluImm, s.issue_of_issues _ _ h, State.issued_thread]
  exact State.leaves_writeScalar _ _ hn

theorem signedMin_eq : signedMin = fun a b => if a.toInt < b.toInt then a else b := by
  funext a b
  simp [signedMin, BitVec.slt]

theorem signedMax_eq : signedMax = fun a b => if a.toInt < b.toInt then b else a := by
  funext a b
  simp [signedMax, BitVec.slt]

/-- Settles O3: every register form is the one operation `aluReg`, which writes one register and goes on. -/
theorem registerFormsCompute : Obligations.RegisterFormsCompute := by
  intro i s form
  refine ⟨State.leaves_aluReg _, State.leaves_aluReg _, State.leaves_aluReg _, State.leaves_aluReg _, State.leaves_aluReg _,
    State.leaves_aluReg _, State.leaves_aluReg shiftL, State.leaves_aluReg shiftR, State.leaves_aluReg shiftRA, ?_, ?_⟩
  · rw [← signedMin_eq]
    exact State.leaves_aluReg signedMin
  · rw [← signedMax_eq]
    exact State.leaves_aluReg signedMax

theorem exec_movi_of_issues {i : Ins} {s : State} (h : s.issues ⟨0x2B, i⟩) : exec (.movi i) s =
    .next ((s.issued ⟨0x2B, i⟩).writeScalar ⟨0x2B, i⟩ (fld i.bits 46 5) ((BitVec.ofNat 32 (fld i.bits 0 32)).signExtend 64)) :=
  congrArg _ (s.issue_of_issues ⟨0x2B, i⟩ _ h)

theorem exec_movhi_of_issues {i : Ins} {s : State} (h : s.issues ⟨0x2C, i⟩) : exec (.movhi i) s =
    .next ((s.issued ⟨0x2C, i⟩).writeScalar ⟨0x2C, i⟩ (fld i.bits 46 5)
      (BitVec.ofNat 32 (fld i.bits 0 32) ++ ((s.thread i.core i.thread).reg (fld i.bits 46 5)).setWidth 32 : Word)) := by
  rw [← s.thread_issued_ins 0x2C i]
  exact congrArg _ (s.issue_of_issues ⟨0x2C, i⟩ _ h)

/-- Settles O4: every immediate form is the one operation `aluImm`; MOVI and MOVHI write one register and go on. -/
theorem immediateFormsCompute : Obligations.ImmediateFormsCompute := by
  intro i s imm form
  refine ⟨State.leaves_aluImm _, State.leaves_aluImm _, State.leaves_aluImm _, State.leaves_aluImm _, State.leaves_aluImm _,
    State.leaves_aluImm _, State.leaves_aluImm shiftL, State.leaves_aluImm shiftR, State.leaves_aluImm shiftRA, ?_, ?_,
    fun hi hn => ?_, fun hi hn => ?_⟩
  · rw [← signedMin_eq]
    exact State.leaves_aluImm signedMin
  · rw [← signedMax_eq]
    exact State.leaves_aluImm signedMax
  · rw [exec_movi_of_issues hi]
    exact State.leaves_writeScalar _ _ hn
  · rw [exec_movhi_of_issues hi]
    exact State.leaves_writeScalar _ _ hn

/-! ### Comparisons and predicates -/

theorem getLsbD_one_shiftLeft {d n : Nat} (hn : n < 8) : (1#8 <<< d).getLsbD n = decide (n = d) := by
  rw [← BitVec.twoPow_eq, BitVec.getLsbD_twoPow]
  by_cases h : n = d
  · rw [decide_eq_true h, ← h, decide_eq_true hn, decide_eq_true rfl, Bool.and_true]
  · rw [decide_eq_false h, decide_eq_false (Ne.symm h), Bool.and_false]

/-- A write to a predicate changes its bit, and no other but that of p0, which is never read. -/
theorem Thread.setPred_bits (x : Thread) (d : Nat) (v : Bool) : ∃ p : BitVec 8, x.setPred d v = { x with p := p } ∧
    ∀ n < 8, n ≠ 0 → p.getLsbD n = (if n = d then v else x.p.getLsbD n) := by
  by_cases hd : d = 0
  · exact ⟨x.p, if_pos hd, fun n _x hn => (if_neg (hd ▸ hn)).symm⟩
  · refine ⟨_, if_neg hd, fun n hn _x => ?_⟩
    by_cases h : n = d
    · rw [if_pos h]
      cases v with
      | false =>
        exact (BitVec.getLsbD_and ..).trans (by
          rw [BitVec.getLsbD_not, getLsbD_one_shiftLeft hn, decide_eq_true h, decide_eq_true hn]; exact Bool.and_false _)
      | true => exact (BitVec.getLsbD_or ..).trans (by rw [getLsbD_one_shiftLeft hn, decide_eq_true h, Bool.or_true])
    · rw [if_neg h]
      cases v with
      | false =>
        exact (BitVec.getLsbD_and ..).trans (by
          rw [BitVec.getLsbD_not, getLsbD_one_shiftLeft hn, decide_eq_false h, decide_eq_true hn]; exact Bool.and_true _)
      | true => exact (BitVec.getLsbD_or ..).trans (by rw [getLsbD_one_shiftLeft hn, decide_eq_false h, Bool.or_false])

/-- The comparison of a condition code, said of the integers that the words stand for (R295). -/
theorem compare'_eq (cc : Nat) (a b : Word) : compare' cc a b =
    match cc with
    | 0 => decide (a = b)
    | 1 => decide (a ≠ b)
    | 2 => decide (a.toInt < b.toInt)
    | 3 => decide (a.toInt ≤ b.toInt)
    | 4 => decide (a.toNat < b.toNat)
    | _ => decide (a.toNat ≤ b.toNat) := by
  match cc with
  | 0 => exact Bool.beq_eq_decide_eq a b
  | 1 => exact (congrArg not (Bool.beq_eq_decide_eq a b)).trans (decide_not ..).symm
  | 2 | 3 | 4 | _ + 5 => rfl

/-- An instruction that issues and writes a predicate. -/
theorem State.writesPred {s : State} {o : Op} (d : Nat) (v : Bool) (hn : s.nextOk o) : ∃ p : BitVec 8,
    s.leaves o ({ s.thread o.core o.thread with p := p }.past o) (.next ((s.issued o).writePred o d v)) ∧
    ∀ n < 8, n ≠ 0 → p.getLsbD n = (if n = d then v else (s.thread o.core o.thread).p.getLsbD n) := by
  obtain ⟨p, hp, hbits⟩ := (s.thread o.core o.thread).setPred_bits d v
  exact ⟨p, hp ▸ State.leaves_writePred d v hn, hbits⟩

theorem exec_cmp_of_issues {i : Ins} {s : State} (h : s.issues ⟨0x30, i⟩) : exec (.cmp i) s =
    .next ((s.issued ⟨0x30, i⟩).writePred ⟨0x30, i⟩ (fld i.bits 48 3) (compare' (fld i.bits 45 3)
      ((s.thread i.core i.thread).reg (fld i.bits 40 5)) ((s.thread i.core i.thread).reg (fld i.bits 35 5)))) := by
  rw [← s.thread_issued_ins 0x30 i]
  exact congrArg _ (s.issue_of_issues ⟨0x30, i⟩ _ h)

theorem exec_cmpI_of_issues {i : Ins} {s : State} (h : s.issues ⟨0x31, i⟩) : exec (.cmpI i) s =
    .next ((s.issued ⟨0x31, i⟩).writePred ⟨0x31, i⟩ (fld i.bits 48 3) (compare' (fld i.bits 45 3)
      ((s.thread i.core i.thread).reg (fld i.bits 40 5)) ((BitVec.ofNat 32 (fld i.bits 0 32)).signExtend 64))) := by
  rw [← s.thread_issued_ins 0x31 i]
  exact congrArg _ (s.issue_of_issues ⟨0x31, i⟩ _ h)

theorem predOp_of_issues {i : Ins} {s : State} {opc : BitVec 8} (f : Bool → Bool → Bool) (h : s.issues ⟨opc, i⟩) :
    s.predOp opc i f = (s.issued ⟨opc, i⟩).writePred ⟨opc, i⟩ (fld i.bits 48 3)
      (f ((s.thread i.core i.thread).pred (fld i.bits 45 3)) ((s.thread i.core i.thread).pred (fld i.bits 42 3))) := by
  rw [← s.thread_issued_ins opc i]
  exact s.issue_of_issues ⟨opc, i⟩ _ h

theorem exec_pnot_of_issues {i : Ins} {s : State} (h : s.issues ⟨0x37, i⟩) : exec (.pnot i) s =
    .next ((s.issued ⟨0x37, i⟩).writePred ⟨0x37, i⟩ (fld i.bits 48 3) (!(s.thread i.core i.thread).pred (fld i.bits 45 3))) := by
  rw [← s.thread_issued_ins 0x37 i]
  exact congrArg _ (s.issue_of_issues ⟨0x37, i⟩ _ h)

/-- Settles O5: each instruction writes one predicate and goes on, and `setPred_bits` says which bit that changes. -/
theorem predicatesAreWritten : Obligations.PredicatesAreWritten := by
  intro i s x cc compare form
  have hcompare : compare = compare' cc := funext fun a => funext fun b => (compare'_eq cc a b).symm
  rw [hcompare]
  have hpred (opc : BitVec 8) (f : Bool → Bool → Bool) (hi : s.issues ⟨opc, i⟩) (hn : s.nextOk ⟨opc, i⟩) :=
    predOp_of_issues f hi ▸ State.writesPred (o := ⟨opc, i⟩) (fld i.bits 48 3)
      (f (x.pred (fld i.bits 45 3)) (x.pred (fld i.bits 42 3))) hn
  refine ⟨fun hi hn => ?_, fun hi hn => ?_, hpred 0x34 (· && ·), hpred 0x35 (· || ·), hpred 0x36 (· != ·), fun hi hn => ?_,
    fun _x _y _z => rfl⟩
  · rw [exec_cmp_of_issues hi]
    exact State.writesPred _ _ hn
  · rw [exec_cmpI_of_issues hi]
    exact State.writesPred _ _ hn
  · rw [exec_pnot_of_issues hi]
    exact State.writesPred _ _ hn

end Sys2Proof.Machine
end

section
/-! PROOFS. Skipped instructions, branches and forks: what they leave, and the fault of a bad target (R246, R248, R251, R285,
R297). -/

set_option Elab.async false
set_option tactic.hygienic false

namespace Sys2Proof.Machine

/-! ### What follows from a frame -/

theorem State.onlyCore_mould {s t : State} {c : Nat} (h : s.onlyCore t c) : t.mould = s.mould := (congrArg State.mould h.1 :)

theorem State.onlyCore_now {s t : State} {c : Nat} (h : s.onlyCore t c) : t.now = s.now := (congrArg State.now h.1 :)

theorem State.onlyCore_fab {s t : State} {c : Nat} (h : s.onlyCore t c) : t.fab = s.fab := (congrArg State.fab h.1 :)

theorem State.onlyCore_stage {s t : State} {c : Nat} (h : s.onlyCore t c) (f : Nat) : (t.flask f).stage = (s.flask f).stage :=
  (congrArg Flask.stage (h.2.2.1 f) :)

theorem State.onlyCore_arg {s t : State} {c : Nat} (h : s.onlyCore t c) (f : Nat) : (t.flask f).arg = (s.flask f).arg :=
  (congrArg Flask.arg (h.2.2.1 f) :)

theorem State.onlyCore_hosts {s t : State} {c : Nat} (h : s.onlyCore t c) (f : Nat) : t.hosts f = s.hosts f :=
  (congrArg Flask.map (h.2.2.1 f) :)

theorem State.onlyCore_flaskDef {s t : State} {c : Nat} (h : s.onlyCore t c) (f : Nat) : t.flaskDef f = s.flaskDef f := by
  rw [State.flaskDef, State.onlyCore_mould h, State.flaskDef]

/-- A core issues for a pour that runs (R271). -/
theorem State.running_of_coreIssues {s : State} {c f l : Nat} (h : s.coreIssues c = true) (hs : s.serving c = some (f, l)) :
    (s.flask f).stage = .running := by
  unfold State.coreIssues at h
  simp only [hs, Bool.and_eq_true, decide_eq_true_eq] at h
  exact h.1.1.1.1

theorem State.serving_of_coreIssues {s : State} {c : Nat} (h : s.coreIssues c = true) : ∃ f l, s.serving c = some (f, l) := by
  cases hs : s.serving c with
  | none =>
    delta State.coreIssues at h
    rw [hs] at h
    exact absurd h Bool.false_ne_true
  | some p => exact ⟨p.1, p.2, rfl⟩

theorem State.coreIssues_of_mayIssue {s : State} {o : Op} (h : s.mayIssue o = true) : s.coreIssues o.core = true := by
  simp only [State.mayIssue, Bool.and_eq_true] at h
  exact h.1.1.1.1

theorem State.run_of_mayIssue {s : State} {o : Op} (h : s.mayIssue o = true) : (s.thread o.core o.thread).run = .run := by
  simp only [State.mayIssue, Bool.and_eq_true, decide_eq_true_eq] at h
  exact h.1.1.1.2

/-! ### A jump past the code partition -/

/-- What a jump to a PC outside the code partition leaves, from a state `v` that differs from `s` in core `c` alone (R248, R270). -/
structure State.windowFault (s t : State) (f l c n : Nat) (pc : BitVec 32) : Prop where
  stage : (t.flask f).stage = .stopping .fault
  fault : (t.flask f).fault = some ⟨fWindow, l, 0, BitVec.ofNat 8 n, pc, 0, some s.now⟩
  goes : (t.thread c n).pc = pc
  record : (s.core c).faultCode = 0 → (t.core c).faultCode = fWindow ∧ (t.core c).faultPc = pc
  queues : (s.hosts f).all (fun c => (t.core c).se.queue == [] && (t.core c).lme.queue == [] && (t.core c).te.queue == [] &&
    (t.core c).ve.queue == []) = true

theorem State.pourFault_windowFault {s w : State} {c f l n : Nat} {pc : BitVec 32} (h : s.onlyCore w c)
    (hcode : (w.core c).faultCode = (s.core c).faultCode) (hs : w.serving c = some (f, l)) (hr : (w.flask f).stage = .running)
    (hpc : (w.thread c n).pc = pc) : s.windowFault (w.pourFault c 0 n pc 0 fWindow) f l c n pc := by
  obtain ⟨hstage, hfault, hthreads, hhosts, -, -, hrecord⟩ := w.pourFault_facts 0 n pc 0 fWindow hs hr
  rw [State.onlyCore_now h] at hfault
  refine ⟨hstage, hfault, (congrArg Thread.pc (hthreads c n)).trans hpc, fun h0 => ?_, List.all_eq_true.2 fun d hd => ?_⟩
  · obtain ⟨hc, -, -, hp, -⟩ := hrecord (hcode.trans h0)
    exact ⟨hc, hp⟩
  · obtain ⟨k, hk, -⟩ := hhosts d ((State.onlyCore_hosts h f).symm ▸ hd)
    rw [hk]
    rfl

theorem State.goto_windowFault {s v : State} {c f l : Nat} (n : Nat) {pc : BitVec 32} (h : s.onlyCore v c)
    (hserves : (v.core c).serves = (s.core c).serves) (hcode : (v.core c).faultCode = (s.core c).faultCode)
    (hs : s.serving c = some (f, l)) (hr : (s.flask f).stage = .running) (hpc : s.pcOk c pc = false) :
    s.windowFault (v.goto c n pc) f l c n pc := by
  obtain ⟨hcore, hsans, -⟩ := v.modThread_onlyThread c n fun x => { x with pc := pc }
  have hw := State.onlyCore_trans h hcore
  rw [State.goto, (State.pcOk_congr c pc (State.onlyCore_mould h) hserves).trans hpc]
  refine State.pourFault_windowFault hw ((congrArg Core.faultCode hsans :).trans hcode)
    ((congrArg Core.serves hsans :).trans (hserves.trans hs)) ((State.onlyCore_stage hw f).trans hr) ?_
  rw [State.thread_modThread_self]

/-! ### Branches -/

/-- A jump of an issued instruction whose thread has become `y` goes to its target, or faults there (R248, R297). -/
theorem State.jumps {s v : State} {o : Op} {y : Thread} {pc : BitVec 32} (hi : s.issues o)
    (h : s.onlyThread v o.core o.thread) (hy : v.thread o.core o.thread = y) :
    (s.pcOk o.core pc = true → s.leaves o { y with pc := pc } (.next (v.goto o.core o.thread pc))) ∧
    (s.pcOk o.core pc = false → ∃ t f l, (.next (v.goto o.core o.thread pc) : Host.Outcome State Fault Refusal) = .next t ∧
      s.serving o.core = some (f, l) ∧ (t.flask f).stage = .stopping .fault ∧
      (t.flask f).fault = some ⟨fWindow, l, 0, BitVec.ofNat 8 o.thread, pc, 0, some s.now⟩ ∧
      (s.hosts f).all (fun c => (t.core c).se.queue == [] && (t.core c).lme.queue == [] && (t.core c).te.queue == [] &&
        (t.core c).ve.queue == []) = true) := by
  constructor
  · intro hpc
    rw [State.goto_ok _ _ _ _ ((State.onlyThread_pcOk h pc).trans hpc)]
    exact ⟨_, rfl, by rw [State.thread_modThread_self, hy], State.onlyThread_trans h (v.modThread_onlyThread _ _ _)⟩
  · intro hpc
    have hc := State.coreIssues_of_mayIssue hi.1
    obtain ⟨f, l, hs⟩ := State.serving_of_coreIssues hc
    have hfault := State.goto_windowFault o.thread h.1 (State.onlyThread_serving h) (congrArg Core.faultCode h.2.1 :) hs
      (State.running_of_coreIssues hc hs) hpc
    exact ⟨_, f, l, rfl, hs, hfault.stage, hfault.fault, hfault.queues⟩

@[simp] theorem State.branchTarget_issued (s : State) (o : Op) : (s.issued o).branchTarget o = s.branchTarget o := by
  rw [State.branchTarget, s.issued_thread, State.branchTarget]

theorem exec_br_of_issues {i : Ins} {s : State} {o : Op} (ho : o = ⟨0x08, i⟩) (h : s.issues o) :
    exec (.br i) s = .next ((s.issued o).goto o.core o.thread (s.branchTarget o)) := by
  rw [← State.branchTarget_issued]
  subst ho
  exact congrArg _ (s.issue_of_issues _ _ h)

theorem exec_brReg_of_issues {i : Ins} {s : State} {o : Op} (ho : o = ⟨0x09, i⟩) (h : s.issues o) : exec (.brReg i) s =
    .next ((s.issued o).goto o.core o.thread (((s.thread o.core o.thread).reg (o.f 46 5)).setWidth 32)) := by
  rw [← s.issued_thread o]
  subst ho
  exact congrArg _ (s.issue_of_issues _ _ h)

theorem exec_brLink_of_issues {i : Ins} {s : State} {o : Op} (ho : o = ⟨0x0A, i⟩) (h : s.issues o) : exec (.brLink i) s =
    .next (((s.issued o).modThread o.core o.thread
      fun z => z.setReg (o.f 46 5) ((s.thread o.core o.thread).pc.setWidth 64 + 8)).goto o.core o.thread (s.branchTarget o)) := by
  rw [← s.issued_thread o, ← State.branchTarget_issued]
  subst ho
  exact congrArg _ (s.issue_of_issues _ _ h)

/-- Settles O6: each branch sets its thread's PC through `goto`, which goes there or faults. -/
theorem branchesGo : Obligations.BranchesGo := by
  intro i s x rel form
  refine ⟨fun hi => ?_, fun hi => ?_, fun hi => ?_⟩
  · rw [exec_br_of_issues rfl hi, show s.branchTarget ⟨0x08, i⟩ = rel from rfl]
    exact State.jumps (o := ⟨0x08, i⟩) hi (s.issued_onlyThread _) (s.issued_thread _ _)
  · rw [exec_brReg_of_issues rfl hi]
    exact State.jumps (o := ⟨0x09, i⟩) hi (s.issued_onlyThread _) (s.issued_thread _ _)
  · rw [exec_brLink_of_issues rfl hi, show s.branchTarget ⟨0x0A, i⟩ = rel from rfl]
    refine State.jumps (o := ⟨0x0A, i⟩) hi (State.onlyThread_trans (s.issued_onlyThread _) (State.modThread_onlyThread _ _ _ _)) ?_
    rw [State.thread_modThread_self, s.issued_thread]
    rfl

/-! ### Rows and skipped instructions -/

theorem elim_ite_none {α : Type} {p : Prop} [Decidable p] {a : α} {q : α → Prop} (h : p → q a) :
    (if p then some a else none).elim True q := by
  split
  · next hp => exact h hp
  · trivial

theorem elim_none_ite {α : Type} {p : Prop} [Decidable p] {a : α} {q : α → Prop} (h : ¬ p → q a) :
    (if p then none else some a).elim True q := by
  split
  · trivial
  · next hp => exact h hp

/-- From `v` to `w` the core of `o` changes, but not what it serves, its recorded fault, or its thread's PC. -/
structure State.readied (v w : State) (o : Op) : Prop where
  frame : v.onlyCore w o.core
  serves : (w.core o.core).serves = (v.core o.core).serves
  code : (w.core o.core).faultCode = (v.core o.core).faultCode
  goes : (w.thread o.core o.thread).pc = (v.thread o.core o.thread).pc

theorem State.readied_modThread (v : State) (o : Op) (g : Thread → Thread) (hg : ∀ x, (g x).pc = x.pc) :
    v.readied (v.modThread o.core o.thread g) o := by
  obtain ⟨hcore, hsans, -⟩ := v.modThread_onlyThread o.core o.thread g
  exact ⟨hcore, (congrArg Core.serves hsans :), (congrArg Core.faultCode hsans :), by rw [State.thread_modThread_self, hg]⟩

theorem State.readied_trans {u v w : State} {o : Op} (h : u.readied v o) (g : v.readied w o) : u.readied w o :=
  ⟨State.onlyCore_trans h.frame g.frame, g.serves.trans h.serves, g.code.trans h.code, g.goes.trans h.goes⟩

theorem State.readied_issued (s : State) (o : Op) : s.readied (s.issued o) o := by
  obtain ⟨hcore, hsans, -⟩ := s.issued_onlyThread o
  exact ⟨hcore, (congrArg Core.serves hsans :), (congrArg Core.faultCode hsans :), by rw [s.issued_thread]⟩

theorem State.readied_modCore (v : State) (o : Op) (g : Core → Core) (hserves : ∀ k, (g k).serves = k.serves)
    (hcode : ∀ k, (g k).faultCode = k.faultCode) (hthread : ∀ k n, (g k).thread n = k.thread n) :
    v.readied (v.modCore o.core g) o :=
  ⟨v.modCore_onlyCore _ _, by rw [State.core_modCore_self, hserves], by rw [State.core_modCore_self, hcode],
    by rw [State.thread, State.core_modCore_self, hthread, State.thread]⟩

@[simp] theorem Core.faultCode_promise (k : Core) (o : Op) : (k.promise o).faultCode = k.faultCode := by
  unfold Core.promise
  split <;> rfl

@[simp] theorem Core.faultCode_addEntry (k : Core) (u : Nat) (e : QEnt) (n : Nat) : (k.addEntry u e n).faultCode = k.faultCode :=
  match u with
  | 0 | 1 | 2 | 3 | 4 | _ + 5 => rfl

theorem State.readied_entered (v : State) (o : Op) : v.readied (v.entered o) o := by
  exact State.readied_trans (v.readied_modThread o (fun x => { x with busy := x.busy ++ writeRegs o }) fun _x => rfl)
    (State.readied_modCore _ o _ (by simp) (by simp) (by simp))

/-- An instruction that computes, moves slots or enters an engine's queue: one that readies its core and goes on. -/
noncomputable def Op.advances (o : Op) : Bool :=
  opcodeListed o.code && decide (unitOf o.code ≠ 0 ∨ o.code = 0x0C ∨ o.code = 0x0D ∨ 0x10 ≤ o.code)

/-- The action of `o` readies its core and goes on. -/
def Op.goesOn (o : Op) (act : State → State) : Prop := ∀ v, ∃ w, act v = w.advance o ∧ v.readied w o

theorem Op.goesOn_enqueue (o : Op) : o.goesOn fun v => v.enqueue o := fun v => ⟨v.entered o, v.enqueue_eq o, v.readied_entered o⟩

theorem Op.goesOn_writeScalar (o : Op) (d : Nat) (w : State → Word) : o.goesOn fun v => v.writeScalar o d (w v) :=
  fun v => ⟨_, rfl, v.readied_modThread o _ fun _x => rfl⟩

theorem Op.goesOn_writePred (o : Op) (d : Nat) (b : State → Bool) : o.goesOn fun v => v.writePred o d (b v) :=
  fun v => ⟨_, rfl, v.readied_modThread o _ fun x => x.pc_setPred _ _⟩

theorem Op.goesOn_hsetAct (o : Op) : o.goesOn fun v => v.hsetAct o :=
  fun v => ⟨_, rfl, v.readied_modCore o _ (fun _x => rfl) (fun _x => rfl) fun _x _y => rfl⟩

/-- A row issues `o` with an action of its own, one that goes on where `o` is to. -/
def rowActs (exec : State → Host.Outcome State Fault Refusal) (o : Op) : Prop :=
  ∃ act : State → State, (∀ s, exec s = .next (s.issue o act)) ∧ (o.advances = true → o.goesOn act)

theorem rowActs.of_goesOn {ex : State → Host.Outcome State Fault Refusal} {o : Op} {act : State → State}
    (h : ex = fun s => .next (s.issue o act)) (hgoes : o.goesOn act) : rowActs ex o := ⟨act, fun s => congrFun h s, fun _x => hgoes⟩

theorem rowActs.of_stays {ex : State → Host.Outcome State Fault Refusal} {o : Op} {act : State → State}
    (h : ex = fun s => .next (s.issue o act)) (hstays : o.advances = false) : rowActs ex o :=
  ⟨act, fun s => congrFun h s, fun hadv => absurd (hstays.symm.trans hadv) Bool.false_ne_true⟩

theorem rowActs.of_enqueue {ex : State → Host.Outcome State Fault Refusal} {o : Op}
    (h : ex = fun s => .next (s.issue o fun v => v.enqueue o)) : rowActs ex o := .of_goesOn h (Op.goesOn_enqueue o)

theorem action_of_row (c : Instr) : c.asOp.elim True (rowActs (exec c)) := by
  cases c with
  | vhistArm | vhistClear | vhistRead =>
    exact elim_ite_none fun hform => .of_enqueue (funext fun s => congrArg _ (if_pos hform))
  | undefinedOpcodeIssue op i =>
    exact elim_none_ite fun hunlisted => .of_stays (funext fun s => if_neg hunlisted)
      (eq_false_of_ne_true fun h => hunlisted ((Bool.and_eq_true _ _).mp h).1)
  | halt | commit | fenceE | semWait | semPost | tokenWait | tokenSignal | br | brReg | brLink | brFork => exact .of_stays rfl rfl
  | hset => exact .of_goesOn rfl (Op.goesOn_hsetAct _)
  | hget i =>
    exact .of_goesOn rfl (Op.goesOn_writeScalar ⟨0x0D, i⟩ _ fun v => (v.core i.core).slotWord (fld i.bits 36 10) (fld i.bits 32 4))
  | movi | movhi | add | sub | mul | and | or | xor | shl | shr | sra | min | max
  | addI | subI | mulI | andI | orI | xorI | shlI | shrI | sraI | minI | maxI => exact .of_goesOn rfl (Op.goesOn_writeScalar _ _ _)
  | cmp | cmpI | pand | por | pxor | pnot => exact .of_goesOn rfl (Op.goesOn_writePred _ _ _)
  | lmm | lmmRes2 | lmmRes4 | lmmRes8 | lmmRr | tcfg | tzero | tmove | ntt | intt | auto | vchain | vred | mred | rescale
  | ld | ldS | ldH | ldC | stS | stH | ldt | stt | gather | scatter | rput | rget | radd | fill | cksum | kexp =>
    exact .of_enqueue rfl
  -- Every other row stands for no instruction word.
  | _ => trivial

theorem rowActs_of_row {c : Instr} {o : Op} (h : c.asOp = some o) : rowActs (exec c) o := by
  have hact := action_of_row c
  rwa [h] at hact

theorem exec_of_row {c : Instr} {o : Op} (h : c.asOp = some o) : ∃ act : State → State, ∀ s, exec c s = .next (s.issue o act) :=
  have ⟨act, hexec, _⟩ := rowActs_of_row h
  ⟨act, hexec⟩

/-- A fetched instruction whose fetch changes nothing is issued from the state as it is. -/
theorem State.issue_of_fetched {s : State} {o : Op} (act : State → State) (hm : s.mayIssue o = true)
    (hf : s.fetchThrough o = (s, true)) : s.issue o act = s.issueFetched o act := by
  unfold State.issue
  rw [hf]
  simp [hm]

/-- Counting a skipped instruction changes the record of who issued last and when, and the counters. -/
theorem State.skipped_onlyThread (s : State) (o : Op) (ev : Nat) : s.onlyThread ((s.useCycle o).coreEvent o.core ev) o.core o.thread :=
  State.onlyThread_trans (s.useCycle_onlyThread o _) (State.counted_onlyThread (State.coreEvent_counted _ _ _) _ _)

theorem State.issueFetched_skip {s : State} {o : Op} (act : State → State) (h : s.guardOn o = false) :
    s.issueFetched o act = ((s.useCycle o).coreEvent o.core 0x02).advance o := by
  unfold State.issueFetched
  simp [h]

/-- Settles O13: every row issues its instruction, and an instruction whose guard is 0 goes on before any check. -/
theorem guardSkips : Obligations.GuardSkips := by
  intro c o s hc hm hf hg hn
  obtain ⟨act, hexec⟩ := exec_of_row hc
  rw [hexec, s.issue_of_fetched act hm hf, s.issueFetched_skip act hg]
  refine State.leaves_advance (s.skipped_onlyThread o 0x02) ?_ hn
  rw [State.thread_counted (State.coreEvent_counted _ _ _), s.thread_useCycle]

/-! ### Bytes of words -/

theorem length_leBytes (n v : Nat) : (leBytes n v).length = n := by
  induction n generalizing v with
  | zero => rfl
  | succ n ih => rw [leBytes, List.length_cons, ih]

theorem getElem_leBytes {n i : Nat} (v : Nat) (h : i < (leBytes n v).length) :
    (leBytes n v)[i] = BitVec.ofNat 8 (v / 256 ^ i) := by
  induction n generalizing v i with
  | zero => exact absurd h (Nat.not_lt_zero i)
  | succ n ih =>
    cases i with
    | zero => exact congrArg (BitVec.ofNat 8) (Nat.div_one v).symm
    | succ i =>
      exact (ih (v / 256) (Nat.lt_of_succ_lt_succ h)).trans (congrArg (BitVec.ofNat 8)
        ((Nat.div_div_eq_div_mul v 256 (256 ^ i)).trans (congrArg (v / ·) Nat.pow_succ'.symm)))

/-- Byte `i` of the number that bytes stand for. -/
theorem byte_leNat {l : List Byte} {i : Nat} (h : i < l.length) : BitVec.ofNat 8 (leNat l / 256 ^ i) = l[i] := by
  induction l generalizing i with
  | nil => exact absurd h (Nat.not_lt_zero i)
  | cons b r ih =>
    cases i with
    | zero =>
      exact BitVec.eq_of_toNat_eq ((congrArg (· % 256) (Nat.div_one (b.toNat + 256 * leNat r))).trans
        ((Nat.add_mul_mod_self_left _ _ _).trans (Nat.mod_eq_of_lt b.isLt)))
    | succ i =>
      have hdiv : leNat (b :: r) / 256 = leNat r := (Nat.add_mul_div_left _ _ (Nat.zero_lt_succ _)).trans
        ((congrArg (· + leNat r) (Nat.div_eq_of_lt b.isLt)).trans (Nat.zero_add _))
      exact (congrArg (BitVec.ofNat 8) ((congrArg (leNat (b :: r) / ·) Nat.pow_succ').trans
        ((Nat.div_div_eq_div_mul _ _ _).symm.trans (congrArg (· / 256 ^ i) hdiv)))).trans (ih (Nat.lt_of_succ_lt_succ h))

theorem leNat_lt (l : List Byte) : leNat l < 256 ^ l.length := by
  induction l with
  | nil => exact Nat.one_pos
  | cons b r ih =>
    exact Nat.lt_of_lt_of_le (Nat.add_lt_add_right b.isLt (256 * leNat r)) ((Nat.add_comm _ _).le.trans
      ((Nat.mul_le_mul_left 256 ih).trans (Nat.mul_comm _ _).le))

theorem get_writeBytes_ne (m : Sparse Byte) {base j : Nat} {l : List Byte} (h : j < base ∨ base + l.length ≤ j) :
    Sparse.get 0 (writeBytes m base l) j = Sparse.get 0 m j := by
  induction l generalizing m base with
  | nil => rfl
  | cons b r ih =>
    exact (ih (Sparse.set 0 m base b) (h.imp Nat.lt_succ_of_lt (Nat.add_right_comm base 1 r.length).le.trans)).trans
      (Sparse.get_set_ne _ _ _ (h.elim Nat.ne_of_lt fun h => Nat.ne_of_gt (Nat.lt_of_succ_le ((Nat.le_add_right base _).trans_lt h))))

theorem get_writeBytes (m : Sparse Byte) (base : Nat) {l : List Byte} {i : Nat} (h : i < l.length) :
    Sparse.get 0 (writeBytes m base l) (base + i) = l[i] := by
  induction l generalizing m base i with
  | nil => exact absurd h (Nat.not_lt_zero i)
  | cons b r ih =>
    cases i with
    | zero => exact (get_writeBytes_ne _ (.inl (Nat.lt_succ_self base))).trans (Sparse.get_set_self _ _ _ _)
    | succ i =>
      exact (congrArg (Sparse.get 0 _) (Nat.add_right_comm base i 1)).trans (ih (Sparse.set 0 m base b) (base + 1)
        (Nat.lt_of_succ_lt_succ h))

theorem length_readBytes (m : Sparse Byte) (base n : Nat) : (readBytes m base n).length = n := by simp [readBytes]

theorem getElem_readBytes (m : Sparse Byte) (base n : Nat) {i : Nat} (h : i < (readBytes m base n).length) :
    (readBytes m base n)[i] = Sparse.get 0 m (base + i) := by simp [readBytes]

/-! ### Slot words -/

/-- A change of the core that keeps its threads and its pour keeps the next instruction in the code partition. -/
theorem State.nextOk_modCore_modThread {s v : State} {o : Op} {g : Core → Core} (h : s.onlyThread v o.core o.thread)
    (hx : v.thread o.core o.thread = s.thread o.core o.thread) (hserves : ∀ k, (g k).serves = k.serves)
    (hthread : ∀ k n, (g k).thread n = k.thread n) (hn : s.nextOk o) : (v.modCore o.core g).nextOk o := by
  have hcore : (v.modCore o.core g).core o.core = g (v.core o.core) := v.core_modCore_self _ _
  have ht : (v.modCore o.core g).thread o.core o.thread = v.thread o.core o.thread := by
    rw [State.thread, hcore, hthread, State.thread]
  rw [State.nextOk, ht, State.pcOk_congr (s := v) (t := v.modCore o.core g) o.core _ rfl (by rw [hcore, hserves])]
  exact State.nextOk_of_onlyThread h hx hn

/-- An instruction that changes its core by `g`, which keeps threads and pour, and goes on, from a state that differs in its thread
alone. -/
theorem State.modCore_advance {s v : State} {o : Op} {g : Core → Core} (h : s.onlyThread v o.core o.thread)
    (hx : v.thread o.core o.thread = s.thread o.core o.thread) (hserves : ∀ k, (g k).serves = k.serves)
    (hthread : ∀ k n, (g k).thread n = k.thread n) (hn : s.nextOk o) :
    let t := (v.modCore o.core g).advance o
    t.thread o.core o.thread = (s.thread o.core o.thread).past o ∧ s.onlyCore t o.core ∧
      (∀ u, u ≠ o.thread → t.thread o.core u = s.thread o.core u) ∧
      (t.core o.core).sansThreads = (g (v.core o.core)).sansThreads := by
  have hcore : (v.modCore o.core g).core o.core = g (v.core o.core) := v.core_modCore_self _ _
  have ht : ∀ n, (v.modCore o.core g).thread o.core n = v.thread o.core n := fun n => by
    rw [State.thread, hcore, hthread, State.thread]
  obtain ⟨hpast, honly⟩ := (v.modCore o.core g).advance_next o (State.nextOk_modCore_modThread h hx hserves hthread hn)
  refine ⟨by rw [hpast, ht, hx], State.onlyCore_trans h.1 (State.onlyCore_trans (v.modCore_onlyCore _ _) honly.1), fun u hu => ?_, ?_⟩
  · rw [honly.2.2 u hu, ht, h.2.2 u hu]
  · rw [honly.2.1, hcore]

/-- The bytes of a core's slots rest on nothing that its threads hold. -/
theorem Core.slots_of_sansThreads {k l : Core} (h : k.sansThreads = l.sansThreads) : k.arch.rcd.slots = l.arch.rcd.slots :=
  (congrArg (fun k : Core => k.arch.rcd.slots) h :)

/-- What HSET leaves, from a state that differs in its thread alone. -/
theorem State.hsetAct_facts {s v : State} {o : Op} (h : s.onlyThread v o.core o.thread)
    (hx : v.thread o.core o.thread = s.thread o.core o.thread) (hn : s.nextOk o) :
    let t := v.hsetAct o
    let base := 128 * o.f 41 10 + 8 * o.f 37 4
    t.thread o.core o.thread = (s.thread o.core o.thread).past o ∧ s.onlyCore t o.core ∧
      (∀ u, u ≠ o.thread → t.thread o.core u = s.thread o.core u) ∧
      (∀ b < 8, Sparse.get 0 (t.core o.core).arch.rcd.slots (base + b) =
        BitVec.ofNat 8 (((s.thread o.core o.thread).reg (o.f 32 5)).toNat / 256 ^ b)) ∧
      (∀ a, ¬ (base ≤ a ∧ a < base + 8) →
        Sparse.get 0 (t.core o.core).arch.rcd.slots a = Sparse.get 0 (s.core o.core).arch.rcd.slots a) := by
  intro t base
  obtain ⟨hpast, hcore, hthreads, hsans⟩ := State.modCore_advance
    (g := fun k => k.setSlot (o.f 41 10) (8 * o.f 37 4) (leBytes 8 ((v.thread o.core o.thread).reg (o.f 32 5)).toNat))
    h hx (fun _x => rfl) (fun _x _y => rfl) hn
  have hslots : (t.core o.core).arch.rcd.slots =
      writeBytes (s.core o.core).arch.rcd.slots base (leBytes 8 ((v.thread o.core o.thread).reg (o.f 32 5)).toNat) := by
    rw [← Core.slots_of_sansThreads h.2.1]
    exact Core.slots_of_sansThreads hsans
  refine ⟨hpast, hcore, hthreads, fun b hb => ?_, fun a ha => ?_⟩
  · rw [hslots, get_writeBytes _ _ (by rw [length_leBytes]; exact hb), getElem_leBytes, hx]
  · rw [hslots]
    exact get_writeBytes_ne _ ((Nat.lt_or_ge a base).imp_right fun h => Nat.le_of_not_lt fun hlt => ha ⟨h, hlt⟩)

/-- The word that HGET reads has the eight bytes of the slot. -/
theorem Core.byte_slotWord (k : Core) (h w : Nat) {b : Nat} (hb : b < 8) :
    BitVec.ofNat 8 ((k.slotWord h w).toNat / 256 ^ b) = Sparse.get 0 k.arch.rcd.slots (128 * h + 8 * w + b) := by
  have hlt := leNat_lt (readBytes k.arch.rcd.slots (128 * h + 8 * w) 8)
  rw [length_readBytes, show 256 ^ 8 = 2 ^ 64 from rfl] at hlt
  rw [Core.slotWord, readLE, BitVec.toNat_ofNat, Nat.mod_eq_of_lt hlt, byte_leNat (by rw [length_readBytes]; exact hb), getElem_readBytes]

/-- Writing a register and going on, from a state that differs in the thread alone. -/
theorem State.leaves_writeScalar_of {s v : State} {o : Op} (h : s.onlyThread v o.core o.thread)
    (hx : v.thread o.core o.thread = s.thread o.core o.thread) (hn : s.nextOk o) (d : Nat) (w : Word) :
    s.leaves o (((s.thread o.core o.thread).setReg d w).past o) (.next (v.writeScalar o d w)) :=
  ⟨_, rfl, s.advance_thread v o (fun x => x.setReg d w) h (fun _x => rfl) hn hx⟩

/-- What HGET leaves, from a state that differs in its thread alone. -/
theorem State.hgetAct_leaves {s v : State} {o : Op} (h : s.onlyThread v o.core o.thread)
    (hx : v.thread o.core o.thread = s.thread o.core o.thread) (hn : s.nextOk o) :
    s.leaves o (((s.thread o.core o.thread).setReg (o.f 46 5) ((s.core o.core).slotWord (o.f 36 10) (o.f 32 4))).past o)
      (.next (v.hgetAct o)) := by
  have hslots : (v.core o.core).slotWord (o.f 36 10) (o.f 32 4) = (s.core o.core).slotWord (o.f 36 10) (o.f 32 4) := by
    rw [Core.slotWord, Core.slots_of_sansThreads h.2.1, Core.slotWord]
  rw [State.hgetAct, hslots]
  exact State.leaves_writeScalar_of h hx hn _ _

theorem exec_hset_of_issues {i : Ins} {s : State} (h : s.issues ⟨0x0C, i⟩) :
    exec (.hset i) s = .next ((s.issued ⟨0x0C, i⟩).hsetAct ⟨0x0C, i⟩) :=
  congrArg Host.Outcome.next (s.issue_of_issues ⟨0x0C, i⟩ _ h)

theorem exec_hget_of_issues {i : Ins} {s : State} (h : s.issues ⟨0x0D, i⟩) :
    exec (.hget i) s = .next ((s.issued ⟨0x0D, i⟩).hgetAct ⟨0x0D, i⟩) :=
  congrArg Host.Outcome.next (s.issue_of_issues ⟨0x0D, i⟩ _ h)

/-- Settles O8: HSET is one write of eight bytes to the slots, HGET one register write of the word read there. -/
theorem slotWordsAreSetAndGot : Obligations.SlotWordsAreSetAndGot := by
  intro i s x slot
  refine ⟨fun hi hn => ?_, fun hi hn => ⟨(s.core i.core).slotWord (fld i.bits 36 10) (fld i.bits 32 4), ?_, fun b hb => ?_⟩⟩
  · obtain ⟨hpast, hcore, hthreads, hbytes, hothers⟩ :=
      State.hsetAct_facts (s.issued_onlyThread ⟨0x0C, i⟩) (s.issued_thread _ _) hn
    refine ⟨_, exec_hset_of_issues hi, hpast, hcore, fun u hu => hthreads u (Fin.val_ne_of_ne hu),
      fun b hb => ?_, fun a ha => ?_⟩
    · exact (congrArg (Sparse.get 0 _) (Nat.add_assoc _ _ _).symm).trans (hbytes b hb)
    · exact (congrArg (Sparse.get 0 _) (Nat.zero_add a)).trans ((hothers a ha).trans (congrArg (Sparse.get 0 _) (Nat.zero_add a).symm))
  · rw [exec_hget_of_issues hi]
    exact State.hgetAct_leaves (o := ⟨0x0D, i⟩) (s.issued_onlyThread _) (s.issued_thread _ _) hn
  · rw [Core.byte_slotWord _ _ _ hb, Nat.add_assoc]

/-! ### Semaphores -/

@[simp] theorem Core.sem_modSem_self (k : Core) (p : Nat) (f : Sem → Sem) : (k.modSem p f).sem p = f (k.sem p) :=
  Sparse.get_modify_self _ _ _ _

theorem Core.sem_modSem_ne (k : Core) {p q : Nat} (f : Sem → Sem) (h : q ≠ p) : (k.modSem p f).sem q = k.sem q :=
  Sparse.get_modify_ne _ _ _ h

/-- The outcome is a next state in which `o` is past, its core's semaphore pair `p` is `x`, and nothing else has changed. -/
def State.setsSem (s : State) (o : Op) (p : Nat) (x : Sem) (out : Host.Outcome State Fault Refusal) : Prop :=
  ∃ t, out = .next t ∧ t.thread o.core o.thread = (s.thread o.core o.thread).past o ∧ s.onlyCore t o.core ∧
    (t.core o.core).sem p = x ∧ (∀ q, q ≠ p → (t.core o.core).sem q = (s.core o.core).sem q) ∧
    (t.core o.core).sansThreads.modRec (fun r => { r with sems := [] }) =
      (s.core o.core).sansThreads.modRec (fun r => { r with sems := [] }) ∧
    ∀ u : Fin 16, u ≠ o.ins.thread → t.thread o.core u = s.thread o.core u

/-- A core's semaphores rest on nothing that its threads hold. -/
theorem Core.sem_of_sansThreads {k l : Core} (h : k.sansThreads = l.sansThreads) (p : Nat) : k.sem p = l.sem p :=
  (congrArg (fun k : Core => k.sem p) h :)

/-- Changing a semaphore pair and going on, from a state that differs in the thread alone. -/
theorem State.setsSem_modSem {s v : State} {o : Op} (h : s.onlyThread v o.core o.thread)
    (hx : v.thread o.core o.thread = s.thread o.core o.thread) (hn : s.nextOk o) (p : Nat) (f : Sem → Sem) :
    s.setsSem o p (f ((s.core o.core).sem p)) (.next ((v.modCore o.core fun k => k.modSem p f).advance o)) := by
  obtain ⟨hpast, hcore, hthreads, hsans⟩ := State.modCore_advance (g := fun k => k.modSem p f) h hx (fun _x => rfl) (fun _x _y => rfl) hn
  refine ⟨_, rfl, hpast, hcore, ?_, fun q hq => ?_, ?_, fun u hu => hthreads u (Fin.val_ne_of_ne hu)⟩
  · rw [Core.sem_of_sansThreads hsans, Core.sem_modSem_self, Core.sem_of_sansThreads h.2.1]
  · rw [Core.sem_of_sansThreads hsans, Core.sem_modSem_ne _ _ hq, Core.sem_of_sansThreads h.2.1]
  · rw [hsans]
    exact (congrArg (fun k : Core => k.modRec fun r => { r with sems := [] }) h.2.1 :)

/-- A pair with `n` in one of its halves. -/
noncomputable def Sem.withHalf (x : Sem) (empty : Bool) (n : Nat) : Sem := if empty then { x with empty := n } else { x with full := n }

/-- SEM.WAIT that takes its count, from a state that differs in the thread alone. -/
theorem State.setsSem_semTake {s v : State} {o : Op} (h : s.onlyThread v o.core o.thread)
    (hx : v.thread o.core o.thread = s.thread o.core o.thread) (hn : s.nextOk o) :
    let x := (s.core o.core).sem (o.f 43 8)
    let e := o.f 42 1 == 1
    s.setsSem o (o.f 43 8) (x.withHalf e (x.half e - 1)) (.next (v.semTake o)) := by
  intro x e
  have hf : x.withHalf e (x.half e - 1) = if e then { x with empty := x.empty - 1 } else { x with full := x.full - 1 } := by
    unfold Sem.withHalf Sem.half
    cases e <;> rfl
  rw [hf]
  exact State.setsSem_modSem h hx hn (o.f 43 8) fun x => if e then { x with empty := x.empty - 1 } else { x with full := x.full - 1 }

theorem exec_semWait_of_issues {i : Ins} {s : State} (h : s.issues ⟨0x04, i⟩) : exec (.semWait i) s =
    .next (if 1 ≤ ((s.core i.core).sem (fld i.bits 43 8)).half (fld i.bits 42 1 == 1) then (s.issued ⟨0x04, i⟩).semTake ⟨0x04, i⟩
      else (s.issued ⟨0x04, i⟩).hold ⟨0x04, i⟩ (.semWait (fld i.bits 43 8) (fld i.bits 42 1 == 1)) 0x05) := by
  have hsem := Core.sem_of_sansThreads (s.issued_onlyThread ⟨0x04, i⟩).2.1 (fld i.bits 43 8)
  simp only [Op.core] at hsem
  rw [← hsem]
  exact congrArg Host.Outcome.next (s.issue_of_issues _ _ h)

theorem exec_semPost_of_issues {i : Ins} {s : State} {o : Op} (ho : o = ⟨0x05, i⟩) (h : s.issues o) : exec (.semPost i) s =
    .next (((s.issued o).modCore o.core fun k => k.post (o.f 43 8) (o.f 42 1 == 1) (o.f 34 8)).advance o) := by
  subst ho
  exact congrArg Host.Outcome.next (s.issue_of_issues _ _ h)

theorem exec_semWaitSatisfied_of_held {i : Ins} {s : State} {p n : Nat} {b : Bool}
    (h : (s.thread i.core i.thread).held = some ⟨.semWait p b, n, ⟨0x04, i⟩⟩) : exec (.semWaitSatisfied i.core i.thread) s =
    .next (if s.coreIssues i.core = true ∧ 1 ≤ ((s.core i.core).sem (fld i.bits 43 8)).half (fld i.bits 42 1 == 1) then
      (s.progress i.core).semTake ⟨0x04, i⟩ else s) := by
  show execSemWaitSatisfied i.core i.thread s = _
  rw [execSemWaitSatisfied, State.heldFor_of_held h rfl]
  by_cases hc : s.coreIssues i.core = true
  · simp only [hc, if_true, true_and]
    rfl
  · simp [hc]

/-- Settles O10: each row is taken to the state operation that it is (take, post, hold), under the condition that the statement
names; one frame lemma says what a changed pair leaves. -/
theorem semaphoresCount : Obligations.SemaphoresCount := by
  intro i s x p empty half moved
  have hhalf (e : Bool) : half s p e = ((s.core i.core).sem p).half e := rfl
  -- A pair with a new count in the half that the instruction names.
  have hmoved (o : Op) (ho : o.ins = i) (n : Nat) (out : Host.Outcome State Fault Refusal)
      (h : s.setsSem o p (((s.core i.core).sem p).withHalf empty n) out) : moved o n out := by
    subst ho
    obtain ⟨t, rfl, hpast, hcore, hp, hq, hrest, hthreads⟩ := h
    refine ⟨t, rfl, hpast, hcore, ?_, ?_, hq, hrest, hthreads⟩ <;>
      simp only [half, show (t.core o.ins.core).sem p = _ from hp, Sem.withHalf] <;> cases empty <;> rfl
  have hzero (h0 : half s p empty = 0) : ¬ 1 ≤ ((s.core i.core).sem (fld i.bits 43 8)).half (fld i.bits 42 1 == 1) :=
    fun h1 => absurd (h0 ▸ h1 : 1 ≤ 0) (by decide)
  refine ⟨fun hi hn => ⟨fun (hc : 1 ≤ Sem.half _ _) => ?_, fun hc => ?_⟩, fun hi hn => ?_,
    fun n b hx hc hn (h1 : 1 ≤ Sem.half _ _) => ?_, fun n b hx h0 => ?_⟩
  · rw [exec_semWait_of_issues hi, if_pos hc]
    exact hmoved _ rfl _ _ (State.setsSem_semTake (o := ⟨0x04, i⟩) (s.issued_onlyThread _) (s.issued_thread _ _) hn)
  · rw [exec_semWait_of_issues hi, if_neg (hzero hc)]
    exact s.leaves_hold_issued ⟨0x04, i⟩ _ _
  · rw [exec_semPost_of_issues rfl hi]
    refine hmoved ⟨0x05, i⟩ rfl _ _ ?_
    have hpost := State.setsSem_modSem (o := ⟨0x05, i⟩) (s.issued_onlyThread _) (s.issued_thread _ _) hn p fun x =>
      if empty then { x with empty := satAdd 0xFFFF x.empty (fld i.bits 34 8) } else
        { x with full := satAdd 0xFFFF x.full (fld i.bits 34 8) }
    have hval : ((s.core i.core).sem p).withHalf empty (min 0xFFFF (half s p empty + fld i.bits 34 8)) =
        if empty then { (s.core i.core).sem p with empty := satAdd 0xFFFF ((s.core i.core).sem p).empty (fld i.bits 34 8) } else
          { (s.core i.core).sem p with full := satAdd 0xFFFF ((s.core i.core).sem p).full (fld i.bits 34 8) } := by
      rw [hhalf]
      unfold Sem.withHalf Sem.half satAdd
      cases empty <;> rfl
    rw [hval]
    exact hpost
  · rw [exec_semWaitSatisfied_of_held hx, if_pos ⟨hc, h1⟩]
    exact hmoved _ rfl _ _ (State.setsSem_semTake (o := ⟨0x04, i⟩) (s.progress_onlyThread _ _ _) (s.thread_progress _ _ _) hn)
  · rw [exec_semWaitSatisfied_of_held hx, if_neg fun h => hzero h0 h.2]

/-! ### Forks -/

/-- A thread may start when it is HALTED and nothing it issued is incomplete (R246). -/
theorem Core.mayStart_iff (k : Core) (t : Nat) :
    k.mayStart t = true ↔ (k.thread t).run = .halted ∧ ∀ e ∈ k.outstanding, e.op.thread ≠ t := by
  have hany (p : QEnt → Bool) : k.outstanding.any p = [1, 2, 3, 4].any fun u => (k.outstandingIn u).any p := by
    simp only [Core.outstanding, List.any_append, List.any_cons, List.any_nil, Bool.or_assoc, Bool.or_false]
  exact (Bool.and_eq_true _ _).to_iff.trans (and_congr decide_eq_true_iff ((Bool.not_eq_true' _).to_iff.trans
    ((hany fun e => e.op.thread == t) ▸ List.any_eq_false.trans (forall₂_congr fun _e _h => not_congr beq_iff_eq))))

theorem Core.outstanding_of_sansThreads {k l : Core} (h : k.sansThreads = l.sansThreads) : k.outstanding = l.outstanding :=
  (congrArg Core.outstanding h :)

theorem Thread.reg_foldl_setReg (g : Nat → Word) (x : Thread) (n k : Nat) :
    ((List.range n).foldl (fun x k => x.setReg k (g k)) x).reg k = if k < n then g k else x.reg k := by
  induction n with
  | zero => rfl
  | succ n ih =>
    rw [List.range_succ, List.foldl_append]
    refine (Sparse.get_set _ _ _ _ _).trans ?_
    by_cases hk : k = n
    · rw [if_pos hk, if_pos (hk ▸ Nat.lt_succ_self k), hk]
    · rw [if_neg hk]
      refine ih.trans (if_congr (Nat.lt_succ_iff_lt_or_eq.trans (or_iff_left hk)).symm rfl rfl)

/-- The registers of a thread that starts (Table 9-2). -/
theorem State.freshThread_reg (s : State) (f l t : Nat) (pc : BitVec 32) (s5 : Word) (k : Nat) :
    (s.freshThread f l t pc s5).reg k = [BitVec.ofNat 64 t, BitVec.ofNat 64 l,
      BitVec.ofNat 64 (((s.flaskDef f).map (·.ncores)).getD 0), s.fab.addr.setWidth 64, (s.flask f).arg, s5].getD k 0 := by
  delta State.freshThread
  extract_lets d r
  refine (Thread.reg_foldl_setReg (fun k => r.getD k 0) _ 6 k).trans ?_
  by_cases hk : k < 6
  · exact if_pos hk
  · exact (if_neg hk).trans (List.getD_eq_default _ _ (Nat.le_of_not_lt hk)).symm

theorem State.freshThread_fields (s : State) (f l t : Nat) (pc : BitVec 32) (s5 : Word) :
    let x := s.freshThread f l t pc s5
    x.pc = pc ∧ x.run = .run ∧ x.p = 1 := ⟨rfl, rfl, rfl⟩

/-- A started thread is as it starts, and nothing else has changed (R246). -/
theorem State.startThread_facts {w : State} {c f l : Nat} (n : Nat) {pc : BitVec 32} (s5 : Word) (hs : w.serving c = some (f, l))
    (hpc : w.pcOk c pc = true) :
    (w.startThread c n pc s5).thread c n = w.freshThread f l n pc s5 ∧ w.onlyThread (w.startThread c n pc s5) c n := by
  have hset := w.setThread_onlyThread c n (w.freshThread f l n pc s5)
  rw [State.startThread, hs, Option.getD_some, State.goto_ok _ _ _ _ ((State.onlyThread_pcOk hset pc).trans hpc)]
  refine ⟨?_, State.onlyThread_trans hset (State.modThread_onlyThread _ _ _ _)⟩
  rw [State.thread_modThread_self, State.thread_setThread_self]
  rfl

/-- What BR.FORK leaves once its thread may start, from a state that differs in the forking thread alone. -/
theorem State.forkAct_facts {s v : State} {o : Op} {f l : Nat} (h : s.onlyThread v o.core o.thread)
    (hx : v.thread o.core o.thread = s.thread o.core o.thread) (hn : s.nextOk o) (hs : s.serving o.core = some (f, l))
    (hpc : s.pcOk o.core (s.branchTarget o) = true) (hne : o.thread ≠ o.f 47 4) :
    let t := v.forkAct o
    t.thread o.core o.thread = (s.thread o.core o.thread).past o ∧
      t.thread o.core (o.f 47 4) =
        s.freshThread f l (o.f 47 4) (s.branchTarget o) ((s.thread o.core o.thread).reg (o.f 42 5)) ∧
      (∀ u, u ≠ o.thread → u ≠ o.f 47 4 → t.thread o.core u = s.thread o.core u) ∧ s.onlyCore t o.core := by
  obtain ⟨hpast, hadv⟩ := v.advance_next o (State.nextOk_of_onlyThread h hx hn)
  have hsv : s.onlyThread (v.advance o) o.core o.thread := State.onlyThread_trans h hadv
  have htarget : v.branchTarget o = s.branchTarget o := by rw [State.branchTarget, hx, State.branchTarget]
  obtain ⟨hfresh, hstart⟩ := State.startThread_facts (w := v.advance o) (o.f 47 4) ((v.thread o.core o.thread).reg (o.f 42 5))
    ((State.onlyThread_serving hsv).trans hs) ((State.onlyThread_pcOk hsv (v.branchTarget o)).trans (by rw [htarget]; exact hpc))
  refine ⟨?_, ?_, fun u hu hun => ?_, State.onlyCore_trans hsv.1 hstart.1⟩
  · rw [State.forkAct, hstart.2.2 _ hne, hpast, hx]
  · rw [State.forkAct, hfresh, htarget, hx, State.freshThread, State.onlyCore_flaskDef hsv.1, State.onlyCore_fab hsv.1,
      State.onlyCore_arg hsv.1]
    rfl
  · rw [State.forkAct, hstart.2.2 u hun, hsv.2.2 u hu]

theorem Core.mayStart_of_onlyThread {s t : State} {c n : Nat} (h : s.onlyThread t c n) (m : Nat)
    (hm : t.thread c m = s.thread c m) : (t.core c).mayStart m = (s.core c).mayStart m := by
  rw [Bool.eq_iff_iff, Core.mayStart_iff, Core.mayStart_iff, Core.outstanding_of_sansThreads h.2.1,
    show (t.core c).thread m = (s.core c).thread m from hm]

theorem exec_brFork_of_issues {i : Ins} {s : State} (h : s.issues ⟨0x0B, i⟩) : exec (.brFork i) s =
    .next (if (s.core i.core).mayStart (fld i.bits 47 4) = true then (s.issued ⟨0x0B, i⟩).forkAct ⟨0x0B, i⟩
      else (s.issued ⟨0x0B, i⟩).hold ⟨0x0B, i⟩ (.fork i.thread) 0xFF) := by
  have hmay := Core.mayStart_of_onlyThread (s.issued_onlyThread ⟨0x0B, i⟩) (fld i.bits 47 4) (s.issued_thread _ _)
  simp only [Op.core] at hmay
  rw [← hmay]
  exact congrArg Host.Outcome.next (s.issue_of_issues _ _ h)

theorem exec_forkThreadStart_of_held {i : Ins} {s : State} {m : Nat}
    (h : (s.thread i.core i.thread).held = some ⟨.fork i.thread, m, ⟨0x0B, i⟩⟩) (hc : s.coreIssues i.core = true)
    (hfree : (s.core i.core).mayStart (fld i.bits 47 4) = true) :
    exec (.forkThreadStart i.core i.thread) s = .next ((s.progress i.core).forkAct ⟨0x0B, i⟩) := by
  show execForkThreadStart i.core i.thread s = _
  rw [execForkThreadStart, State.heldFor_of_held h rfl]
  simp only [hc, if_true]
  exact congrArg Host.Outcome.next (if_pos hfree)

/-- Settles O7: the row and the end of its stall start the thread by `forkAct`, where it may start. -/
theorem forkStartsAThread : Obligations.ForkStartsAThread := by
  intro i s o x n target free started
  have hmay : (s.core i.core).mayStart n = true ↔ free := Core.mayStart_iff _ _
  have hstarted (v : State) (h : s.onlyThread v i.core i.thread) (hx : v.thread i.core i.thread = x) (hn : s.nextOk o)
      (hc : s.coreIssues i.core = true) (hpc : s.pcOk i.core target = true) (hne : i.thread.val ≠ n) : started (v.forkAct o) := by
    obtain ⟨f, l, hs⟩ := State.serving_of_coreIssues hc
    obtain ⟨hpast, hfresh, hothers, hcore⟩ := State.forkAct_facts (o := o) h hx hn hs hpc hne
    have hreg (k : Nat) := (congrArg (fun y : Thread => y.reg k) hfresh).trans (State.freshThread_reg _ _ _ _ _ _ k)
    refine ⟨hpast, congrArg Thread.pc hfresh, congrArg Thread.run hfresh, congrArg Thread.p hfresh, hreg 0, hreg 5, ?_, hreg 3, ?_,
      fun u hu => hothers u (Fin.val_ne_of_ne hu), hcore⟩
    · intro f' l' hs'
      obtain ⟨rfl, rfl⟩ : f = f' ∧ l = l' := by simpa [hs] using hs'
      exact ⟨hreg 1, hreg 4, fun d hd => (hreg 2).trans (by rw [hd]; rfl)⟩
    · intro k hk
      exact (hreg k).trans (List.getD_eq_default _ _ hk)
  refine ⟨fun hi hn hpc => ⟨fun hf => ⟨_, ?_, hstarted _ (s.issued_onlyThread o) (s.issued_thread o _) hn ?_ hpc ?_⟩, fun hf => ?_⟩,
    fun m hx hc hne hn hpc hf => ⟨_, exec_forkThreadStart_of_held hx hc (hmay.2 hf), hstarted _ (s.progress_onlyThread _ _ _)
      (s.thread_progress _ _ _) hn hc hpc hne⟩⟩
  · rw [exec_brFork_of_issues hi, if_pos (hmay.2 hf)]
  · exact State.coreIssues_of_mayIssue hi.1
  · intro he
    have hrun : x.run = .run := State.run_of_mayIssue hi.1
    have hhalted : x.run = .halted := by
      show (s.thread i.core i.thread.val).run = .halted
      rw [he]
      exact hf.1
    rw [hrun] at hhalted
    simp at hhalted
  · rw [exec_brFork_of_issues hi, if_neg (mt hmay.1 hf)]
    exact s.leaves_hold_issued o _ _

end Sys2Proof.Machine
end

section
/-! PROOFS. The state after reset, and what an empty queue does. -/

set_option Elab.async false
set_option tactic.hygienic false

namespace Sys2Proof.Machine

/-- Settles O59: after reset nothing is listed, so every read answers its default. -/
theorem resetLeaves : Obligations.ResetLeaves := by
  refine ⟨State.sound_reset, rfl, rfl, rfl, rfl, rfl, rfl, rfl, rfl, rfl, rfl, by decide, rfl, fun p => ⟨rfl, rfl, rfl⟩,
    fun f => rfl, fun c => ⟨rfl, rfl, rfl, fun q => rfl, fun q => rfl, rfl, rfl, fun n => ⟨rfl, rfl, fun r => rfl⟩⟩⟩

/-- A module that trains its memory, in whose last mesh cycle the counters were cleared (R582). -/
noncomputable def State.justCleared : State :=
  { State.reset with pwr := { State.reset.pwr with boot := .training }, cnt := { State.reset.cnt with cleared := true } }

/-- Refutes O2: a tick ends the mesh cycle, so the mark that a clear took place in it goes (R582), which the statement, letting
only the counters' controls, values and lasting events move, does not allow. -/
theorem not_emptyQueueLetsTimePass : ¬ Obligations.EmptyQueueLetsTimePass := by
  intro h
  obtain ⟨t, ht, -, -, -, hcnt, -⟩ := h State.justCleared rfl
  have hcleared : t.cnt.cleared = true := (congrArg Cnt.cleared hcnt :)
  have htick : State.justCleared.tick.cnt.cleared = false := rfl
  rw [← Host.Outcome.next.inj ht, htick] at hcleared
  exact Bool.false_ne_true hcleared

end Sys2Proof.Machine
end

section
/-! PROOFS. Faults and stalls at issue (R66, R248, R252, R258, R270, R271, R286, R367, R368, R605). -/

set_option Elab.async false
set_option tactic.hygienic false

namespace Sys2Proof.Machine

/-! ### What a memory error found by a fetch leaves of the pours -/

/-- From `s` to `t` the flasks, the time and what each core serves stay. -/
structure State.samePours (s t : State) : Prop where
  flasks : t.flasks = s.flasks
  now : t.now = s.now
  serves : ∀ c, t.serving c = s.serving c

namespace State.samePours

theorem refl (s : State) : s.samePours s := ⟨rfl, rfl, fun _x => rfl⟩

theorem trans {s t u : State} (h : s.samePours t) (g : t.samePours u) : s.samePours u :=
  ⟨g.flasks.trans h.flasks, g.now.trans h.now, fun c => (g.serves c).trans (h.serves c)⟩

theorem of_counted {s t : State} (h : s.counted t) : s.samePours t := by
  obtain ⟨ctl, val, rfl⟩ := h
  exact ⟨rfl, rfl, fun _x => rfl⟩

theorem ite {s a b : State} {p : Prop} [Decidable p] (ha : s.samePours a) (hb : s.samePours b) :
    s.samePours (if p then a else b) := by
  split <;> assumption

theorem setFreeze (s : State) (v : Bool) : s.samePours (s.setFreeze v) := ⟨rfl, rfl, fun _x => rfl⟩

theorem setErr (s : State) (e : Err) : s.samePours { s with err := e } := ⟨rfl, rfl, fun _x => rfl⟩

theorem startSnap (s : State) : s.samePours s.startSnap := by
  unfold State.startSnap
  exact .ite (refl s) ⟨rfl, rfl, fun _x => rfl⟩

theorem trigger (s : State) (src : Nat) : s.samePours (s.trigger src) := by
  unfold State.trigger
  exact .ite (refl s) ((setFreeze s true).trans (startSnap _))

theorem setSticky (s : State) (b : Nat) : s.samePours (s.setSticky b) := by
  unfold State.setSticky
  exact .ite (refl s) ((setErr s _).trans (trigger _ _))

theorem modStack (s : State) (n : Nat) (f : Stack → Stack) : s.samePours (s.modStack n f) := ⟨rfl, rfl, fun _x => rfl⟩

theorem modCore (s : State) (c : Nat) {f : Core → Core} (h : ∀ k, (f k).serves = k.serves) : s.samePours (s.modCore c f) := by
  refine ⟨rfl, rfl, fun d => ?_⟩
  by_cases hd : d = c
  · rw [hd, State.serving, State.core_modCore_self, h, State.serving]
  · rw [State.serving, State.core_modCore_ne _ _ hd, State.serving]

theorem captureEcc (s : State) (source core key : Nat) : s.samePours (s.captureEcc source core key) := by
  unfold State.captureEcc
  split <;> exact ⟨rfl, rfl, fun _x => rfl⟩

theorem qualify (s : State) (n ch : Nat) : s.samePours (s.qualify n ch) := by
  unfold State.qualify
  extract_lets k s1
  split_ifs
  · exact refl s
  · exact modStack s _ _
  · exact modStack s _ _
  · exact (modStack s _ _).trans (setSticky _ _)
  · exact modStack s _ _

theorem eccCorrected (s : State) (key : Nat) : s.samePours (s.eccCorrected key) := by
  have h0 := setSticky s sEccCorr
  have hdie (d : Nat) : s.samePours ((s.setSticky sEccCorr).dieEvent d 0x13 256) := h0.trans (of_counted (State.dieEvent_counted _ _ _ _))
  unfold State.eccCorrected
  cases stackOf key with
  | none => exact (hdie _).trans (modCore _ _ fun _x => rfl)
  | some nc =>
    have hs1 : s.samePours (if nc.1 < 16 then (s.setSticky sEccCorr).dieEvent (nc.1 / 4) 0x13 256
        else if nc.1 < 28 then (s.setSticky sEccCorr).dieEvent ((nc.1 - 16) / 3) 0x13 256 else s.setSticky sEccCorr) := by
      split_ifs
      · exact hdie _
      · exact hdie _
      · exact h0
    have hs2 := hs1.trans (modStack _ nc.1 fun k => { k with
      ce := satAdd (2 ^ 32 - 1) k.ce 1, corrected := Sparse.modify 0 k.corrected (s.channelAt nc.1 key nc.2) (· + 1) })
    exact .ite (hs2.trans (qualify _ _ _)) hs2

theorem eccUncorrected (s : State) (v : Viewer) (key source core : Nat) : s.samePours (s.eccUncorrected v key source core) := by
  have h1 := (setSticky s sEccUncorr).trans (captureEcc _ source core key)
  unfold State.eccUncorrected
  extract_lets s1 blk s2
  have h2 : s.samePours s2 := h1.trans (by
    unfold s2
    split <;> exact ⟨rfl, rfl, fun _x => rfl⟩)
  split
  · exact h2.trans ((modStack _ _ _).trans (qualify _ _ _))
  · exact h2.trans (modCore _ _ fun _x => rfl)

theorem ecc (s : State) (v : Viewer) (found : List (Nat × EccFind)) (source core : Nat) :
    s.samePours (s.ecc v found source core) := by
  unfold State.ecc
  refine foldl_keeps (p := fun t => s.samePours t) _ (fun t e ht => ?_) found s (refl s)
  split
  · exact ht
  · exact ht.trans (eccCorrected _ _)
  · exact ht.trans (eccUncorrected _ _ _ _ _)

theorem readThrough (s : State) (v : Viewer) (found : List (Nat × EccFind)) (source core : Nat) (spans : List (Nat × Nat)) :
    s.samePours (s.readThrough v found source core spans).1 := by
  unfold State.readThrough
  split
  · exact refl s
  · exact ecc _ _ _ _ _

theorem fetchThrough (s : State) (o : Op) : s.samePours (s.fetchThrough o).1 := by
  unfold State.fetchThrough
  exact readThrough _ _ _ _ _ _

end State.samePours

/-! ### Faults at issue -/

/-- An instruction that fails a check at issue faults with the code of the first it fails (R605). -/
theorem State.issueFetched_fault {s : State} {o : Op} {code : BitVec 8} (act : State → State) (hg : s.guardOn o = true)
    (hx : o.xt = true → s.pcOk o.core ((s.thread o.core o.thread).pc + 8) = true) (hf : issueFault o (s.declared o.core) = some code) :
    s.issueFetched o act = s.pourFault o.core 0 o.thread (s.thread o.core o.thread).pc o.word code := by
  unfold State.issueFetched
  by_cases h : o.xt = true
  · have hpc := hx h
    simp only [hg, hf, h, hpc, Bool.not_true, Bool.false_eq_true, and_false, if_false]
  · simp [hg, hf, h]

/-- An instruction whose words cannot be fetched faults (R367, R368). -/
theorem State.issue_of_fetch_fails {s : State} {o : Op} (act : State → State) (hm : s.mayIssue o = true)
    (hf : (s.fetchThrough o).2 = false) :
    s.issue o act = (s.fetchThrough o).1.pourFault o.core 0 o.thread (s.thread o.core o.thread).pc o.word fEcc := by
  unfold State.issue
  simp only [hm, Bool.not_true, Bool.false_eq_true, if_false]
  cases h : s.fetchThrough o with
  | mk s1 b =>
    rw [h] at hf
    cases hf
    rfl

/-- An instruction that goes on past the end of the code partition faults there (R248). -/
theorem State.readied.advance_windowFault {s w : State} {o : Op} {f l : Nat} (h : s.readied w o) (hs : s.serving o.core = some (f, l))
    (hr : (s.flask f).stage = .running) (hn : ¬ s.nextOk o) :
    s.windowFault (w.advance o) f l o.core o.thread ((s.thread o.core o.thread).pc + BitVec.ofNat 32 o.size) := by
  have hrun := State.readied_trans h (w.readied_modThread o (fun x => { x with run := .run, held := none }) fun _x => rfl)
  unfold State.advance
  rw [h.goes]
  exact State.goto_windowFault o.thread hrun.frame hrun.serves hrun.code hs hr (Bool.eq_false_iff.2 hn)

/-- The first clause of O14: a check at issue fails. -/
theorem exec_faults_at_issue {c : Instr} {o : Op} {s : State} {code : BitVec 8} (hc : c.asOp = some o)
    (hm : s.mayIssue o = true) (hfetch : s.fetchThrough o = (s, true))
    (hx : o.xt = true → s.pcOk o.core ((s.thread o.core o.thread).pc + 8) = true) (hg : s.guardOn o = true)
    (hf : issueFault o (s.declared o.core) = some code) :
    exec c s = .next (s.pourFault o.core 0 o.thread (s.thread o.core o.thread).pc o.word code) := by
  obtain ⟨act, hexec⟩ := exec_of_row hc
  rw [hexec, s.issue_of_fetched act hm hfetch, s.issueFetched_fault act hg hx hf]

/-- An opcode that is not listed fails the check of its encoding (R286). -/
theorem code_of_unlisted {o : Op} {declared : Bool} {code : BitVec 8} (hl : opcodeListed o.code = false)
    (hf : issueFault o declared = some code) : code = fDescFormat := by
  simp [issueFault, decodeOk, hl] at hf
  exact hf.symm

/-- Settles O14: each clause ends in `pourFault` of a running pour, whose facts `pourFault_facts` lists. -/
theorem issueFaults : Obligations.IssueFaults := by
  refine ⟨fun c o s f l code hc hm hfetch hx hg hf hs => ⟨fun hl => code_of_unlisted hl hf, ?_⟩,
    fun c o s f l hc hm hfetch hs => ?_, fun c o s f l hc hi hn hs ho => ?_⟩
  · have hr := State.running_of_coreIssues (State.coreIssues_of_mayIssue hm) hs
    obtain ⟨hstage, hfault, hthreads, hhosts, hrest, hbytes, hrecord⟩ :=
      s.pourFault_facts 0 o.thread (s.thread o.core o.thread).pc o.word code hs hr
    refine ⟨_, exec_faults_at_issue hc hm hfetch hx hg hf, hstage, hfault, hrecord, fun d hd => ?_, hthreads, hrest, hbytes⟩
    obtain ⟨k, hk, hlme, hte, hve, hse⟩ := hhosts d hd
    rw [hk, Core.outstanding_dropQueues, hlme, hte, hve, hse]
  · obtain ⟨act, hexec⟩ := exec_of_row hc
    have hpours := State.samePours.fetchThrough s o
    have hr : ((s.fetchThrough o).1.flask f).stage = .running := by
      rw [State.flask_congr hpours.flasks]
      exact State.running_of_coreIssues (State.coreIssues_of_mayIssue hm) hs
    obtain ⟨hstage, hfault, -⟩ := (s.fetchThrough o).1.pourFault_facts 0 o.thread (s.thread o.core o.thread).pc o.word fEcc
      ((hpours.serves _).trans hs) hr
    rw [hpours.now] at hfault
    exact ⟨_, (hexec s).trans (congrArg _ (s.issue_of_fetch_fails act hm hfetch)), hstage, hfault⟩
  · obtain ⟨act, hexec, hact⟩ := rowActs_of_row hc
    have hadv : o.advances = true := Bool.and_eq_true_iff.2 ⟨opcodeListed_of_issueFault hi.2.2.2.1, decide_eq_true ho⟩
    obtain ⟨w, hw, hready⟩ := hact hadv (s.issued o)
    have hfault := State.readied.advance_windowFault (State.readied_trans (s.readied_issued o) hready) hs
      (State.running_of_coreIssues (State.coreIssues_of_mayIssue hi.1) hs) hn
    refine ⟨_, (hexec s).trans (congrArg _ ((s.issue_of_issues o act hi).trans hw)), hfault.stage, hfault.fault, hfault.goes, hfault.record⟩

/-! ### Stalls -/

/-- An instruction that something stalls is held (R66, R252, R258). -/
theorem State.issueFetched_stall {s : State} {o : Op} {w : Hold} {ev : Nat} (act : State → State) (hg : s.guardOn o = true)
    (hx : o.xt = true → s.pcOk o.core ((s.thread o.core o.thread).pc + 8) = true) (hf : issueFault o (s.declared o.core) = none)
    (hk : (s.thread o.core o.thread).interlocked o = false) (hw : s.stallOf o = some (w, ev)) :
    s.issueFetched o act = s.hold o w ev := by
  unfold State.issueFetched
  by_cases h : o.xt = true
  · have hpc := hx h
    simp only [hg, hf, hk, hw, h, hpc, Bool.not_true, Bool.false_eq_true, and_false, if_false]
  · simp [hg, hf, hk, hw, h]

/-- A held instruction whose cause has gone issues. -/
theorem State.retryHeld_issues {s : State} {c n : Nat} {ok : Hold → Bool} {h : Held} (hh : (s.thread c n).held = some h)
    (hc : s.coreIssues c = true) (hk : ok h.why = true) (hs : s.stallOf h.op = none) :
    s.retryHeld c n ok = (s.issued h.op).heldAct h.op := by
  unfold State.retryHeld
  simp [hh, hc, hk, hs]

/-- What a resumed instruction leaves (R66, R252): another thread of the core stays, and so does all beside the core. -/
theorem State.heldAct_frame {s : State} {o : Op} (hn : s.nextOk o) : let t := (s.issued o).heldAct o
    (∀ u, u ≠ o.thread → t.thread o.core u = s.thread o.core u) ∧ s.onlyCore t o.core := by
  have h := s.issued_onlyThread o
  have hx := s.issued_thread o o.thread
  unfold State.heldAct
  split_ifs
  · obtain ⟨-, hcore, hthreads, -⟩ := State.hsetAct_facts h hx hn
    exact ⟨hthreads, hcore⟩
  · obtain ⟨t, ht, -, honly⟩ := State.hgetAct_leaves h hx hn
    cases Host.Outcome.next.inj ht
    exact ⟨honly.2.2, honly.1⟩
  · obtain ⟨-, honly⟩ := ((s.issued o).entered o).advance_next o (State.nextOk_entered (State.nextOk_of_onlyThread h hx hn))
    refine ⟨fun u hu => ?_, State.onlyCore_trans h.1 (State.onlyCore_trans (State.entered_onlyCore _ _) honly.1)⟩
    rw [State.enqueue_eq, honly.2.2 u hu, State.thread_entered_ne _ _ hu, h.2.2 u hu]

theorem State.heldAct_of_engine {o : Op} (hu : unitOf o.code ≠ 0) (v : State) : v.heldAct o = v.enqueue o := by
  have h1 : o.code ≠ 0x0C := fun h => hu (by rw [h]; rfl)
  have h2 : o.code ≠ 0x0D := fun h => hu (by rw [h]; rfl)
  simp [State.heldAct, h1, h2]

/-- The row that ends a stall of this cause issues the held instruction. -/
theorem exec_of_stall_end {c : Fin 64} {n : Fin 16} {s : State} {m : Nat} {o : Op} {w : Hold}
    (hw : w ∈ [Hold.queueFull, Hold.tokenPlace, Hold.slot]) (hh : (s.thread c n).held = some ⟨w, m, o⟩)
    (hc : s.coreIssues c = true) (hs : s.stallOf o = none) :
    exec (if w = .queueFull then .queueFullIssue c n else if w = .tokenPlace then .tokenPlaceIssue c n else .slotStallResume c n) s =
      .next ((s.issued o).heldAct o) := by
  simp only [List.mem_cons, List.not_mem_nil, or_false] at hw
  obtain rfl | rfl | rfl := hw
  · exact congrArg Host.Outcome.next (State.retryHeld_issues (ok := fun w => w == .queueFull) hh hc (beq_self_eq_true _) hs)
  · show execTokenPlaceIssue c n s = _
    rw [execTokenPlaceIssue, show s.heldFor c n _ = none by simp [State.heldFor, hh]]
    exact congrArg Host.Outcome.next (State.retryHeld_issues (ok := fun w => w == .tokenPlace) hh hc (beq_self_eq_true _) hs)
  · exact congrArg Host.Outcome.next (State.retryHeld_issues (ok := fun w => w == .slot) hh hc (beq_self_eq_true _) hs)

/-- Settles O15: a stall is a hold of the thread, and its end the issue of the held instruction. -/
theorem stallsHoldAndEnd : Obligations.StallsHoldAndEnd := by
  refine ⟨fun c o s w ev hc hm hfetch hx hg hf hk hw => ?_, fun c n s m o w => ?_⟩
  · obtain ⟨act, hexec⟩ := exec_of_row hc
    rw [hexec, s.issue_of_fetched act hm hfetch, State.issueFetched_stall act hg hx hf hk hw]
    exact ⟨_, rfl, s.hold_stalls o w ev⟩
  · intro x queue slots row hw hh hcore hthread hc hs hn
    have hx : x = s.thread o.core o.thread := by rw [hcore, hthread]
    have h := s.issued_onlyThread o
    have hi := s.issued_thread o o.thread
    obtain ⟨hthreads, hframe⟩ := State.heldAct_frame hn
    rw [hcore, hthread] at hthreads
    rw [hcore] at hframe
    refine ⟨_, exec_of_stall_end hw hh hc hs, hthreads, hframe, fun hu => ?_, fun hset => ?_, fun hget => ?_⟩
    · have hq := s.queued_issued hu hn
      have hown := hq.own
      have hpast := hq.thread
      rw [State.entryOf, ← hx, hcore] at hown
      rw [← hx, hcore, hthread] at hpast
      rw [State.heldAct_of_engine hu]
      exact ⟨hown, hpast⟩
    · obtain ⟨hpast, -, -, hbytes, -⟩ := State.hsetAct_facts h hi hn
      rw [← hx, hcore] at hbytes
      rw [← hx, hcore, hthread] at hpast
      rw [show (s.issued o).heldAct o = (s.issued o).hsetAct o from if_pos hset]
      exact ⟨hpast, hbytes⟩
    · obtain ⟨t, ht, hpast, -⟩ := State.hgetAct_leaves h hi hn
      have hact : (s.issued o).heldAct o = (s.issued o).hgetAct o := by simp [State.heldAct, hget]
      cases Host.Outcome.next.inj ht
      rw [← hx, hcore, hthread] at hpast
      rw [hact]
      exact ⟨_, hpast, fun b hb => Core.byte_slotWord _ _ _ hb⟩

end Sys2Proof.Machine
end

section
/-! PROOFS. What the data effects of the fixed-latency engines leave unchanged: all of their core but its tiles, buffers,
histogram, latches and saturation counters, and all else but free values and counters. -/

set_option Elab.async false
set_option tactic.hygienic false

namespace Sys2Proof.Machine

/-! ### A core without its data -/

/-- A core without tiles, buffers, histogram, latches and saturation counters. -/
noncomputable def Core.sansData (k : Core) : Core :=
  { k.modArch fun a => { a with tiles := [], bufs := [], hist := ⟨none, []⟩, latches := [] } with satSe := 0, satVe := 0 }

namespace Core

theorem sansData_foldl {α : Type} {g : Core → α → Core} (hg : ∀ k a, (g k a).sansData = k.sansData) (l : List α) (k : Core) :
    (l.foldl g k).sansData = k.sansData :=
  foldl_keeps (p := fun m => m.sansData = k.sansData) g (fun m a hm => (hg m a).trans hm) l k rfl

@[simp] theorem sansData_setTile (k : Core) (t : Nat) (x : Tile) : (k.setTile t x).sansData = k.sansData := rfl

@[simp] theorem sansData_modTile (k : Core) (t : Nat) (f : Tile → Tile) : (k.modTile t f).sansData = k.sansData := rfl

@[simp] theorem sansData_setBuf (k : Core) (t : Nat) (x : Buf) : (k.setBuf t x).sansData = k.sansData := rfl

@[simp] theorem sansData_dropLatch (k : Core) (t : Nat) : (k.dropLatch t).sansData = k.sansData := rfl

@[simp] theorem sansData_setBufWords (k : Core) (t w : Nat) (l : List Nat) : (k.setBufWords t w l).sansData = k.sansData := rfl

@[simp] theorem sansData_setAElem (k : Core) (t sw m col v : Nat) : (k.setAElem t sw m col v).sansData = k.sansData := rfl

@[simp] theorem sansData_setSegs (k : Core) (t lo hi : Nat) (v : Bool) : (k.setSegs t lo hi v).sansData = k.sansData := by
  unfold Core.setSegs
  split <;> rfl

@[simp] theorem sansData_setStrm (k : Core) (t f el v : Nat) : (k.setStrm t f el v).sansData = k.sansData := by
  unfold Core.setStrm
  split <;> rfl

@[simp] theorem sansData_histCount (k : Core) (t f el c : Nat) : (k.histCount t f el c).sansData = k.sansData := by
  unfold Core.histCount
  split <;> rfl

@[simp] theorem sansData_coverSegs (k : Core) (l : List Range) : (k.coverSegs l).sansData = k.sansData := by
  unfold Core.coverSegs
  refine sansData_foldl (fun k r => sansData_foldl (fun k i => ?_) _ _) _ _
  dsimp only
  split
  · exact sansData_setSegs _ _ _ _ _
  · rfl

@[simp] theorem sansData_invalidate (k : Core) (l : List Range) : (k.invalidate l).sansData = k.sansData := by
  unfold Core.invalidate
  refine sansData_foldl (fun k r => ?_) _ _
  split
  · exact sansData_setSegs _ _ _ _ _
  · split <;> rfl

end Core

/-! ### Data effects -/

/-- From `s` to `t` only the data of core `c` change, beside free values, error records and counters. -/
structure State.onlyData (s t : State) (c : Nat) : Prop where
  core : (t.core c).sansData = (s.core c).sansData
  others : ∀ d, d ≠ c → t.core d = s.core d
  flasks : t.flasks = s.flasks
  now : t.now = s.now
  bytes : s.sameBytes t

namespace State.onlyData

theorem refl (s : State) (c : Nat) : s.onlyData s c := ⟨rfl, fun _x _y => rfl, rfl, rfl, fun _x _y => rfl⟩

theorem trans {s t u : State} {c : Nat} (h : s.onlyData t c) (g : t.onlyData u c) : s.onlyData u c :=
  ⟨g.core.trans h.core, fun d hd => (g.others d hd).trans (h.others d hd), g.flasks.trans h.flasks, g.now.trans h.now,
    fun v k => (g.bytes v k).trans (h.bytes v k)⟩

theorem ite {s a b : State} {c : Nat} {p : Prop} [Decidable p] (ha : s.onlyData a c) (hb : s.onlyData b c) :
    s.onlyData (if p then a else b) c := by
  split <;> assumption

theorem foldl {α : Type} {s₀ s : State} {c : Nat} {g : State → α → State} (hg : ∀ (s : State) (a : α), s.onlyData (g s a) c) (l : List α)
    (h : s₀.onlyData s c) : s₀.onlyData (l.foldl g s) c :=
  foldl_keeps (p := fun t => s₀.onlyData t c) g (fun _x a ht => ht.trans (hg _ a)) l s h

theorem of_counted {s t : State} (h : s.counted t) (c : Nat) : s.onlyData t c := by
  obtain ⟨ctl, val, rfl⟩ := h
  exact ⟨rfl, fun _x _y => rfl, rfl, rfl, State.sameBytes_of rfl rfl rfl⟩

theorem coreEvent (s : State) (c d ev : Nat) : s.onlyData (s.coreEvent d ev) c := of_counted (State.coreEvent_counted _ _ _) c

theorem modCore {s : State} {c : Nat} {f : Core → Core} (hf : ∀ k, (f k).sansData = k.sansData) : s.onlyData (s.modCore c f) c :=
  ⟨by rw [State.core_modCore_self, hf], fun _x hd => s.core_modCore_ne _ hd, rfl, rfl, State.sameBytes_of rfl rfl rfl⟩

theorem setCore {s : State} {c : Nat} {k : Core} (hk : k.sansData = (s.core c).sansData) : s.onlyData (s.setCore c k) c :=
  ⟨by rw [State.core_setCore_self, hk], fun d hd => by rw [State.core_setCore, if_neg hd], rfl, rfl, State.sameBytes_of rfl rfl rfl⟩

theorem freeBytes (s : State) (c n : Nat) : s.onlyData (s.freeBytes n).1 c :=
  ⟨rfl, fun _x _y => rfl, rfl, rfl, State.sameBytes_of rfl rfl rfl⟩

theorem setErr (s : State) (c : Nat) (e : Err) : s.onlyData { s with err := e } c :=
  ⟨rfl, fun _x _y => rfl, rfl, rfl, State.sameBytes_of rfl rfl rfl⟩

theorem setCnt (s : State) (c : Nat) (x : Cnt) : s.onlyData { s with cnt := x } c :=
  ⟨rfl, fun _x _y => rfl, rfl, rfl, State.sameBytes_of rfl rfl rfl⟩

theorem setSticky (s : State) (c b : Nat) : s.onlyData (s.setSticky b) c := by
  unfold State.setSticky State.trigger State.startSnap
  exact .ite (refl s c) ((setErr s c _).trans
    (.ite (refl _ c) (.ite (setCnt _ c _) ((setCnt _ c _).trans (setCnt _ c _)))))

theorem capturePerm (s : State) (c a b d : Nat) (e : Bool) : s.onlyData (s.capturePerm a b d e) c := by
  unfold State.capturePerm
  exact .ite (refl s c) (setErr s c _)

theorem freeRun (s : State) (c : Nat) (r : Range) : s.onlyData (s.freeRun c r) c := by
  have hfree := freeBytes s c r.bytes.2
  unfold State.freeRun
  refine .ite (hfree.trans (modCore fun _x => rfl)) (.ite (hfree.trans (modCore fun _x => rfl)) (.ite ?_ ?_))
  · exact (hfree.trans (freeBytes _ c _)).trans (modCore fun _x => rfl)
  · exact (hfree.trans (freeBytes _ c _)).trans (modCore fun _x => rfl)

theorem freeRuns (s : State) (c : Nat) (l : List Range) : s.onlyData (s.freeRuns c l) c :=
  foldl (fun s r => freeRun s c r) l (refl s c)

theorem mixFlights (s : State) (c skip : Nat) (wr : List Range) : s.onlyData (s.mixFlights c skip wr) c :=
  foldl (fun s _x => freeRuns s c _) _ (refl s c)

theorem raceFlight (s : State) (c u : Nat) (f : Flight) : s.onlyData (s.raceFlight c u f) c :=
  .ite (refl s c) ((mixFlights s c u _).trans (freeRuns _ c _))

theorem addSat (s : State) (c : Nat) (ve : Bool) (n : Nat) : s.onlyData (s.addSat c ve n) c := by
  refine foldl (fun s _x => coreEvent s c c 0x27) _ (modCore fun k => ?_)
  split <;> rfl

/-! ### The engines' data effects -/

set_option smartUnfolding false

theorem tcfgAct (s : State) (c : Nat) (e : QEnt) : s.onlyData (tcfgAct s c e) c := by
  unfold Machine.tcfgAct
  refine modCore fun k => (Core.sansData_foldl (fun k u => ?_) _ _).trans ((Core.sansData_foldl (fun k u => ?_) _ _).trans ?_) <;> rfl

theorem tzeroAct (s : State) (c : Nat) (e : QEnt) : s.onlyData (tzeroAct s c e) c := by
  unfold Machine.tzeroAct
  refine modCore fun k => Core.sansData_foldl (fun k u => ?_) _ _
  rfl

theorem tmoveAct (s : State) (c : Nat) (e : QEnt) : s.onlyData (tmoveAct s c e) c := by
  unfold Machine.tmoveAct
  refine .ite (refl s c) (.ite (modCore fun _x => rfl)
    (setCore ((Core.sansData_foldl (fun k r => ?_) _ _).trans (Core.sansData_foldl (fun k i => ?_) _ _)))) <;> rfl

theorem putAcc (s : State) (c t : Nat) (w : Bool) (off : Nat) (v : Int) (st : BitVec 3) : s.onlyData (s.putAcc c t w off v st) c :=
  .ite (modCore fun _x => rfl) ((freeBytes s c _).trans (modCore fun _x => rfl))

theorem lmmAct (s : State) (c : Nat) (e : QEnt) : s.onlyData (lmmAct s c e) c := by
  delta Machine.lmmAct
  extract_lets o k d
  exact optionCases (s.onlyData · c) (refl s c) fun _x => .ite (refl s c) (exceptCases (s.onlyData · c) (fun _x => refl s c) fun _x =>
    foldl (fun s i => foldl (fun s n => by extract_lets pairs; exact .ite (putAcc _ _ _ _ _ _ _) (putAcc _ _ _ _ _ _ _)) _ (refl s c)) _
      (foldl (fun s _x => coreEvent s c c 0x11) _ (modCore fun _x => rfl)))

theorem lmeAct (s : State) (c : Nat) (e : QEnt) : s.onlyData (lmeAct c s e) c :=
  .ite (tcfgAct s c e) (.ite (tzeroAct s c e) (.ite (tmoveAct s c e) (lmmAct s c e)))

theorem teAct (s : State) (c : Nat) (e : QEnt) : s.onlyData (teAct c s e) c := by
  delta Machine.teAct
  extract_lets o k src
  refine exceptSparse (s.onlyData · c) (fun _x => refl s c) (fun _x _y h => h _) fun _x _y _z => optionSparse (s.onlyData · c) (fun _x => refl s c)
    (fun _x h => h _) fun _x _y _z => .ite (refl s c) (setCore (Core.sansData_foldl (fun k2 _x => ?_) _ _))
  exact optionCases (fun k : Core => k.sansData = k2.sansData) rfl fun _x => rfl

theorem setStrmAcc_sansData (k : Core) (t el : Nat) (x : Num) : (k.setStrmAcc t el x).sansData = k.sansData := by
  cases x <;> rfl

theorem writeOut_sansData (j : VJob) (k : Core) (o e v : Nat) : (j.writeOut k o e v).1.sansData = k.sansData := by
  have hput {p q : Prop} [Decidable p] [Decidable q] {a b c : Core × Nat} (ha : a.1.sansData = k.sansData)
      (hb : b.1.sansData = k.sansData) (hc : c.1.sansData = k.sansData) :
      (if p then a else if q then b else c).1.sansData = k.sansData := by
    split_ifs <;> assumption
  exact hput ((Core.sansData_histCount _ _ _ _ _).trans (setStrmAcc_sansData _ _ _ _)) (Core.sansData_setStrm _ _ _ _ _)
    ((Core.sansData_histCount _ _ _ _ _).trans (Core.sansData_setStrm _ _ _ _ _))

theorem element_sansData (j : VJob) (sl : Nat) (k0 : Core) (q e : Nat) (a : Core × Nat) :
    (j.element sl k0 q e a).1.sansData = a.1.sansData := by
  refine foldl_keeps (p := fun b : Core × Nat => b.1.sansData = a.1.sansData) _ (fun b o hb => ?_) j.outs _ rfl
  exact (writeOut_sansData _ _ _ _ _).trans hb

theorem putResult (s : State) (c t el : Nat) (r : Nat × Num) (b : Bool) : s.onlyData (s.putResult c t el r b) c := by
  have hstrm (s : State) (v : Nat) : s.onlyData (s.modCore c fun k => (List.range 20).foldl (fun k i =>
      k.setStrm t 0x17 (el + i) (v / 2 ^ (32 * i) % 2 ^ 32)) k) c :=
    modCore fun k => Core.sansData_foldl (fun k i => Core.sansData_setStrm _ _ _ _ _) _ _
  have hput (x : Nat) : s.onlyData (s.modCore c fun k => (k.setStrm t 0x17 el x).histCount t r.1 el x) c :=
    modCore fun k => (Core.sansData_histCount _ _ _ _ _).trans (Core.sansData_setStrm _ _ _ _ _)
  unfold State.putResult
  refine .ite ?_ (.ite ((hput _).trans (addSat _ c _ _)) (hput _))
  cases r.2 with
  | fin neg m e =>
    by_cases hr : -(2 : Int) ^ 639 + 3 ≤ scaleTo neg m e 298 ∧ scaleTo neg m e 298 < 2 ^ 639
    · simp only [if_pos hr]
      exact hstrm s _
    · simp only [if_neg hr]
      exact (freeBytes s c 80).trans (hstrm _ _)
  | inf neg => exact hstrm s _
  | nan => exact hstrm s _

theorem writeGroup (j : VJob) (s : State) (c g : Nat) (l : List Num) : s.onlyData (j.writeGroup s c g l) c :=
  foldl (fun s _x => putResult s c _ _ _ _) _ (refl s c)

theorem jobAct (j : VJob) (s : State) (c : Nat) (src : Option Desc) : s.onlyData (j.act s c src) c := by
  delta VJob.act
  extract_lets k0 sl m
  have hk : ((List.range m).foldl (fun a e => j.element sl k0 (j.primeAt s src e) e a) (k0, 0)).1.sansData = k0.sansData :=
    foldl_keeps (p := fun b : Core × Nat => b.1.sansData = k0.sansData) _ (fun _x _y hb => (element_sansData _ _ _ _ _ _).trans hb) _ _ rfl
  exact State.onlyData.trans (foldl (fun s2 g => .ite (writeGroup j s2 c _ _) (refl s2 c)) _ ((setCore hk).trans (addSat _ c _ _)))
    (freeRuns _ c _)

theorem vchainAct (s : State) (c : Nat) (e : QEnt) : s.onlyData (vchainAct s c e) c := by
  delta Machine.vchainAct
  extract_lets k j
  exact exceptCases (s.onlyData · c) (fun _x => refl s c) fun _x => .ite (refl s c) (jobAct _ s c _)

theorem vredAct (s : State) (c : Nat) (e : QEnt) : s.onlyData (vredAct s c e) c :=
  .ite (refl s c) (jobAct _ s c _)

theorem vhistAct (s : State) (c : Nat) (e : QEnt) : s.onlyData (vhistAct s c e) c := by
  unfold Machine.vhistAct
  refine modCore fun k => ?_
  split_ifs
  · rfl
  · rfl
  · exact Core.sansData_foldl (fun k i => Core.sansData_setStrm _ _ _ _ _) _ _

theorem rescaleAct (s : State) (c : Nat) (e : QEnt) : s.onlyData (rescaleAct s c e) c := by
  delta Machine.rescaleAct
  extract_lets o k src cor
  exact .ite (refl s c) (optionCases (s.onlyData · c) (refl s c) fun _x =>
    (setCore (Core.sansData_foldl (fun k i => Core.sansData_setStrm _ _ _ _ _) _ _)).trans (freeRuns _ c _))

theorem mredAct (s : State) (c : Nat) (e : QEnt) : s.onlyData (mredAct s c e) c := by
  delta Machine.mredAct
  extract_lets o k w
  refine .ite (refl s c) (optionSparse (s.onlyData · c) (fun _x => refl s c) (fun _x h => h _) fun _x _y _z => exceptSparse (s.onlyData · c)
    (fun _x => refl s c) (fun _x _y h => h _) fun _x _y _z => setCore (Core.sansData_foldl (fun k1 _x => ?_) _ _))
  exact optionCases (fun k : Core => k.sansData = k1.sansData) rfl fun _x =>
    Core.sansData_foldl (fun k2 m => Core.sansData_setStrm _ _ _ _ _) _ _

theorem veAct (s : State) (c : Nat) (e : QEnt) : s.onlyData (veAct c s e) c :=
  .ite (vchainAct s c e) (.ite (vredAct s c e) (.ite (vhistAct s c e) (.ite (rescaleAct s c e) (mredAct s c e))))

end State.onlyData

end Sys2Proof.Machine
end

section
/-! PROOFS. The start of a fixed-latency engine's head: what it leaves, what it faults with, and the tile that TZERO zeroes. -/

set_option Elab.async false
set_option tactic.hygienic false

namespace Sys2Proof.Machine

/-! ### Engines of a core -/

theorem Core.engine_setEngine (k : Core) (u : Nat) (g : Engine) : (k.setEngine u g).engine u = g := by
  unfold Core.setEngine Core.engine
  split_ifs <;> rfl

theorem Core.engine_setEngine_ne (k : Core) {u v : Nat} (g : Engine) (hu : u ∈ [1, 2, 3]) (hv : v ∈ [1, 2, 3]) (h : v ≠ u) :
    (k.setEngine u g).engine v = k.engine v := by
  simp only [List.mem_cons, List.not_mem_nil, or_false] at hu hv
  obtain rfl | rfl | rfl := hu <;> obtain rfl | rfl | rfl := hv <;> first | rfl | exact absurd rfl h

theorem Core.se_setEngine (k : Core) (u : Nat) (g : Engine) : (k.setEngine u g).se = k.se := by
  unfold Core.setEngine
  split_ifs <;> rfl

/-- What rests on a core without its data is the same in cores that agree there. -/
theorem Core.engine_of_sansData {k l : Core} (h : k.sansData = l.sansData) (u : Nat) : k.engine u = l.engine u :=
  (congrArg (fun k : Core => k.engine u) h :)

theorem Core.rcd_of_sansData {k l : Core} (h : k.sansData = l.sansData) : k.arch.rcd = l.arch.rcd :=
  (congrArg (fun k : Core => k.arch.rcd) h :)

theorem Core.tokq_of_rcd {k l : Core} (h : k.arch.rcd = l.arch.rcd) (q : Nat) : k.tokq q = l.tokq q := by
  rw [Core.tokq, h, Core.tokq]

theorem Core.thread_of_rcd {k l : Core} (h : k.arch.rcd = l.arch.rcd) (n : Nat) : k.thread n = l.thread n := by
  rw [Core.thread, h, Core.thread]

/-! ### Taking the head off its queue -/

/-- A core whose engine `u` has given up its head `e`, with its token, in cycle `n`. -/
noncomputable def Core.popped (k : Core) (u : Nat) (e : QEnt) (n : Nat) : Core :=
  let k1 := if e.op.wen then k.takeTokens e.op.wq 1 else k
  k1.setEngine u { k1.engine u with queue := (k1.engine u).queue.tail, ticket := n }

theorem State.popHead_eq (s : State) (c : Nat) {u : Nat} (e : QEnt) (hu : u ≠ 4) :
    s.popHead c u e = s.modCore c fun k => k.popped u e s.cycle :=
  congrArg (s.modCore c) (funext fun _x => if_neg hu)

theorem Core.engine_popped (k : Core) (u : Nat) (e : QEnt) (n : Nat) :
    (k.popped u e n).engine u = { k.engine u with queue := (k.engine u).queue.tail, ticket := n } := by
  unfold Core.popped
  rw [Core.engine_setEngine]
  cases e.op.wen <;> rfl

theorem Core.arch_popped (k : Core) (u : Nat) (e : QEnt) (n : Nat) :
    (k.popped u e n).arch = (if e.op.wen then k.takeTokens e.op.wq 1 else k).arch := Core.arch_setEngine _ _ _

theorem Core.tokq_popped (k : Core) (u : Nat) (e : QEnt) (n q : Nat) : (k.popped u e n).tokq q =
    if e.op.wen = true ∧ q = e.op.wq then ⟨(k.tokq q).count - 1, (k.tokq q).reserved⟩ else k.tokq q := by
  rw [Core.tokq_of_rcd (congrArg Arch.rcd (k.arch_popped u e n))]
  cases e.op.wen with
  | false => simp
  | true =>
    by_cases hq : q = e.op.wq
    · subst hq
      simp [Core.takeTokens]
    · simp [Core.takeTokens, hq, Core.tokq_modTokq_ne]

theorem Core.thread_popped (k : Core) (u : Nat) (e : QEnt) (n t : Nat) : (k.popped u e n).thread t = k.thread t := by
  rw [Core.thread, Core.arch_popped, Core.thread]
  cases e.op.wen <;> rfl

/-! ### Starts -/

/-- The flight of `e` that its plan gives, started in cycle `start` from the state `s`. -/
noncomputable def State.flightOf (s : State) (c : Nat) (e : QEnt) (p : Plan) (start : Nat) : Flight :=
  ⟨e, (namedSlots e.op).map fun h => ((s.core c).desc h).raw, start, p.occ, p.lat, p.reads, p.writes, p.slot, p.md, p.mags,
    p.magAdd, p.cover, p.abort, p.abortAt⟩

/-- An engine that has started the flight `f`. -/
noncomputable def Engine.launch (g : Engine) (f : Flight) : Engine :=
  { g with
    flights := g.flights ++ [f], free := f.start + f.occ, occ := f.occ,
    ready := if isLmm f.ent.op && f.ent.op.f 21 1 == 1 then f.start + f.lat else g.ready }

/-- A core whose engine `u` has started the flight `f`. -/
noncomputable def Core.launched (k : Core) (u : Nat) (f : Flight) : Core := k.setEngine u ((k.engine u).launch f)

section
variable {s : State} {c u : Nat} {e : QEnt} {rest : List QEnt} {check : State → QEnt → Except (BitVec 8) Plan}
  {act : State → QEnt → State} {hit : State → QEnt → List Range → List Range}

/-- The data effect of `e` on the state `s0` in which it has left its queue, as its plan has it, started in cycle `start`: with the
free values and the sticky bits of a broken distance (R123) and a noise breach (R148). -/
noncomputable def State.acted (s0 : State) (c u : Nat) (e : QEnt) (p : Plan) (start : Nat) (hazchk : Bool) (act : State → QEnt → State)
    (hit : State → QEnt → List Range → List Range) : State :=
  let fs := ((s0.core c).engine u).flights
  let bad := breaksDistance fs e.op start p.reads p.writes
  let s1 := act s0 e
  let s2 := if bad then s1.freeRuns c (brokenRuns fs e.op start p.reads p.writes (hit s0 e)) else s1
  let s3 := if bad ∧ hazchk then (s2.setSticky sSchedHazard).coreEvent c 0x28 else s2
  if p.breach then s3.setSticky sNoiseBound else s3

/-- A head that fails a start check aborts without effect, with its token (R113, R167, R241, R259). -/
theorem State.startHead_error {code : BitVec 8} (hq : ((s.core c).engine u).queue = e :: rest) (hr : s.headReady c u e = true)
    (hc : check (s.popHead c u e) e = .error code) : s.startHead c u check act hit =
      (((s.popHead c u e).modCore c fun k => k.release e.op).progress c).pourFault c u e.op.thread e.pc e.op.word code := by
  unfold State.startHead
  rw [hq]
  exact (if_pos hr).trans (by simp only [hc])

theorem State.acted_onlyData (s0 : State) (p : Plan) (start : Nat) (b : Bool) (hact : ∀ v : State, v.onlyData (act v e) c) :
    s0.onlyData (s0.acted c u e p start b act hit) c := by
  unfold State.acted
  extract_lets fs bad s1 s2 s3
  have h2 : s0.onlyData s2 c := .ite ((hact s0).trans (.freeRuns _ c _)) (hact s0)
  have h3 : s0.onlyData s3 c := .ite ((h2.trans (.setSticky _ c _)).trans (.coreEvent _ c c _)) h2
  exact .ite (h3.trans (.setSticky _ c _)) h3

theorem State.core_setSticky (s : State) (b c : Nat) : (s.setSticky b).core c = s.core c :=
  (State.onlyData.setSticky s (c + 1) b).others c c.lt_succ_self.ne

/-- Where no distance is broken, the core is as the action leaves it. -/
theorem State.core_acted (s0 : State) (p : Plan) (start : Nat) (b : Bool)
    (h : breaksDistance ((s0.core c).engine u).flights e.op start p.reads p.writes = false) :
    (s0.acted c u e p start b act hit).core c = (act s0 e).core c := by
  unfold State.acted
  simp only [h, Bool.false_eq_true, if_false, false_and]
  split
  · exact State.core_setSticky _ _ _
  · rfl

/-- A head that passes its start checks acts on its core's data and is in flight (R120, R174, R234). -/
theorem State.startHead_ok {p : Plan} (hq : ((s.core c).engine u).queue = e :: rest) (hr : s.headReady c u e = true)
    (hc : check (s.popHead c u e) e = .ok p) :
    (((s.popHead c u e).acted c u e p (s.startCycle c u e) (s.core c).hazchk act hit).modCore c
      fun k => k.launched u ((s.popHead c u e).flightOf c e p (s.startCycle c u e))).counted (s.startHead c u check act hit) := by
  have hend {v : State} {q : Prop} [Decidable q] : v.counted (if q then (v.coreEvent c (busyEvent u)).coreEvent c 0x15 else
      v.coreEvent c (busyEvent u)) := by
    split
    · exact State.counted_trans (State.coreEvent_counted _ _ _) (State.coreEvent_counted _ _ _)
    · exact State.coreEvent_counted _ _ _
  unfold State.startHead
  rw [hq]
  simp only [hr, if_true, hc]
  exact hend

theorem Core.sansData_setEngine (k : Core) (u : Nat) (g : Engine) : (k.setEngine u g).sansData = k.sansData.setEngine u g := by
  unfold Core.setEngine
  split_ifs <;> rfl

theorem Core.sansData_launched (k : Core) (u : Nat) (f : Flight) : (k.launched u f).sansData = k.sansData.launched u f :=
  k.sansData_setEngine u ((k.engine u).launch f)

theorem Core.engine_launched (k : Core) (u : Nat) (f : Flight) : (k.launched u f).engine u = (k.engine u).launch f :=
  Core.engine_setEngine _ _ _

/-- The state in which the head of unit `u` has started: its core but for its data, the other cores, and memory. -/
structure State.startedTo (s t : State) (c u : Nat) (e : QEnt) (p : Plan) : Prop where
  core : (t.core c).sansData = (((s.core c).popped u e s.cycle).launched u
    ((s.popHead c u e).flightOf c e p (s.startCycle c u e))).sansData
  others : ∀ d, d ≠ c → t.core d = s.core d
  bytes : s.sameBytes t

theorem State.startHead_started {p : Plan} (hu : u ≠ 4) (hact : ∀ v : State, v.onlyData (act v e) c)
    (hq : ((s.core c).engine u).queue = e :: rest) (hr : s.headReady c u e = true) (hc : check (s.popHead c u e) e = .ok p) :
    s.startedTo (s.startHead c u check act hit) c u e p := by
  have hdata := State.acted_onlyData (u := u) (hit := hit) (s.popHead c u e) p (s.startCycle c u e) (s.core c).hazchk hact
  have hend := State.onlyData.of_counted (State.startHead_ok (act := act) (hit := hit) hq hr hc) c
  have hpop : (s.popHead c u e).core c = (s.core c).popped u e s.cycle := by rw [s.popHead_eq c e hu, State.core_modCore_self]
  refine ⟨?_, fun d hd => ?_, fun v k => ?_⟩
  · rw [hend.core, State.core_modCore_self, Core.sansData_launched, hdata.core, hpop, Core.sansData_launched]
  · rw [hend.others d hd, State.core_modCore_ne _ _ hd, hdata.others d hd, State.popHead, State.core_modCore_ne _ _ hd]
  · exact (hend.bytes v k).trans (hdata.bytes v k)

/-- The head that has started is the last of its engine's flights. -/
theorem State.startedTo.flights {t : State} {p : Plan} (h : s.startedTo t c u e p) : ((t.core c).engine u).flights =
    ((s.core c).engine u).flights ++ [(s.popHead c u e).flightOf c e p (s.startCycle c u e)] := by
  rw [Core.engine_of_sansData h.core, Core.engine_launched, Core.engine_popped]
  rfl

theorem State.startUnit_eq {t : State} {p : Plan} (h : s.startedTo t c u e p) (ht : s.startHead c u check act hit = t) :
    s.startUnit c u check act hit = t.raceFlight c u ((s.popHead c u e).flightOf c e p (s.startCycle c u e)) := by
  have hlast : ((t.core c).engine u).flights[((s.core c).engine u).flights.length]? = some _ :=
    (congrArg (fun l : List Flight => l[_]?) h.flights).trans List.getElem?_concat_length
  unfold State.startUnit
  rw [ht]
  simp only [hlast]

theorem State.startedTo.trans {t v : State} {p : Plan} (h : s.startedTo t c u e p) (g : t.onlyData v c) : s.startedTo v c u e p :=
  ⟨g.core.trans h.core, fun d hd => (g.others d hd).trans (h.others d hd), fun w k => (g.bytes w k).trans (h.bytes w k)⟩

/-- What a head that passes its start checks leaves (R120, R174, R234). -/
theorem State.startUnit_started {p : Plan} (hu : u ≠ 4) (hact : ∀ v : State, v.onlyData (act v e) c)
    (hq : ((s.core c).engine u).queue = e :: rest) (hr : s.headReady c u e = true) (hc : check (s.popHead c u e) e = .ok p) :
    s.startedTo (s.startUnit c u check act hit) c u e p := by
  have h := State.startHead_started (hit := hit) hu hact hq hr hc
  rw [State.startUnit_eq h rfl]
  exact h.trans (.raceFlight _ c u _)

end

/-! ### The heads that start -/

/-- What O16 says of a core whose head has started, of every core that agrees with it in its engine and its registers. -/
theorem State.startedTo.facts {s t v : State} {c : Fin 64} {u : Nat} {e : QEnt} {rest : List QEnt} {p : Plan}
    (h : s.startedTo t c u e p) (hq : ((s.core c).engine u).queue = e :: rest) (hengine : (v.core c).engine u = (t.core c).engine u)
    (hrcd : (v.core c).arch.rcd = (t.core c).arch.rcd) (hothers : ∀ d, d ≠ c.val → v.core d = t.core d) : ∃ f : Flight,
      ((v.core c).engine u).queue = rest ∧ ((v.core c).engine u).flights = ((s.core c).engine u).flights ++ [f] ∧
      f.ent = e ∧ f.start = s.startCycle c u e ∧ f.occ = p.occ ∧ f.lat = p.lat ∧ f.writes = p.writes ∧ f.abort = p.abort ∧
      ((v.core c).engine u).free = s.startCycle c u e + p.occ ∧
      (∀ q, (v.core c).tokq q = (if e.op.wen = true ∧ q = e.op.wq then
        ⟨((s.core c).tokq q).count - 1, ((s.core c).tokq q).reserved⟩ else (s.core c).tokq q)) ∧
      (∀ n, v.thread c n = s.thread c n) ∧ ∀ d, d ≠ c.val → (v.core d).arch = (s.core d).arch := by
  have hunit := hengine.trans ((Core.engine_of_sansData h.core u).trans (Core.engine_launched _ _ _))
  have hregs := hrcd.trans ((Core.rcd_of_sansData h.core).trans (congrArg Arch.rcd (Core.arch_setEngine _ _ _)))
  rw [Core.engine_popped, hq] at hunit
  exact ⟨_, congrArg Engine.queue hunit, congrArg Engine.flights hunit, rfl, rfl, rfl, rfl, rfl, rfl, congrArg Engine.free hunit,
    fun q => (Core.tokq_of_rcd hregs q).trans (Core.tokq_popped _ _ _ _ _),
    fun n => (Core.thread_of_rcd hregs n).trans (Core.thread_popped _ _ _ _ _),
    fun d hd => congrArg Core.arch ((hothers d hd).trans (h.others d hd))⟩

/-- The read of an MRED's prime list is all that comes before the start of the vector engine's head (R137). -/
theorem State.vePreRead_of_no_list {s : State} {c : Nat} {e : QEnt} {rest : List QEnt} (hq : ((s.core c).engine 3).queue = e :: rest)
    (hm : mredReads s c e = false) (env : Option AccessErr) : s.vePreRead c env = s := by
  unfold State.vePreRead
  rw [hq]
  exact if_neg (by rw [hm, Bool.and_false]; exact Bool.false_ne_true)

/-- Freeing the walker (R349) leaves the engine and the registers of its core, and the other cores. -/
theorem State.freeWalk_facts (t : State) (c : Nat) (b : Bool) {f : Core → Core} (hf : ∀ k, (f k).engine 1 = k.engine 1)
    (ha : ∀ k, (f k).arch = k.arch) :
    let v := if b then t.modCore c f else t
    (v.core c).engine 1 = (t.core c).engine 1 ∧ (v.core c).arch = (t.core c).arch ∧ (∀ d, d ≠ c → v.core d = t.core d) ∧
      t.sameBytes v := by
  have hcore := t.core_modCore_self c f
  cases b with
  | false => exact ⟨rfl, rfl, fun _x _y => rfl, fun _x _y => rfl⟩
  | true => exact ⟨(congrArg (Core.engine · 1) hcore).trans (hf _), (congrArg Core.arch hcore).trans (ha _),
      fun _x hd => t.core_modCore_ne f hd, State.sameBytes_of rfl rfl rfl⟩

/-- Settles O16: the three rows start their head by `startUnit`, after which that of the LME frees the walker. -/
theorem enginesStartTheirHead : Obligations.EnginesStartTheirHead := by
  intro c s started
  have hstarted {u : Nat} {check : State → QEnt → Except (BitVec 8) Plan} {act : State → QEnt → State}
      {hit : State → QEnt → List Range → List Range} {row : Instr} {v : State} (hu : u ≠ 4)
      (hact : ∀ (w : State) (e : QEnt), w.onlyData (act w e) c) (hrow : exec row s = .next v)
      (hv : (v.core c).engine u = ((s.startUnit c u check act hit).core c).engine u ∧
        (v.core c).arch = ((s.startUnit c u check act hit).core c).arch ∧
        ∀ d, d ≠ c.val → v.core d = (s.startUnit c u check act hit).core d) : started u check row := by
    intro e rest p hq hr hc
    obtain ⟨hengine, harch, hothers⟩ := hv
    obtain ⟨f, hf⟩ := (State.startUnit_started (hit := hit) hu (hact · e) hq hr hc).facts hq hengine (congrArg Arch.rcd harch) hothers
    exact ⟨v, f, hrow, hf⟩
  refine ⟨?_, ?_, fun e rest hq hm env => ?_⟩
  · obtain ⟨hengine, harch, hothers, -⟩ := State.freeWalk_facts (s.startUnit c 1 (lmeCheck c) (lmeAct c) (lmeHit c)) c
      (match (s.core c).lme.queue with
        | e :: _ => s.headReady c 1 e && ((s.core c).walkFor e).isSome
        | [] => false) (f := fun k => { k with se := { k.se with walk := none } }) (fun _x => rfl) fun _x => rfl
    exact hstarted (by decide) (fun v => .lmeAct v c) rfl ⟨hengine, harch, hothers⟩
  · exact hstarted (act := teAct c) (hit := teHit c) (by decide) (fun v => .teAct v c) rfl ⟨rfl, rfl, fun _x _y => rfl⟩
  · exact hstarted (act := veAct c) (hit := veHit c) (by decide) (fun v => .veAct v c)
      (congrArg (fun v : State => Host.Outcome.next (v.startUnit c 3 (veCheck c env) (veAct c) (veHit c)))
        (State.vePreRead_of_no_list hq hm env)) ⟨rfl, rfl, fun _x _y => rfl⟩

/-! ### TZERO -/

/-- Zeros in every byte and cell of a tile, and no status bit (R326). -/
def Tile.zero (x : Tile) : Prop := x.data = [] ∧ x.cells = [] ∧ x.status = []

/-- Zeroing the tiles of a list, each by an `f` that leaves zeros, zeroes those and no other. -/
theorem Core.tile_foldl_zero {f : Tile → Tile} (hf : ∀ x, (f x).zero) (u : Nat) (l : List Nat) (k : Core) :
    (u ∈ l ∨ (k.tile u).zero → ((l.foldl (fun k t => (k.modTile t f).dropLatch t) k).tile u).zero) ∧
    (u ∉ l → (l.foldl (fun k t => (k.modTile t f).dropLatch t) k).tile u = k.tile u) := by
  have hstep (k : Core) (t : Nat) : ((k.modTile t f).dropLatch t).tile u = if u = t then f (k.tile t) else k.tile u :=
    Sparse.get_set _ _ _ _ _
  induction l generalizing k with
  | nil => exact ⟨fun h => h.resolve_left List.not_mem_nil, fun _x => rfl⟩
  | cons t l ih =>
    refine ⟨fun h => (ih _).1 ?_, fun h => ?_⟩
    · rw [hstep]
      split
      · exact .inr (hf _)
      · next hne => exact h.imp (fun h => (List.mem_cons.1 h).resolve_left hne) id
    · obtain ⟨hne, hl⟩ := not_or.1 (mt List.mem_cons.2 h)
      exact ((ih _).2 hl).trans ((hstep _ _).trans (if_neg hne))

theorem tile_tzeroAct (s : State) (c : Nat) (e : QEnt) (u : Nat) :
    (u ∈ tilesOf e.op.reg → (((tzeroAct s c e).core c).tile u).zero) ∧
    (u ∉ tilesOf e.op.reg → ((tzeroAct s c e).core c).tile u = (s.core c).tile u) := by
  unfold tzeroAct
  rw [State.core_modCore_self]
  have h := Core.tile_foldl_zero (f := fun x => { x with
    data := [], cells := [], status := [],
    cls := if isC e.op.reg then (classOfCode (e.op.f 23 2)).getD x.cls else x.cls }) (fun _x => ⟨rfl, rfl, rfl⟩) u (tilesOf e.op.reg)
    (s.core c)
  exact ⟨h.1 ∘ .inl, h.2⟩

section
variable {s : State} {c u : Nat} {e : QEnt} {rest : List QEnt} {check : State → QEnt → Except (BitVec 8) Plan}
  {act : State → QEnt → State} {hit : State → QEnt → List Range → List Range} {p : Plan}

/-- Where no distance is broken, the core of a started head is as its action leaves it, with the head in flight. -/
theorem State.core_startHead (hu : u ≠ 4) (hq : ((s.core c).engine u).queue = e :: rest) (hr : s.headReady c u e = true)
    (hc : check (s.popHead c u e) e = .ok p)
    (hb : breaksDistance ((s.core c).engine u).flights e.op (s.startCycle c u e) p.reads p.writes = false) :
    ∃ f, (s.startHead c u check act hit).core c = ((act (s.popHead c u e) e).core c).launched u f := by
  refine ⟨_, ((State.onlyData.of_counted (State.startHead_ok (act := act) (hit := hit) hq hr hc) (c + 1)).others c
    c.lt_succ_self.ne).trans ((State.core_modCore_self _ _ _).trans (congrArg (Core.launched · u _) (State.core_acted _ p _ _ ?_)))⟩
  rw [s.popHead_eq c e hu, State.core_modCore_self, Core.engine_popped]
  exact hb

/-- Where no other engine's flight touches the runs of the head, its start races with none. -/
theorem State.startUnit_unshared {t : State} (h : s.startedTo t c u e p) (hu : u ∈ [1, 2, 3])
    (ht : s.startHead c u check act hit = t) (hs : (s.core c).unshared u p.reads p.writes = true) :
    s.startUnit c u check act hit = t := by
  have hflights : (t.core c).flightsBut u = (s.core c).flightsBut u := by
    refine List.flatMap_congr fun v hv => ?_
    split
    · rfl
    · next hvu =>
      rw [Core.engine_of_sansData h.core, Core.launched, Core.engine_setEngine_ne _ _ hu hv hvu, Core.popped,
        Core.engine_setEngine_ne _ _ hu hv hvu]
      cases e.op.wen <;> rfl
  rw [State.startUnit_eq h ht, State.raceFlight]
  exact if_pos ((congrArg (fun l : List (Nat × Flight) => l.all _) hflights).trans hs)

end

/-- Settles O22. -/
theorem tzeroZeroes : Obligations.TzeroZeroes := by
  intro c s e rest p hq hr hop hc hb hs
  have hstart := State.startHead_started (hit := lmeHit c) (u := 1) (by decide) (fun v => .lmeAct v c e) hq hr hc
  obtain ⟨f, hcore⟩ := State.core_startHead (act := lmeAct c) (hit := lmeHit c) (u := 1) (by decide) hq hr hc hb
  have hunit := State.startUnit_unshared hstart (by decide) rfl hs
  obtain ⟨-, harch, -, hbytes⟩ := State.freeWalk_facts (s.startUnit c 1 (lmeCheck c) (lmeAct c) (lmeHit c)) c
    (match (s.core c).lme.queue with
      | e :: _ => s.headReady c 1 e && ((s.core c).walkFor e).isSome
      | [] => false) (f := fun k => { k with se := { k.se with walk := none } }) (fun _x => rfl) fun _x => rfl
  have hact : lmeAct c (s.popHead c 1 e) e = tzeroAct (s.popHead c 1 e) c e := (if_neg (by rw [hop]; decide)).trans (if_pos hop)
  have hzero := harch.trans (b := ((s.startUnit c 1 (lmeCheck c) (lmeAct c) (lmeHit c)).core c).arch)
    (c := ((tzeroAct (s.popHead c 1 e) c e).core c).arch) (by rw [hunit, hcore, Core.launched, Core.arch_setEngine, hact])
  have htile (v : Nat) := congrArg (fun a : Arch => Sparse.get Tile.init a.tiles v) hzero
  have hpop (v : Nat) : ((s.popHead c 1 e).core c).tile v = (s.core c).tile v := by
    rw [s.popHead_eq c e (by decide), State.core_modCore_self, Core.tile, Core.arch_popped]
    cases e.op.wen <;> rfl
  refine ⟨_, rfl, fun v hv => ?_, fun v hv => ?_, fun w k => (hbytes w k).trans ?_⟩
  · exact (congrArg Tile.zero (htile v)).mpr ((tile_tzeroAct _ _ _ _).1 hv)
  · exact (htile v).trans (((tile_tzeroAct _ _ _ _).2 hv).trans (hpop v))
  · rw [hunit]
    exact hstart.bytes w k

end Sys2Proof.Machine
end

section
/-! PROOFS. The control link: what is sent is kept, and how a command that passes its checks acts (R456, R461 to R464). -/

set_option Elab.async false
set_option tactic.hygienic false

namespace Sys2Proof.Machine

/-! ### What changes the link alone -/

/-- A state with another link and counters. -/
noncomputable def State.relink (t : State) (cp : Cp) (cnt : Cnt) : State := { t with cp := cp, cnt := cnt }

theorem State.onlyLink.trans {s t u : State} (h : s.onlyLink t) (g : t.onlyLink u) : s.onlyLink u :=
  (congrArg (State.relink · s.cp s.cnt) g :).trans h

theorem State.onlyLink.of_modCp {s u : State} {f : Cp → Cp} (h : (s.modCp f).onlyLink u) : s.onlyLink u :=
  .trans (t := s.modCp f) rfl h

theorem State.onlyLink.modCp {s u : State} (h : s.onlyLink u) (f : Cp → Cp) : s.onlyLink (u.modCp f) := h

theorem State.onlyLink.eq {s u : State} (h : s.onlyLink u) : u = s.relink u.cp u.cnt :=
  (congrArg (State.relink · u.cp u.cnt) h :)

theorem State.onlyLink.counted {s t u : State} (h : s.onlyLink t) (g : t.counted u) : s.onlyLink u := by
  obtain ⟨ctl, val, rfl⟩ := g
  exact h

theorem State.cp_counted {s t : State} (h : s.counted t) : t.cp = s.cp := by
  obtain ⟨ctl, val, rfl⟩ := h
  rfl

/-! ### Frames that are sent -/

/-- A frame as the module puts it on the lane. -/
noncomputable def Cp.stamped (k : Cp) (f : CpFrame) : CpFrame := { f with ackseq := k.rxSeq, credit := k.freed }

theorem State.cp_laneOut (s : State) (f : CpFrame) : (s.laneOut f).cp = { s.cp with lane := s.cp.lane ++ [s.cp.stamped f] } :=
  State.cp_counted (State.hubEvent_counted _ _ _)

theorem State.onlyLink_laneOut (s : State) (f : CpFrame) : s.onlyLink (s.laneOut f) := by
  delta State.laneOut
  extract_lets g
  refine State.onlyLink.counted ?_ (State.hubEvent_counted _ _ _)
  rfl

/-- What a frame says: all of it but the numbers that it gets when it is sent. -/
noncomputable def CpFrame.msg (g : CpFrame) : CpFrame := { g with seq := 0, ackseq := 0, credit := 0 }

/-- The link but for what it sends. -/
noncomputable def Cp.sansTx (k : Cp) : Cp := { k with peerCredit := 0, txSeq := 0, txCount := 0, held := [], ready := [], lane := [], ackAt := 0 }

/-- From `s` to `t` frames have been sent of those that are held or in `l`, and none was lost. -/
def State.pumped (s : State) (l : List CpFrame) (t : State) : Prop :=
  s.onlyLink t ∧ (t.cp.held ++ t.cp.ready).map CpFrame.msg = (s.cp.held ++ l).map CpFrame.msg ∧ t.cp.sansTx = s.cp.sansTx

theorem State.pumped.cons {s t v : State} {f g : CpFrame} {r : List CpFrame} (h : (t.laneOut g).pumped r v)
    (hlink : s.onlyLink t) (hheld : t.cp.held = s.cp.held ++ [g]) (hmsg : g.msg = f.msg) (hrest : t.cp.sansTx = s.cp.sansTx) :
    s.pumped (f :: r) v := by
  obtain ⟨hl, hframes, hr⟩ := h
  have hcp := t.cp_laneOut g
  refine ⟨hlink.trans ((t.onlyLink_laneOut g).trans hl), ?_, hr.trans ((congrArg Cp.sansTx hcp).trans hrest)⟩
  have hlane : (t.laneOut g).cp.held = s.cp.held ++ [g] := (congrArg Cp.held hcp).trans hheld
  rw [hframes, hlane, List.append_assoc, List.map_append, List.map_append, List.map_append, List.map_cons, hmsg]
  rfl

theorem State.pumped.ite {s a b : State} {l : List CpFrame} {p : Prop} [Decidable p] (ha : s.pumped l a) (hb : s.pumped l b) :
    s.pumped l (if p then a else b) := by
  split <;> assumption

theorem State.pumped_pumpList (l : List CpFrame) (s : State) : s.pumped l (State.pumpList l s) := by
  induction l generalizing s with
  | nil => exact ⟨rfl, rfl, rfl⟩
  | cons f r ih => exact .ite (.cons (ih _) rfl rfl rfl rfl) ⟨rfl, rfl, rfl⟩

theorem State.pumped_pump (s : State) : s.pumped s.cp.ready s.pump := State.pumped_pumpList _ _

theorem State.pumped_emit (s : State) (f : CpFrame) : s.onlyLink (s.emit f) ∧
    ((s.emit f).cp.held ++ (s.emit f).cp.ready).map CpFrame.msg = (s.cp.held ++ (s.cp.ready ++ [f])).map CpFrame.msg ∧
    (s.emit f).cp.sansTx = s.cp.sansTx := by
  obtain ⟨hlink, h⟩ := State.pumped_pump (s.modCp fun k => { k with ready := k.ready ++ [f] })
  exact ⟨hlink.of_modCp, h⟩

/-- A frame that is kept under another number says the same. -/
theorem State.says_of_frames {t : State} {l : List CpFrame} (h : (t.cp.held ++ t.cp.ready).map CpFrame.msg = l.map CpFrame.msg)
    {f : CpFrame} (hf : f ∈ l) : t.says f.type f.opcode f.status f.ctag f.payload := by
  obtain ⟨g, hg, hmsg⟩ := List.mem_map.1 (h ▸ List.mem_map_of_mem hf)
  exact ⟨g, hg, (congrArg CpFrame.type hmsg :), (congrArg CpFrame.opcode hmsg :), (congrArg CpFrame.status hmsg :),
    (congrArg CpFrame.ctag hmsg :), (congrArg CpFrame.payload hmsg :)⟩

theorem State.says_emit (s : State) (f : CpFrame) : (s.emit f).says f.type f.opcode f.status f.ctag f.payload :=
  State.says_of_frames (s.pumped_emit f).2.1 (List.mem_append_right _ (List.mem_append_right _ (List.mem_singleton_self f)))

theorem State.says.emit {s : State} {type op st : BitVec 8} {ctag : BitVec 16} {p : List Byte} (h : s.says type op st ctag p)
    (f : CpFrame) : (s.emit f).says type op st ctag p := by
  obtain ⟨g, hg, rfl, rfl, rfl, rfl, rfl⟩ := h
  exact State.says_of_frames (s.pumped_emit f).2.1 (by rw [← List.append_assoc]; exact List.mem_append_left _ hg)

theorem State.says_respond (s : State) (ctag : BitVec 16) (op st : BitVec 8) (p : List Byte) :
    (s.respond ctag op st p).says 0x11 op st ctag p := State.says_emit _ (rspFrame ctag op st false p)

theorem State.onlyLink_respond (s : State) (ctag : BitVec 16) (op st : BitVec 8) (p : List Byte) :
    s.onlyLink (s.respond ctag op st p) := by
  delta State.respond
  extract_lets keep rec'
  exact .trans (t := { s with cp := { s.cp with record := rec' } }) rfl (State.pumped_emit _ _).1

/-! ### Commands -/

theorem State.onlyLink_cpArrives (s : State) (n : Nat) : s.onlyLink (s.cpArrives n) :=
  .modCp (.counted (rfl : State.onlyLink s (s.crossed 128 (38 + n))) (State.hubEvent_counted _ _ _)) _

theorem State.cp_cpArrives (s : State) (n : Nat) : (s.cpArrives n).cp = { s.cp with heard := s.now } :=
  congrArg (fun k : Cp => { k with heard := s.now }) (State.cp_counted (State.hubEvent_counted (s.crossed 128 (38 + n)) 0x11 256))

theorem State.takeAck_facts (s : State) (h : CpHdr) : s.onlyLink (s.takeAck h) ∧ (s.takeAck h).cp.sansTx = s.cp.sansTx := by
  delta State.takeAck
  extract_lets n more
  exact ⟨.of_modCp (State.pumped_pump _).1, (State.pumped_pump _).2.2⟩

/-- A CMD frame that is taken changes the link alone until its command is looked up in the record. -/
theorem State.command_of_takes {s : State} {h : CpHdr} {p : List Byte} (ht : s.takes h p) (op : BitVec 8)
    (found : List (Nat × EccFind)) : ∃ u, s.onlyLink u ∧ u.cp.record = s.cp.record ∧ u.cp.blocked = s.cp.blocked ∧
      s.command op h p found = u.cmdAccepted op h.ctag p found := by
  obtain ⟨hst, hseq, hlen⟩ := ht
  have hlink := s.onlyLink_cpArrives p.length
  have hcp := s.cp_cpArrives p.length
  obtain ⟨htake, hrest⟩ := ((s.cpArrives p.length).modCp fun k => { k with rxSeq := k.rxSeq + 1, nakAt := none }).takeAck_facts h
  refine ⟨_, hlink.trans htake.of_modCp, (congrArg Cp.record hrest :).trans (congrArg Cp.record hcp :),
    (congrArg Cp.blocked hrest :).trans (congrArg Cp.blocked hcp :), ?_⟩
  rw [State.command, if_neg (not_not_intro hst), if_neg (Nat.not_lt.2 hlen), if_neg (not_not_intro hseq)]

/-- The checks of R464 do not look at the link or the counters. -/
theorem State.cmdChecks_of_onlyLink {s u : State} (h : s.onlyLink u) (op : BitVec 8) (p : List Byte) :
    u.cmdChecks op p = s.cmdChecks op p := by
  rw [h.eq]
  rfl

/-- A command that starts is answered the first of its checks that fails, or acts (R464). -/
theorem State.cmdStart_facts (s : State) (op : BitVec 8) (ctag : BitVec 16) (p : List Byte) (found : List (Nat × EccFind)) :
    ∃ u, s.onlyLink u ∧ (∀ st, s.cmdChecks op p = some st → s.cmdStart op ctag p found = u.respond ctag op st []) ∧
      (s.cmdChecks op p = none → s.cmdStart op ctag p found = u.cmdAct op ctag p found) := by
  delta State.cmdStart
  extract_lets s1 s2
  have h1 : s.onlyLink s1 := by
    unfold s1
    split
    · rfl
    · exact .counted (t := s) rfl (s.countIn_counted _ _ _ _ _ _)
  have h2 : s.onlyLink s2 := h1
  rw [← State.cmdChecks_of_onlyLink h2]
  exact ⟨s2, h2, fun st h => by rw [h], fun h => by rw [h]⟩

/-- A new command that nothing holds back starts. -/
theorem State.command_of_flows {s : State} {h : CpHdr} {p : List Byte} (ht : s.takes h p)
    (hr : s.cp.record.find? (fun r => r.ctag == h.ctag) = none) (hf : s.cmdFlows = true) (op : BitVec 8) (found : List (Nat × EccFind)) :
    ∃ u, s.onlyLink u ∧ s.command op h p found = u.cmdStart op h.ctag p found := by
  obtain ⟨u, hu, hrecord, hblocked, heq⟩ := State.command_of_takes ht op found
  have hflows : u.cmdFlows = true := by
    rw [State.cmdFlows, hblocked, hu.eq]
    exact hf
  rw [heq, State.cmdAccepted, hrecord, hr]
  exact ⟨_, hu.modCp _, if_pos (.inl hflows)⟩

/-- A command that passes its checks acts on a state that differs in the link and the counters. -/
theorem State.accepts.elim {s : State} {h : CpHdr} {p : List Byte} {op : BitVec 8} (ha : s.accepts op h p)
    (found : List (Nat × EccFind)) {R : Prop}
    (hR : ∀ cp cnt, s.command op h p found = (s.relink cp cnt).cmdAct op h.ctag p found → R) : R := by
  obtain ⟨ht, hr, hf, hc⟩ := ha
  obtain ⟨u, hu, heq⟩ := State.command_of_flows ht hr hf op found
  obtain ⟨v, hv, -, hact⟩ := u.cmdStart_facts op h.ctag p found
  refine hR v.cp v.cnt (heq.trans ((hact ((State.cmdChecks_of_onlyLink hu op p).trans hc)).trans ?_))
  rw [← (hu.trans hv).eq]

theorem State.onlyLink.bytes {s t : State} (h : s.onlyLink t) : s.sameBytes t := by
  rw [h.eq]
  exact State.sameBytes_of rfl rfl rfl

end Sys2Proof.Machine
end

section
/-! PROOFS. The checks of commands, and the commands that ask and set (R461, R464). -/

set_option Elab.async false
set_option tactic.hygienic false

namespace Sys2Proof.Machine

/-! ### Commands that are answered and not executed -/

/-- What holds of the alternative of a numeral, and of the rest, holds of the match. -/
theorem natLitCases {β : Type} (Q : β → Prop) {n k : Nat} {a : β} {b : ¬ n = k → β} (ha : n = k → Q a) (hb : ∀ h, Q (b h)) :
    Q (dite (n = k) (Eq.ndrec_symm (motive := fun _x => β) a) b) := by
  by_cases h : n = k
  · subst h
    rw [dif_pos rfl]
    exact ha rfl
  · rw [dif_neg h]
    exact hb h

/-- A check that fails first gives its status, and one that does not fail leaves the others. -/
theorem status_of_ite {c : Prop} [Decidable c] {a st : BitVec 8} {o : Option (BitVec 8)} (h : (if c then some a else o) = some st) :
    (c → st = a) ∧ (¬ c → o = some st) :=
  ⟨fun hc => (Option.some.inj ((if_pos hc).symm.trans h)).symm, fun hc => (if_neg hc).symm.trans h⟩

theorem isMem_iff {op : BitVec 8} : isMem op = true ↔ op = 0x10#8 ∨ op = 0x11#8 := by
  rw [isMem, Bool.or_eq_true, beq_iff_eq, beq_iff_eq]

theorem State.busyFor_of_check {s : State} {op st : BitVec 8} {p : List Byte}
    (h : (if s.busyFor op p then some 0x07 else none) = some st) : s.busyFor op p = true ∧ st = 0x07 := by
  by_cases hb : s.busyFor op p = true
  · exact ⟨hb, (status_of_ite h).1 hb⟩
  · exact nomatch (status_of_ite h).2 hb

/-- The row `r` stands for a CMD frame with opcode `op`. -/
def State.runs (s : State) (op : BitVec 8) (h : CpHdr) (p : List Byte) (r : Instr) : Prop :=
  ∃ found, exec r s = .next (s.command op h p found)

theorem State.runs.of_opcode {s : State} {h : CpHdr} {p : List Byte} {op o : BitVec 8} {found : List (Nat × EccFind)} {r : Instr}
    (hr : exec r s = .next (s.command o h p found)) (e : op.toNat = o.toNat) : s.runs op h p r :=
  ⟨found, by rw [hr, BitVec.eq_of_toNat_eq e]⟩

theorem State.runs_badOpcode {s : State} {op : BitVec 8} (h : CpHdr) (p : List Byte)
    (hl : op.toNat ∉ [0x01, 0x02, 0x10, 0x11, 0x12, 0x13, 0x20, 0x21, 0x30, 0x31, 0x32, 0x40, 0x41, 0x42, 0x43, 0x50, 0x51]) :
    s.runs op h p (.badOpcodeCommand op h p) := by
  have hlist : ∀ op : BitVec 8, cmdListed op = true →
      op.toNat ∈ [0x01, 0x02, 0x10, 0x11, 0x12, 0x13, 0x20, 0x21, 0x30, 0x31, 0x32, 0x40, 0x41, 0x42, 0x43, 0x50, 0x51] := by decide
  exact ⟨[], congrArg Host.Outcome.next (if_neg fun h => hl (hlist op h))⟩

set_option smartUnfolding false in
/-- Settles O35. -/
theorem commandsAreChecked : Obligations.CommandsAreChecked := by
  intro h p found s row
  have hrow (op : BitVec 8) : s.runs op h p (row op) :=
    natLitCases (s.runs op h p) (.of_opcode (o := 0x01) (found := []) rfl) fun h0 =>
    natLitCases (s.runs op h p) (.of_opcode (o := 0x02) (found := []) rfl) fun h1 =>
    natLitCases (s.runs op h p) (.of_opcode (o := 0x10) (found := found) rfl) fun h2 =>
    natLitCases (s.runs op h p) (.of_opcode (o := 0x11) (found := found) rfl) fun h3 =>
    natLitCases (s.runs op h p) (.of_opcode (o := 0x12) (found := []) rfl) fun h4 =>
    natLitCases (s.runs op h p) (.of_opcode (o := 0x13) (found := []) rfl) fun h5 =>
    natLitCases (s.runs op h p) (.of_opcode (o := 0x20) (found := []) rfl) fun h6 =>
    natLitCases (s.runs op h p) (.of_opcode (o := 0x21) (found := []) rfl) fun h7 =>
    natLitCases (s.runs op h p) (.of_opcode (o := 0x30) (found := []) rfl) fun h8 =>
    natLitCases (s.runs op h p) (.of_opcode (o := 0x31) (found := []) rfl) fun h9 =>
    natLitCases (s.runs op h p) (.of_opcode (o := 0x32) (found := []) rfl) fun h10 =>
    natLitCases (s.runs op h p) (.of_opcode (o := 0x40) (found := []) rfl) fun h11 =>
    natLitCases (s.runs op h p) (.of_opcode (o := 0x41) (found := []) rfl) fun h12 =>
    natLitCases (s.runs op h p) (.of_opcode (o := 0x42) (found := []) rfl) fun h13 =>
    natLitCases (s.runs op h p) (.of_opcode (o := 0x43) (found := []) rfl) fun h14 =>
    natLitCases (s.runs op h p) (.of_opcode (o := 0x50) (found := []) rfl) fun h15 =>
    natLitCases (s.runs op h p) (.of_opcode (o := 0x51) (found := []) rfl) fun h16 =>
    s.runs_badOpcode h p <|
      List.not_mem_cons_of_ne_of_not_mem h0 <| List.not_mem_cons_of_ne_of_not_mem h1 <|
      List.not_mem_cons_of_ne_of_not_mem h2 <| List.not_mem_cons_of_ne_of_not_mem h3 <|
      List.not_mem_cons_of_ne_of_not_mem h4 <| List.not_mem_cons_of_ne_of_not_mem h5 <|
      List.not_mem_cons_of_ne_of_not_mem h6 <| List.not_mem_cons_of_ne_of_not_mem h7 <|
      List.not_mem_cons_of_ne_of_not_mem h8 <| List.not_mem_cons_of_ne_of_not_mem h9 <|
      List.not_mem_cons_of_ne_of_not_mem h10 <| List.not_mem_cons_of_ne_of_not_mem h11 <|
      List.not_mem_cons_of_ne_of_not_mem h12 <| List.not_mem_cons_of_ne_of_not_mem h13 <|
      List.not_mem_cons_of_ne_of_not_mem h14 <| List.not_mem_cons_of_ne_of_not_mem h15 <|
      List.not_mem_cons_of_ne_of_not_mem h16 <|
      List.not_mem_nil
  refine ⟨fun op st ht hr hf hc => ⟨?_, (status_of_ite hc).1, fun hl => (status_of_ite ((status_of_ite hc).2 (ne_false_of_eq_true hl))).1,
    fun hl hn => (status_of_ite ((status_of_ite ((status_of_ite hc).2 (ne_false_of_eq_true hl))).2 (ne_false_of_eq_true hn))).1,
    fun hl hn hf => (status_of_ite ((status_of_ite ((status_of_ite ((status_of_ite hc).2 (ne_false_of_eq_true hl))).2
      (ne_false_of_eq_true hn))).2 (ne_false_of_eq_true hf))).1, fun hl hn hf ha => ?_⟩, fun op st r ht hr hst hrep => ?_⟩
  · obtain ⟨f, hexec⟩ := hrow op
    obtain ⟨u, hu, heq⟩ := State.command_of_flows ht hr hf op f
    obtain ⟨v, hv, hstatus, -⟩ := u.cmdStart_facts op h.ctag p f
    rw [hexec, heq, hstatus st ((State.cmdChecks_of_onlyLink hu op p).trans hc)]
    exact ⟨_, rfl, State.says_respond _ _ _ _ _, (hu.trans hv).trans (State.onlyLink_respond _ _ _ _ _)⟩
  · have hopen := (status_of_ite ((status_of_ite ((status_of_ite ((status_of_ite hc).2 (ne_false_of_eq_true hl))).2
      (ne_false_of_eq_true hn))).2 (ne_false_of_eq_true hf))).2 (ne_false_of_eq_true ha)
    exact ⟨(status_of_ite hopen).1 ∘ (And.imp_left isMem_iff.2 ·),
      fun h => (status_of_ite ((status_of_ite hopen).2 (h ∘ (And.imp_left isMem_iff.1 ·)))).1,
      fun h hp => State.busyFor_of_check ((status_of_ite ((status_of_ite hopen).2 (h ∘ (And.imp_left isMem_iff.1 ·)))).2
        (ne_true_of_eq_false hp))⟩
  · obtain ⟨f, hexec⟩ := hrow op
    obtain ⟨u, hu, hrecord, -, heq⟩ := State.command_of_takes ht op f
    have hans : u.cmdAccepted op h.ctag p f =
        (u.modCp fun k => { k with freed := k.freed + 1 }).emit (rspFrame h.ctag r.opcode st true (r.payload.getD [])) := by
      rw [State.cmdAccepted, hrecord, hr]
      simp only [hst, hrep]
      rfl
    rw [hexec, heq, hans]
    exact ⟨_, rfl, State.says_emit _ _, hu.trans (State.pumped_emit _ _).1.of_modCp⟩

end Sys2Proof.Machine
end

section
/-! PROOFS. Commands that begin a power transition or a reset, and the time limit of a command (R465, R482, R483, R559). -/

set_option Elab.async false
set_option tactic.hygienic false

namespace Sys2Proof.Machine

/-- A response leaves the commands that wait. -/
theorem State.waiting_respond (s : State) (ctag : BitVec 16) (op st : BitVec 8) (p : List Byte) :
    (s.respond ctag op st p).cp.waiting = s.cp.waiting := (congrArg Cp.waiting (State.pumped_emit _ _).2.2 :)

/-- A command that no longer has its time to run, where nothing that waits has its CTAG and is timed, leaves all as it is. -/
theorem State.dropWaiting_of_untimed {s : State} {ctag : BitVec 16}
    (h : ∀ w ∈ s.cp.waiting, w.ctag = ctag → w.opcode ∈ [0x30#8, 0x31, 0x32, 0x51]) : s.dropWaiting ctag = s := by
  have hnone : s.cp.waiting.find? (fun w => w.ctag == ctag && !cmdUntimed w.opcode) = none := by
    refine List.find?_eq_none.2 fun w hw hb => ?_
    obtain ⟨hc, hu⟩ := Bool.and_eq_true_iff.1 hb
    rw [cmdUntimed, List.contains_iff_mem.2 (h w hw (eq_of_beq hc))] at hu
    exact Bool.noConfusion hu
  rw [State.dropWaiting, hnone]

/-- A command that has run to its time is looked at. -/
theorem exec_commandTimeout {s : State} {ctag : BitVec 16} (ht : s.timeUp ctag = true) :
    exec (.commandTimeout ctag) s = .next (match s.bg with
      | some g => if g.ctag = ctag ∧ g.past = false then s.abandon.respond ctag g.opcode 0x12 [] else s.dropWaiting ctag
      | none => s.dropWaiting ctag) := congrArg Host.Outcome.next (if_neg (ne_false_of_eq_true ht))

/-- What a POWER_STATE whose transition begins leaves (R482). -/
theorem State.beginTransition_facts (s : State) (ctag : BitVec 16) (p : List Byte) (goal : Power) :
    let t := State.beginTransition { s with bg := some ⟨0x50, ctag, .waiting, p⟩ } goal 0
    t.pwr.target = some goal ∧ t.pwr.state = s.pwr.state ∧ (goal = .chrysalis → t.says 0x11 0x50 0 ctag [] ∧ t.pwr.rstEntry = 0) ∧
      (goal ≠ .chrysalis → t.bg = some ⟨0x50, ctag, .transition, p⟩) ∧ s.sameBytes t := by
  intro t
  by_cases hg : goal = .chrysalis
  · subst hg
    have ht : t = _ := rfl
    have hl := State.onlyLink_respond { s with bg := none } ctag 0x50 0 []
    exact ⟨rfl, (congrArg (·.pwr.state) hl :), fun _x => ⟨State.says_respond { s with bg := none } ctag 0x50 0 [], rfl⟩,
      fun h => absurd rfl h, fun v k => hl.bytes v k⟩
  · have ht : t = State.modPwr { s with bg := some ⟨0x50, ctag, .transition, p⟩ } fun q =>
        { q with target := some goal, wakeCause := 0, rstEntry := if goal = Power.chrysalis then 0 else q.rstEntry } :=
      (by dsimp only [t, State.beginTransition]; rw [if_pos ⟨rfl, rfl⟩, if_neg hg])
    rw [ht]
    exact ⟨rfl, rfl, fun h => absurd h hg, fun _x => rfl, State.sameBytes_of rfl rfl rfl⟩

/-- A state in which a WARM_RESET is due, which holds back what follows (R483). -/
noncomputable def State.warmPending (r : State) : State :=
  (r.modPwr (fun q => { q with boot := .warmPending, resume := if q.boot = .training then some .training else none })).modCp (fun k => { k with blocked := true })

theorem State.onlyLink.warmPending {s r : State} (h : s.onlyLink r) :
    { r.warmPending with cp := s.cp, cnt := s.cnt, pwr := s.pwr } = s := (congrArg (fun t : State => { t with pwr := s.pwr }) h :)

theorem State.says.respond {s : State} {type op st : BitVec 8} {ctag : BitVec 16} {p : List Byte} (h : s.says type op st ctag p)
    {ctag' : BitVec 16} {op' st' : BitVec 8} {p' : List Byte} : (s.respond ctag' op' st' p').says type op st ctag p := by
  delta State.respond
  extract_lets keep rec'
  exact State.says.emit (s := { s with cp := { s.cp with record := rec' } }) h _

/-- Settles O43. -/
theorem powerCommandsBegin : Obligations.PowerCommandsBegin := by
  intro h p s goal
  refine ⟨fun ha hch => ?_, fun ha hch => ?_, fun ha hb => ?_, fun g ha hb => ?_, fun ctag hb hw => ?_, fun ctag r hr ht => ?_,
    fun ctag w hb ht hw => ?_, fun g hb hp ht => ?_⟩
  · refine ha.elim [] fun cp cnt heq => ?_
    refine ⟨fun hg => ?_, fun hg => ?_⟩
    · exact ⟨_, congrArg Host.Outcome.next (heq.trans ((if_neg (ne_true_of_eq_false hch)).trans (if_pos hg))), State.says_respond _ _ _ _ _,
        .trans (t := s.relink cp cnt) rfl (State.onlyLink_respond _ _ _ _ _)⟩
    · exact ⟨_, congrArg Host.Outcome.next (heq.trans ((if_neg (ne_true_of_eq_false hch)).trans (if_neg hg))),
        State.beginTransition_facts (s.relink cp cnt) h.ctag p goal⟩
  · refine ha.elim [] fun cp cnt heq => ?_
    exact ⟨_, congrArg Host.Outcome.next (heq.trans (if_pos hch)), rfl, rfl, State.sameBytes_of rfl rfl rfl⟩
  · refine ha.elim [] fun cp cnt heq => ?_
    have hdo : (s.relink cp cnt).cmdAct 0x51 h.ctag p [] = ((s.relink cp cnt).respond h.ctag 0x51 0 []).warmPending := by
      change State.doWarmReset _ _ = _
      rw [State.doWarmReset, show (s.relink cp cnt).bg = none from hb]
      rfl
    exact ⟨_, congrArg Host.Outcome.next (heq.trans hdo), State.says_respond (s.relink cp cnt) _ _ _ _, rfl, rfl,
      State.onlyLink.warmPending (.trans (t := s.relink cp cnt) rfl (State.onlyLink_respond _ _ _ _ _))⟩
  · refine ha.elim [] fun cp cnt heq => ?_
    have hdo : (s.relink cp cnt).cmdAct 0x51 h.ctag p [] =
        (((s.relink cp cnt).abandon.respond g.ctag g.opcode 0x13 []).respond h.ctag 0x51 0 []).warmPending := by
      change State.doWarmReset _ _ = _
      rw [State.doWarmReset, show (s.relink cp cnt).bg = some g from hb]
      rfl
    have hl := (State.onlyLink_respond (s.relink cp cnt).abandon g.ctag g.opcode 0x13 []).trans
      (State.onlyLink_respond _ h.ctag 0x51 0 [])
    have hsays := State.says_respond ((s.relink cp cnt).abandon.respond g.ctag g.opcode 0x13 []) h.ctag 0x51 0 []
    have hended := (State.says_respond (s.relink cp cnt).abandon g.ctag g.opcode 0x13 []).respond (ctag' := h.ctag) (op' := 0x51)
      (st' := 0) (p' := [])
    generalize ((s.relink cp cnt).abandon.respond g.ctag g.opcode 0x13 []).respond h.ctag 0x51 0 [] = r at hdo hl hsays hended
    exact ⟨_, congrArg Host.Outcome.next (heq.trans hdo), hsays, hended, (congrArg State.bg hl :), rfl, fun v k => hl.bytes v k⟩
  · exact congrArg Host.Outcome.next (ite_eq_left_iff.2 fun _x => by rw [hb]; exact State.dropWaiting_of_untimed hw)
  · exact congrArg Host.Outcome.next (if_pos (by rw [State.timeUp, hr]; exact decide_eq_false (Nat.not_le.2 ht)))
  · rw [exec_commandTimeout ht, hb]
    have hdrop : s.dropWaiting ctag = (s.modCp fun k => { k with waiting := k.waiting.erase w, freed := k.freed + 1 }).respond ctag
        w.opcode 0x12 [] := by
      rw [State.dropWaiting, hw]
    exact ⟨_, congrArg Host.Outcome.next hdrop, State.waiting_respond _ _ _ _ _, State.says_respond _ _ _ _ _,
      (State.onlyLink_respond _ _ _ _ _).of_modCp⟩
  · rw [exec_commandTimeout ht, hb]
    refine ⟨_, congrArg Host.Outcome.next (if_pos ⟨rfl, hp⟩), ?_⟩
    have hl := State.onlyLink_respond s.abandon g.ctag g.opcode 0x12 []
    exact ⟨(congrArg State.bg hl :), State.says_respond _ _ _ _ _, (congrArg State.mould hl :), (congrArg (·.sec.lifecycle) hl :),
      (congrArg (·.sec.debug) hl :), fun v k => hl.bytes v k⟩

end Sys2Proof.Machine
end

section
/-! PROOFS. The control link's coming and going, and its order (R451 to R460, R485). -/

set_option Elab.async false
set_option tactic.hygienic false

namespace Sys2Proof.Machine

/-! ### Sticky bits -/

/-- From `s` to `t` only the counters change. -/
def State.onlyCounts (s t : State) : Prop := { t with cnt := s.cnt } = s

theorem State.onlyCounts_ite {s a b : State} {p : Prop} [Decidable p] (ha : s.onlyCounts a) (hb : s.onlyCounts b) :
    s.onlyCounts (if p then a else b) := iteInduction (fun _x => ha) fun _x => hb

theorem State.onlyCounts_trigger (s : State) (kind : Nat) : s.onlyCounts (s.trigger kind) :=
  State.onlyCounts_ite rfl (State.onlyCounts_ite rfl rfl)

/-- A sticky bit that is set changes the error record alone, beside the counters. -/
theorem State.setSticky_facts (s : State) {b : Nat} (hb : b < 64) : bitAt (s.setSticky b).err.sticky b = true ∧
    (s.setSticky b).err.linkInfo = s.err.linkInfo ∧ { s.setSticky b with err := s.err, cnt := s.cnt } = s := by
  refine iteInduction (motive := fun t : State => bitAt t.err.sticky b = true ∧ t.err.linkInfo = s.err.linkInfo ∧
    { t with err := s.err, cnt := s.cnt } = s) (fun h => ⟨h, rfl, rfl⟩) fun _x => ?_
  have h := State.onlyCounts_trigger { s with err := { s.err with
    sticky := s.err.sticky ||| (1#64 <<< b), raised := s.err.raised ||| (1#64 <<< b) } } 2
  have hbit : bitAt (s.err.sticky ||| (1#64 <<< b)) b = true := by simp [bitAt, hb]
  exact ⟨(congrArg (fun t : State => bitAt t.err.sticky b) h :).trans hbit, (congrArg (fun t : State => t.err.linkInfo) h :),
    (congrArg (fun t : State => { t with err := s.err }) h :)⟩

/-! ### The SYNC exchange -/

theorem State.cp_sendSync (s : State) :
    s.sendSync.cp = { s.cp with lane := s.cp.lane ++ [s.cp.stamped (plainFrame 0x03 s.syncBytes)], syncAt := s.now } :=
  congrArg (fun k : Cp => { k with syncAt := s.now }) (s.cp_laneOut _)

theorem State.onlyLink_sendSync (s : State) : s.onlyLink s.sendSync := .modCp (s.onlyLink_laneOut _) _

theorem State.onlyLink_enterSync (s : State) : s.onlyLink s.enterSync := .of_modCp (State.onlyLink_sendSync _)

theorem State.linkUp_facts (s : State) : s.onlyLink s.linkUp ∧ s.linkUp.cp.sansTx = { s.cp with st := .up, rxSeq := 0, freed := 0, nakAt := none }.sansTx ∧
    (s.linkUp.cp.held ++ s.linkUp.cp.ready).map CpFrame.msg = (s.cp.held ++ s.cp.ready).map CpFrame.msg := by
  have h := State.pumped_pump (s.modCp fun k => { k with
    st := .up, rxSeq := 0, txSeq := 0, txCount := 0, freed := 0, peerCredit := 0, nakAt := none, ready := k.held ++ k.ready, held := [] })
  exact ⟨h.1.of_modCp, h.2.2, h.2.1⟩

theorem not_syncRsv_of_syncOk {p : List Byte} (hp : syncOk p = true) : ¬ syncRsv p = true := by
  simp only [syncOk, Bool.and_eq_true, beq_iff_eq, decide_eq_true_eq] at hp
  obtain ⟨⟨⟨⟨⟨⟨-, h0⟩, -⟩, h3⟩, -⟩, h6⟩, -⟩ := hp
  rw [syncRsv, h0, h3, h6]
  decide

/-- A module that has received a SYNC and acknowledged it, before it looks whether the exchange is over. -/
noncomputable def State.syncReceived (s : State) (p : List Byte) : State :=
  let t := s.modCp (fun k => { k with gotSync := true, peerBufs := leAt p 4 2 })
  t.laneOut (plainFrame 0x04 t.syncBytes)

theorem State.onlyLink_syncReceived (s : State) (p : List Byte) : s.onlyLink (s.syncReceived p) := (State.onlyLink_laneOut _ _).of_modCp

theorem State.cp_syncReceived (s : State) (p : List Byte) : (s.syncReceived p).cp =
    { s.cp with gotSync := true, peerBufs := leAt p 4 2, lane := s.cp.lane ++ [s.cp.stamped (plainFrame 0x04 s.syncBytes)] } :=
  State.cp_laneOut _ _

theorem exec_cpSync {s : State} {p : List Byte} (hp : syncOk p = true) (hst : s.cp.st = .sync ∨ s.cp.st = .up) : exec (.cpSync p) s =
    .next (((if s.cp.st = .up then (s.cpArrives 16).enterSync else s.cpArrives 16).syncReceived p).trySync) := by
  change execCpSync p s = _
  rw [execCpSync, if_neg (not_and_of_not_left _ (not_syncRsv_of_syncOk hp)), if_pos ⟨hp, hst⟩]
  rfl

theorem exec_cpSync_of_sync {s : State} {p : List Byte} (hp : syncOk p = true) (hst : s.cp.st = .sync) :
    exec (.cpSync p) s = .next ((s.cpArrives 16).syncReceived p).trySync := by
  rw [exec_cpSync hp (.inl hst), if_neg (by rw [hst]; decide)]

/-- What is the same of a frame whatever its numbers is the same of the frames that were sent. -/
theorem CpFrame.map_of_msg {β : Type} {l m : List CpFrame} (h : l.map msg = m.map msg) (f : CpFrame → β) (hf : f ∘ msg = f) :
    l.map f = m.map f := by
  rw [← hf, ← List.map_map, h, List.map_map]

theorem exec_cpSyncAck {s : State} {p : List Byte} (hp : syncOk p = true) (hst : s.cp.st = .sync) : exec (.cpSyncAck p) s =
    .next ((s.cpArrives 16).modCp (fun k => { k with gotAck := true, peerBufs := leAt p 4 2 })).trySync := by
  change execCpSyncAck p s = _
  rw [execCpSyncAck, if_neg (not_and_of_not_left _ (not_syncRsv_of_syncOk hp)), if_pos ⟨hp, hst⟩]

theorem State.trySync_of {s : State} (h : s.cp.gotSync ∧ s.cp.gotAck) : s.trySync = s.linkUp := if_pos h

theorem State.trySync_of_not {s : State} (h : s.cp.gotSync = false ∨ s.cp.gotAck = false) : s.trySync = s :=
  if_neg fun g => h.elim (fun e => Bool.noConfusion (e.symm.trans g.1)) fun e => Bool.noConfusion (e.symm.trans g.2)

/-- What the loss of the control link leaves (R459). -/
theorem State.cpDown_facts (s : State) : s.cpDown.cp = { s.cp with st := .locking, downs := min 0xFFFF (s.cp.downs + 1) } ∧
    bitAt s.cpDown.err.sticky sLinkDown = true ∧ bitAt s.cpDown.err.linkInfo 63 = true ∧
    { s.cpDown with cp := s.cp, cnt := s.cnt, err := s.err } = s := by
  have hcap (s : State) : bitAt (s.captureLink 1 0).err.linkInfo 63 = true ∧ { s.captureLink 1 0 with err := s.err } = s :=
    iteInduction (motive := fun t : State => bitAt t.err.linkInfo 63 = true ∧ { t with err := s.err } = s) (fun h => ⟨h, rfl⟩)
      fun _x => ⟨(by decide : bitAt (BitVec.ofNat 64 (2 ^ 63 + 1 * 2 ^ 8 + 0 % 256)) 63 = true), rfl⟩
  obtain ⟨hbit, hcap⟩ := hcap (s.modCp fun k => { k with st := .locking, downs := satAdd 0xFFFF k.downs 1 })
  obtain ⟨hsticky, hinfo, hl⟩ := State.setSticky_facts
    ((s.modCp fun k => { k with st := .locking, downs := satAdd 0xFFFF k.downs 1 }).captureLink 1 0) (b := sLinkDown) (by decide)
  exact ⟨(congrArg State.cp hl :).trans (congrArg State.cp hcap :), hsticky, (congrArg (bitAt · 63) hinfo).trans hbit,
    (congrArg (fun t : State => { t with cp := s.cp, err := s.err, cnt := s.cnt }) hl :).trans
      (congrArg (fun t : State => { t with cp := s.cp, cnt := s.cnt }) hcap :)⟩

/-- Settles O44. -/
theorem controlLinkComesAndGoes : Obligations.ControlLinkComesAndGoes := by
  intro s p
  have harr := s.onlyLink_cpArrives 16
  have harrcp := s.cp_cpArrives 16
  refine ⟨fun hst hhub => ?_, fun hp hst hack => ?_, fun hp hst hack => ?_, fun hp hst => ?_, fun hp hst hsync => ?_, fun hp hst hsync => ?_,
    fun hst ht => ?_, fun row hrow => ?_⟩
  · have hcp := State.cp_sendSync (s.modCp fun k => { k with st := .sync, gotSync := false, gotAck := false })
    exact ⟨_, _, congrArg Host.Outcome.next (if_pos ⟨hst, hhub⟩), (congrArg Cp.st hcp :), (congrArg Cp.gotSync hcp :),
      (congrArg Cp.gotAck hcp :), (congrArg Cp.lane hcp :), rfl, rfl, (congrArg Cp.held hcp :), s.onlyLink_enterSync⟩
  · have hcp := (s.cpArrives 16).cp_syncReceived p
    exact ⟨_, _, (exec_cpSync_of_sync hp hst).trans (congrArg Host.Outcome.next
        (State.trySync_of_not (.inr ((congrArg Cp.gotAck hcp :).trans ((congrArg Cp.gotAck harrcp :).trans hack))))),
      (congrArg Cp.st hcp :).trans ((congrArg Cp.st harrcp :).trans hst), (congrArg Cp.gotSync hcp :), (congrArg Cp.peerBufs hcp :),
      (congrArg Cp.lane hcp :).trans (congrArg (·.lane ++ [_]) harrcp :), rfl, harr.trans (State.onlyLink_syncReceived _ p)⟩
  · have hcp := (s.cpArrives 16).cp_syncReceived p
    have hup := ((s.cpArrives 16).syncReceived p).linkUp_facts
    exact ⟨_, (exec_cpSync_of_sync hp hst).trans (congrArg Host.Outcome.next
        (State.trySync_of ⟨(congrArg Cp.gotSync hcp :), (congrArg Cp.gotAck hcp :).trans ((congrArg Cp.gotAck harrcp :).trans hack)⟩)),
      (congrArg Cp.st hup.2.1 :), (congrArg Cp.rxSeq hup.2.1 :), (harr.trans (State.onlyLink_syncReceived _ p)).trans hup.1⟩
  · have hcp := ((s.cpArrives 16).enterSync).cp_syncReceived p
    have hsync := State.cp_sendSync ((s.cpArrives 16).modCp fun k => { k with st := .sync, gotSync := false, gotAck := false })
    exact ⟨_, ((exec_cpSync hp (.inr hst)).trans (congrArg (fun t : State => Host.Outcome.next (t.syncReceived p).trySync) (if_pos hst))).trans
        (congrArg Host.Outcome.next (State.trySync_of_not (.inr ((congrArg Cp.gotAck hcp :).trans (congrArg Cp.gotAck hsync :))))),
      (congrArg Cp.st hcp :).trans (congrArg Cp.st hsync :), (congrArg Cp.gotSync hcp :),
      (congrArg Cp.gotAck hcp :).trans (congrArg Cp.gotAck hsync :),
      (congrArg Cp.held hcp :).trans ((congrArg Cp.held hsync :).trans (congrArg Cp.held harrcp :)),
      (congrArg Cp.ready hcp :).trans ((congrArg Cp.ready hsync :).trans (congrArg Cp.ready harrcp :)),
      harr.trans ((State.onlyLink_enterSync _).trans (State.onlyLink_syncReceived _ p))⟩
  · exact ⟨_, (exec_cpSyncAck hp hst).trans (congrArg Host.Outcome.next
      (State.trySync_of_not (.inl ((congrArg Cp.gotSync harrcp :).trans hsync)))),
      congrArg (fun k : Cp => { k with gotAck := true, peerBufs := leAt p 4 2 }) harrcp, harr⟩
  · have hup := State.linkUp_facts ((s.cpArrives 16).modCp fun k => { k with gotAck := true, peerBufs := leAt p 4 2 })
    exact ⟨_, (exec_cpSyncAck hp hst).trans (congrArg Host.Outcome.next
        (State.trySync_of ⟨(congrArg Cp.gotSync harrcp :).trans hsync, rfl⟩)), (congrArg Cp.st hup.2.1 :), (congrArg Cp.rxSeq hup.2.1 :),
      (congrArg Cp.freed hup.2.1 :), ⟨_, CpFrame.map_of_msg (hup.2.2.trans (congrArg (fun k : Cp => (k.held ++ k.ready).map _) harrcp :)) _ rfl, rfl⟩,
      harr.trans hup.1.of_modCp⟩
  · exact ⟨_, _, congrArg Host.Outcome.next (if_pos ⟨hst, ht⟩), s.cp_sendSync, rfl, rfl, s.onlyLink_sendSync⟩
  · obtain ⟨rfl, hst⟩ | ⟨rfl, hst⟩ := hrow
    · exact ⟨_, congrArg Host.Outcome.next (if_pos hst), s.cpDown_facts⟩
    · exact ⟨_, congrArg Host.Outcome.next (if_pos hst), s.cpDown_facts⟩

/-! ### Acknowledgement and resends -/

/-- Where nothing waits to be sent, nothing is. -/
theorem State.cp_pump {s : State} (h : s.cp.ready = []) : s.pump.cp = { s.cp with ready := [] } := by
  rw [State.pump, h]
  rfl

/-- An ACKSEQ that is `n` behind the first held frame drops `n` frames. -/
theorem State.takeAck_of_held {s : State} {h : CpHdr} {f : CpFrame} {r : List CpFrame} (n : Nat) (hheld : s.cp.held = f :: r)
    (hn : (h.ackseq - f.seq).toNat = n) (hr : s.cp.ready = []) (hle : n ≤ s.cp.held.length) :
    (s.takeAck h).cp.held = s.cp.held.drop n ∧ (s.takeAck h).cp.lane = s.cp.lane := by
  delta State.takeAck
  extract_lets m more
  have hm : m = n := by
    unfold m
    rw [hheld]
    exact hn
  have hcp (g : Cp → Cp) (hg : (g s.cp).ready = s.cp.ready) : (s.modCp g).pump.cp = { g s.cp with ready := [] } :=
    State.cp_pump (hg.trans hr)
  exact ⟨Eq.trans (congrArg Cp.held (hcp _ rfl)) ((if_pos (hm.symm ▸ hle)).trans (congrArg (s.cp.held.drop ·) hm)),
    Eq.trans (congrArg Cp.lane (hcp _ rfl)) rfl⟩

theorem State.cp_foldl_laneOut (l : List CpFrame) (s : State) : (l.foldl (fun s f => (s.laneOut f).hubEvent 0x13 256) s).cp =
    { s.cp with lane := s.cp.lane ++ l.map s.cp.stamped } := by
  induction l generalizing s with
  | nil => exact congrArg (fun x => { s.cp with lane := x }) (List.append_nil _).symm
  | cons f l ih =>
    have hcp := (State.cp_counted (State.hubEvent_counted (s.laneOut f) 0x13 256)).trans (s.cp_laneOut f)
    exact (ih _).trans (Eq.trans (congrArg (fun k : Cp => { k with lane := k.lane ++ l.map k.stamped }) hcp)
      (congrArg (fun x => { s.cp with lane := x }) (List.append_assoc _ _ _)))

/-- What is held is put on the lane again, and stays held (R456). -/
theorem State.resendHeldCp_facts (s : State) : s.resendHeldCp.cp = { s.cp with
      resends := min 0xFFFF (s.cp.resends + 1), ackAt := s.now, lane := s.cp.lane ++ s.cp.held.map s.cp.stamped } ∧
    bitAt s.resendHeldCp.err.sticky sLinkRetry = true := by
  unfold State.resendHeldCp
  have hcp := State.cp_foldl_laneOut s.cp.held (s.modCp fun k => { k with resends := satAdd 0xFFFF k.resends 1, ackAt := s.now })
  generalize s.cp.held.foldl _ _ = t at hcp
  have h := t.setSticky_facts (b := sLinkRetry) (by decide)
  exact ⟨(congrArg State.cp h.2.2 :).trans hcp, h.1⟩

theorem ahead_of_next {q r : BitVec 32} (h : q = r + 1) : (q - r).toNat = 1 ∧ q ≠ r := by
  have hahead : (q - r).toNat = 1 := by
    rw [h, BitVec.add_comm, BitVec.add_sub_cancel]
    rfl
  refine ⟨hahead, fun e => ?_⟩
  rw [e, BitVec.sub_self] at hahead
  exact absurd hahead (by decide)

/-- A module that has discarded a frame ahead of its turn and sent a NAK (R455). -/
noncomputable def State.nakSent (s : State) : State :=
  ((s.discard.modCp (fun k => { k with nakAt := some s.now, naks := satAdd 0xFFFF k.naks 1 })).laneOut (plainFrame 0x02 [])).setSticky sLinkRetry

theorem State.cp_nakSent (s : State) : s.nakSent.cp = { s.discard.cp with
    nakAt := some s.now, naks := min 0xFFFF (s.cp.naks + 1), lane := s.cp.lane ++ [s.cp.stamped (plainFrame 0x02 [])] } :=
  Eq.trans (congrArg State.cp (State.setSticky_facts ((s.discard.modCp fun k => { k with
    nakAt := some s.now, naks := satAdd 0xFFFF k.naks 1 }).laneOut (plainFrame 0x02 [])) (b := sLinkRetry) (by decide)).2.2 :)
    (State.cp_laneOut _ _)

/-- A STICKY event is sent where the event queue has room (R485). -/
theorem State.event_sticky {s : State} (p : List Byte) (h : s.eventsShared < 496) : s.event 0x03 p = s.emit (evtFrame 0x03 p) := by
  unfold State.event
  exact (if_neg fun e => absurd e.1 (by decide)).trans (if_pos (.inr h))

/-- Settles O45. -/
theorem controlLinkKeepsOrder : Obligations.ControlLinkKeepsOrder := by
  intro s h q hup
  refine ⟨fun f r hheld hack hr => ?_, fun f r hheld hack hr => ?_, fun hheld ht => ?_,
    ⟨_, _, congrArg Host.Outcome.next (if_pos hup), s.cp_laneOut _, rfl, rfl, rfl, s.onlyLink_laneOut _⟩,
    ⟨_, congrArg Host.Outcome.next (if_pos (.inr hup)), rfl⟩, fun hq hn => ?_, fun n hq hn ht => ?_, fun hraised hev hat hr => ?_,
    fun hno => ?_, fun ht => ?_, fun hno => ?_⟩
  · have hcp := s.cp_cpArrives 0
    have htake := (s.cpArrives 0).takeAck_facts h
    have hdrop := (s.cpArrives 0).takeAck_of_held 1 ((congrArg Cp.held hcp :).trans hheld)
      (by rw [hack, BitVec.add_comm, BitVec.add_sub_cancel]; rfl) ((congrArg Cp.ready hcp :).trans hr) (by rw [hcp, hheld]; exact Nat.le_add_left 1 _)
    exact ⟨_, congrArg Host.Outcome.next (if_pos hup), hdrop.1.trans ((congrArg (·.held.drop 1) hcp :).trans (congrArg (List.drop 1) hheld)),
      (congrArg Cp.st htake.2 :).trans ((congrArg Cp.st hcp :).trans hup), (s.onlyLink_cpArrives 0).trans htake.1⟩
  · have hcp := s.cp_cpArrives 0
    have hdrop := (s.cpArrives 0).takeAck_of_held 0 ((congrArg Cp.held hcp :).trans hheld)
      (by rw [hack, BitVec.sub_self]; rfl) ((congrArg Cp.ready hcp :).trans hr) (Nat.zero_le _)
    have hsame := hdrop.1.trans (congrArg Cp.held hcp :)
    have hsent := ((s.cpArrives 0).takeAck h).resendHeldCp_facts
    exact ⟨_, congrArg Host.Outcome.next ((if_pos hup).trans (if_neg (by rw [hsame, hheld]; exact List.cons_ne_nil f r))),
      (congrArg Cp.held hsent.1 :).trans hsame, ⟨_, (congrArg Cp.lane hsent.1 :).trans (congrArg (· ++ _) (hdrop.2.trans (congrArg Cp.lane hcp :))),
        List.map_map.trans (congrArg (List.map _) hsame)⟩, hsent.2⟩
  · have hsent := s.resendHeldCp_facts
    exact ⟨_, congrArg Host.Outcome.next (if_pos ⟨hup, hheld, ht⟩), (congrArg Cp.held hsent.1 :), (congrArg Cp.resends hsent.1 :),
      ⟨_, (congrArg Cp.lane hsent.1 :), List.map_map⟩, hsent.2⟩
  · obtain ⟨hahead, hne⟩ := ahead_of_next hq
    have hall : s.cp.nakAt.all (fun n => decide (n + 14000 ≤ s.now)) = true := by
      cases h : s.cp.nakAt with
      | none => rfl
      | some n => exact Option.all_some.trans (decide_eq_true (hn n h))
    have hout : s.outOfOrder q = s.nakSent := if_pos (by rw [hahead]; exact ⟨by decide, by decide, hall⟩)
    have hcp := s.cp_nakSent
    exact ⟨_, _, congrArg Host.Outcome.next ((if_pos (.inr hup)).trans ((if_pos ⟨hup, hne⟩).trans hout)), (congrArg Cp.nakAt hcp :),
      (congrArg Cp.naks hcp :), (congrArg Cp.lane hcp :), rfl, (congrArg Cp.rxSeq hcp :)⟩
  · have hall : ¬ s.cp.nakAt.all (fun n => decide (n + 14000 ≤ s.now)) = true := by
      rw [hn, Option.all_some]
      exact fun h => Nat.not_le.2 ht (of_decide_eq_true h)
    exact ⟨_, congrArg Host.Outcome.next ((if_pos (.inr hup)).trans ((if_pos ⟨hup, (ahead_of_next hq).2⟩).trans
      (if_neg fun h => hall h.2.2))), rfl⟩
  · have hany : ¬ s.cp.stickyAt.any (fun n => decide (s.now < n + 1400000)) = true := by
      cases h : s.cp.stickyAt with
      | none => exact Bool.noConfusion
      | some n =>
        rw [Option.any_some]
        exact fun g => Nat.not_le.2 (of_decide_eq_true g) (hat n h)
    have hsent := State.pumped_emit { s with err := { s.err with raised := 0 }, cp := { s.cp with stickyAt := some s.now } }
      (evtFrame 0x03 (leBytes 8 s.err.sticky.toNat ++ leBytes 8 s.err.raised.toNat))
    exact ⟨_, congrArg Host.Outcome.next ((if_neg fun h => h.elim hraised fun h => h.elim (Nat.not_le.2 hev) hany).trans
      (State.event_sticky _ hev)), (congrArg (State.relink · s.cp s.cnt) hsent.1 :),
      State.says_emit _ (evtFrame 0x03 _)⟩
  · exact congrArg Host.Outcome.next (if_neg fun h => hno.elim h.2.1 fun hlt => Nat.not_le.2 hlt h.2.2)
  · exact congrArg Host.Outcome.next (if_neg fun h => Nat.not_le.2 ht h.2)
  · refine congrArg Host.Outcome.next (if_pos (hno.imp_right fun ⟨n, hn, hlt⟩ => .inr ?_))
    rw [hn, Option.any_some]
    exact decide_eq_true hlt

end Sys2Proof.Machine
end

section
/-! PROOFS. The counter commands (chapter 19). -/

set_option Elab.async false
set_option tactic.hygienic false

namespace Sys2Proof

/-! ### Tables that are rewritten as a whole -/

namespace Sparse
variable {α : Type} {d : α}

/-- What holds of the default and of every entry holds of every value read. -/
theorem get_of_all {P : α → Prop} (hd : P d) {m : Sparse α} (h : ∀ e ∈ m, P e.2) (k : Nat) : P (get d m k) := by
  induction m with
  | nil => exact hd
  | cons e r ih =>
    exact iteInduction (motive := P) (fun _x => h e List.mem_cons_self) fun _x => ih fun e he => h e (List.mem_cons_of_mem _ he)

theorem get_of_absent {m : Sparse α} {k : Nat} (h : ∀ e ∈ m, e.1 ≠ k) : get d m k = d := by
  induction m with
  | nil => rfl
  | cons e r ih => exact (if_neg (h e List.mem_cons_self)).trans (ih fun e he => h e (List.mem_cons_of_mem _ he))

/-- Leaving out an entry that holds the default does not show, where its key is not used again. -/
theorem get_kept [DecidableEq α] {a k : Nat} {w y : α} {r : Sparse α} (hr : get d (r.filter (fun e => e.2 != d)) k = y)
    (hk : a = k → w = d → y = d) : get d (((a, w) :: r).filter (fun e => e.2 != d)) k = if a = k then w else y := by
  by_cases hw : w = d
  · rw [List.filter_cons_of_neg (by simp [hw]), hr]
    split
    · rename_i ha; exact (hk ha hw).trans hw.symm
    · rfl
  · rw [List.filter_cons_of_pos (by simp [hw]), get, hr]

/-- A table of the values of `g` reads `g` at each key it was made for. -/
theorem get_graph [DecidableEq α] (g : Nat → α) (k : Nat) (l : List Nat) :
    get d ((l.map (fun w => (w, g w))).filter (fun e => e.2 != d)) k = if k ∈ l then g k else d := by
  induction l with
  | nil => rfl
  | cons a l ih =>
    rw [List.map_cons, get_kept ih (by rintro rfl h; simp [h])]
    by_cases ha : a = k
    · rw [if_pos ha, if_pos (ha ▸ List.mem_cons_self), ha]
    · rw [if_neg ha]
      exact if_congr (List.mem_cons.trans (or_iff_right (Ne.symm ha))).symm rfl rfl

/-- A canonical table whose values are changed alike reads the changed values. -/
theorem get_mapped [DecidableEq α] {f : α → α} (hf : f d = d) {m : Sparse α} (h : wf d m = true) (k : Nat) :
    get d ((m.map (fun e => (e.1, f e.2))).filter (fun e => e.2 != d)) k = f (get d m k) := by
  have hr : rising m = true := (Bool.and_eq_true_iff.1 h).1
  clear h
  induction m with
  | nil => exact hf.symm
  | cons a l ih =>
    obtain ⟨hlt, hl⟩ := (rising_cons a l).1 hr
    rw [List.map_cons, get_kept (ih hl) fun ha _x => by rw [get_of_absent fun e he => Nat.ne_of_gt (ha ▸ hlt e he), hf], get, apply_ite f]

end Sparse

namespace Machine

/-! ### The counters in a snapshot -/

theorem toNat_ofNat_mod (x : Nat) : (BitVec.ofNat 64 (x % 2 ^ 48)).toNat = x % 2 ^ 48 := by
  exact Nat.mod_eq_of_lt ((Nat.mod_lt x (by decide)).trans (by decide))

theorem fld_ofNat_mod (x : Nat) : fld (BitVec.ofNat 64 (x % 2 ^ 48)) 0 48 = x % 2 ^ 48 := by
  rw [fld, toNat_ofNat_mod, Nat.pow_zero, Nat.div_one, Nat.mod_mod]

/-- A counter's word in the snapshot holds its 48-bit value, and its OVF above it. -/
theorem snapCounter (v : BitVec 48) (b : BitVec 32) :
    fld (BitVec.ofNat 64 (v.toNat + fld b 31 1 * 2 ^ 48)) 0 48 = v.toNat ∧
    bitAt (BitVec.ofNat 64 (v.toNat + fld b 31 1 * 2 ^ 48)) 48 = bitAt b 31 := by
  have hb : fld b 31 1 < 2 := Nat.mod_lt _ (by decide)
  have hlt : v.toNat + fld b 31 1 * 2 ^ 48 < 2 ^ 64 :=
    (Nat.add_lt_add_of_lt_of_le v.isLt (Nat.mul_le_mul_right _ (Nat.le_of_lt_succ hb))).trans (by decide)
  have hval := BitVec.toNat_ofNat (v.toNat + fld b 31 1 * 2 ^ 48) 64
  rw [Nat.mod_eq_of_lt hlt] at hval
  constructor
  · rw [fld, hval, Nat.pow_zero, Nat.div_one, Nat.add_mul_mod_self_right, Nat.mod_eq_of_lt v.isLt]
  · rw [bitAt, bitAt, BitVec.getLsbD, BitVec.getLsbD, Nat.testBit_eq_decide_div_mod_eq, Nat.testBit_eq_decide_div_mod_eq, hval,
      Nat.add_mul_div_right _ _ (by decide), Nat.div_eq_of_lt v.isLt, Nat.zero_add, Nat.mod_eq_of_lt hb]
    rfl

/-- What the snapshot buffer holds when a copy has ended. -/
noncomputable def State.snapshot (s : State) : Sparse Word := ((List.range 1482).map (fun w => (w, s.snapWord w))).filter (fun e => e.2 != 0)

/-- The state when a copy has ended (R580). -/
noncomputable def State.copyEnded (s : State) : State :=
  { s with cnt := { s.cnt with snap := s.snapshot, snapBusy := false, snapSeq := s.cnt.snapSeq + 1 } }

theorem State.copyEnded_snap (s : State) : s.copyEnded.cnt.snap = s.snapshot := by
  dsimp only [State.copyEnded]

theorem State.clearCounters_snap (s : State) : s.clearCounters.cnt.snap = s.cnt.snap := rfl

theorem exec_snapDone (s : State) : exec .snapDone s =
    .next (if s.cnt.snapBusy then if s.cnt.clearDue then s.copyEnded.clearCounters else s.copyEnded else s) := rfl

theorem State.get_snapshot (s : State) {w : Nat} (hw : w < 1482) : Sparse.get 0 s.snapshot w = s.snapWord w :=
  (Sparse.get_graph s.snapWord w _).trans (if_pos (List.mem_range.2 hw))

/-- The words of the snapshot behind its head are the general counters and then the windows (Table 19-2). -/
theorem State.snapWord_of_le (s : State) {w : Nat} (h : 8 ≤ w) : s.snapWord w = if w < 1224 then
      BitVec.ofNat 64 ((Sparse.get 0 s.cnt.val (w - 8)).toNat + fld (Sparse.get 0 s.cnt.ctl (w - 8)) 31 1 * 2 ^ 48)
    else BitVec.ofNat 64 ((if w % 2 = 0 then (Sparse.get ⟨0, 0, 0⟩ s.cnt.wins ((w - 1224) / 2)).last
      else (Sparse.get ⟨0, 0, 0⟩ s.cnt.wins ((w - 1224) / 2)).peak) % 2 ^ 48) :=
  have ne {k : Nat} (hk : k < 8) : w ≠ k := (hk.trans_le h).ne'
  (if_neg (ne (by decide))).trans ((if_neg (ne (by decide))).trans ((if_neg (ne (by decide))).trans (if_neg h.not_gt)))

theorem State.snapWord_counter (s : State) {n : Nat} (hn : n < 1216) :
    s.snapWord (8 + n) = BitVec.ofNat 64 ((Sparse.get 0 s.cnt.val n).toNat + fld (Sparse.get 0 s.cnt.ctl n) 31 1 * 2 ^ 48) := by
  rw [s.snapWord_of_le (Nat.le_add_right 8 n), if_pos (Nat.add_lt_add_left hn 8), Nat.add_sub_cancel_left]

theorem State.snapWord_window (s : State) (p : Nat) :
    (s.snapWord (1224 + 2 * p)).toNat = (Sparse.get ⟨0, 0, 0⟩ s.cnt.wins p).last % 2 ^ 48 ∧
    (s.snapWord (1225 + 2 * p)).toNat = (Sparse.get ⟨0, 0, 0⟩ s.cnt.wins p).peak % 2 ^ 48 := by
  have h0 : 1224 ≤ 1224 + 2 * p := Nat.le_add_right _ _
  have h1 : 1224 ≤ 1225 + 2 * p := Nat.le_add_right_of_le (by decide)
  have hi : (1225 + 2 * p - 1224) / 2 = p := by
    rw [Nat.add_assoc 1224 1 (2 * p), Nat.add_sub_cancel_left, Nat.add_mul_div_left 1 p two_pos]
    exact Nat.zero_add p
  rw [s.snapWord_of_le (le_trans (by decide) h0), s.snapWord_of_le (le_trans (by decide) h1), if_neg h0.not_gt, if_neg h1.not_gt, hi,
    Nat.add_sub_cancel_left, Nat.mul_div_cancel_left p two_pos, if_pos (Nat.add_mul_mod_self_left 1224 2 p),
    if_neg (ne_of_eq_of_ne (Nat.add_mul_mod_self_left 1225 2 p) (by decide))]
  exact ⟨toNat_ofNat_mod _, toNat_ofNat_mod _⟩

theorem bitAt_clear31 (b : BitVec 32) : bitAt (b &&& 0x7FFFFFFF#32) 31 = false := by
  rw [bitAt, BitVec.getLsbD_and]
  exact Bool.and_false _

/-- A clear leaves no OVF (R582). -/
theorem State.clearCounters_ovf (s : State) (n : Nat) : bitAt (Sparse.get 0 s.clearCounters.cnt.ctl n) 31 = false :=
  Sparse.get_of_all (P := fun b => bitAt b 31 = false) rfl (fun e he => by
    obtain ⟨b, -, rfl⟩ := List.mem_map.1 (List.mem_of_mem_filter he)
    exact bitAt_clear31 b.2) n

/-- Settles O46: each command is computed, and the tables that are rewritten as a whole are read through. -/
theorem countersObey : Obligations.CountersObey := by
  intro s v x w k n p out win val ovf word copied
  have hcopied : ∀ c : Cnt, c.snapBusy = false → c.snapSeq = s.cnt.snapSeq + 1 → c.wins = s.cnt.wins → c.snap = s.snapshot →
      copied c := fun c h1 h2 h3 h4 => by
    have hw : ∀ i, i < 1482 → word c i = s.snapWord i := fun i hi =>
      (congrArg (fun m => Sparse.get 0 m i) h4).trans (s.get_snapshot hi)
    refine ⟨h1, h2, h3, ?_, ?_, ?_, fun hn => ?_, fun hp => ?_⟩
    · rw [hw 0 (by decide)]
      exact fld_ofNat_mod _
    · rw [hw 1 (by decide)]
      exact fld_ofNat_mod _
    · rw [hw 2 (by decide)]
      exact Nat.mod_eq_of_lt ((s.cnt.snapSeq + 1).isLt.trans (by decide))
    · rw [hw (8 + n) ((Nat.add_lt_add_left hn 8).trans (by decide)), s.snapWord_counter hn]
      exact snapCounter _ _
    · have hp' : 2 * p ≤ 2 * 128 := Nat.mul_le_mul_left 2 (Nat.le_of_lt_succ hp)
      rw [hw (1224 + 2 * p) ((Nat.add_le_add_left hp' 1224).trans_lt (by decide)),
        hw (1225 + 2 * p) ((Nat.add_le_add_left hp' 1225).trans_lt (by decide))]
      exact s.snapWord_window p
  have hwrite : exec (.cntValWrite k x) s = .next (s.writeCntVal (counterIndex k) x) → out (.cntValWrite k x) (fun c =>
      val c (counterIndex k) = x ∧ (∀ j, j ≠ counterIndex k → val c j = val s.cnt j) ∧ c.ctl = s.cnt.ctl ∧ c.wins = s.cnt.wins) :=
    fun h => ⟨_, h, ⟨Sparse.get_set_self _ _ _ _, fun j hj => Sparse.get_set_ne _ _ _ hj, rfl, rfl⟩, rfl⟩
  have hwin : s.sound → ∀ f : Win → Win, f ⟨0, 0, 0⟩ = ⟨0, 0, 0⟩ → Sparse.get ⟨0, 0, 0⟩
      ((s.cnt.wins.map (fun e => (e.1, f e.2))).filter (fun e => e.2 != ⟨0, 0, 0⟩)) p = f (win s.cnt p) := fun hs f hf =>
    Sparse.get_mapped hf hs.2.2.2.2.2 p
  have hend : s.now % 2 ^ s.cnt.wlog.toNat = 0 → s.cnt.winAt ≠ s.now → ∀ b, s.cnt.winSkip = b → exec .windowEnd s = .next { s with cnt := { s.cnt with
        winAt := s.now, winSkip := false
        wins := (s.cnt.wins.map (fun e => (e.1, if b then e.2.restarted else e.2.ended))).filter (fun e => e.2 != ⟨0, 0, 0⟩) } } :=
    fun h1 h2 b hb => hb ▸ congrArg Host.Outcome.next (if_pos ⟨h1, h2⟩)
  refine ⟨⟨_, rfl, ⟨rfl, rfl, rfl, rfl, ?_⟩, rfl⟩, fun h => ?_, fun h => ?_, fun h hd => ?_, fun h hd => ?_, fun h => ?_, fun h => ?_,
    fun h => ?_, fun h => ?_, fun h c m => ?_, fun h => ?_, fun h => ?_, fun hs => ?_, fun hs h1 h2 h3 => ?_, fun hs h1 h2 h3 => ?_, fun h => ?_⟩
  · exact if_congr (and_congr_right fun _x => Bool.not_eq_true _ ▸ Iff.rfl) rfl rfl
  · exact ⟨_, congrArg Host.Outcome.next (if_neg (ne_true_of_eq_false h)), ⟨rfl, rfl, rfl, rfl, rfl⟩, rfl⟩
  · exact ⟨_, congrArg Host.Outcome.next (if_pos h), rfl, rfl⟩
  · exact ⟨_, (exec_snapDone s).trans (congrArg Host.Outcome.next ((if_pos h).trans (if_neg (ne_true_of_eq_false hd)))), ⟨hcopied s.copyEnded.cnt rfl rfl rfl s.copyEnded_snap, rfl, rfl⟩, rfl⟩
  · exact ⟨_, (exec_snapDone s).trans (congrArg Host.Outcome.next ((if_pos h).trans (if_pos hd))),
      ⟨hcopied s.copyEnded.clearCounters.cnt rfl rfl rfl
        (s.copyEnded.clearCounters_snap.trans s.copyEnded_snap), rfl, rfl, State.clearCounters_ovf s n⟩, rfl⟩
  · exact congrArg Host.Outcome.next (if_neg (ne_true_of_eq_false h))
  · exact ⟨_, congrArg Host.Outcome.next (if_neg (ne_true_of_eq_false h)), ⟨rfl, State.clearCounters_ovf s n, rfl, rfl⟩, rfl⟩
  · exact ⟨_, congrArg Host.Outcome.next (if_pos h), ⟨rfl, rfl, rfl⟩, rfl⟩
  · cases k with
    | core c m => exact hwrite (congrArg Host.Outcome.next (if_neg (h.resolve_right fun h => h c m rfl)))
    | die d m => exact hwrite rfl
    | hub m => exact hwrite rfl
  · exact congrArg Host.Outcome.next (if_pos h)
  · exact ⟨_, congrArg Host.Outcome.next (if_pos h), ⟨rfl, rfl, rfl⟩, rfl⟩
  · exact ⟨_, congrArg Host.Outcome.next (if_neg h), rfl, rfl⟩
  · exact ⟨_, rfl, ⟨hwin hs (fun w => { w with peak := 0 }) rfl, rfl⟩, rfl⟩
  · exact ⟨_, hend h1 h2 false h3, ⟨rfl, rfl, hwin hs Win.ended rfl⟩, rfl⟩
  · exact ⟨_, hend h1 h2 true h3, ⟨rfl, rfl, hwin hs Win.restarted rfl⟩, rfl⟩
  · exact congrArg Host.Outcome.next (if_neg fun hc => h.elim (fun h => h hc.1) hc.2)

end Machine
end Sys2Proof
end

section
/-! PROOFS. What the sending side of the router leaves: all but the frames and the counts of what it sends (R422, R424, R433). -/

set_option Elab.async false
set_option tactic.hygienic false

namespace Sys2Proof.Machine

/-! ### Frames that are sent on the fabric -/

/-- A port but for the frames it sends and the counts of them. -/
noncomputable def Port.sansTx (k : Port) : Port := { k with txCount := 0, replay := [], creditUsed := [], freedHere := [], queue := [] }

/-- The fabric but for its ports and the frames it sends. -/
noncomputable def Fab.sansTx (k : Fab) : Fab := { k with ports := [], waiting := [], sent := [] }

/-- From `s` to `t` only frames are sent, or wait to be sent, beside the counters. -/
def State.onlySends (s t : State) : Prop :=
  s.onlyFabric t ∧ s.fab.sent <+: t.fab.sent ∧ t.fab.sansTx = s.fab.sansTx ∧ ∀ p, (t.port p).sansTx = (s.port p).sansTx

theorem State.port_modPort (s : State) (p q : Nat) (f : Port → Port) :
    (s.modPort p f).port q = if q = p then f (s.port p) else s.port q := Sparse.get_set _ _ _ _ _

theorem State.port_modPort_self (s : State) (p : Nat) (f : Port → Port) : (s.modPort p f).port p = f (s.port p) :=
  Sparse.get_set_self _ _ _ _

theorem State.onlyFabric.trans {s t u : State} (h : s.onlyFabric t) (g : t.onlyFabric u) : s.onlyFabric u :=
  (congrArg (fun u : State => { u with fab := s.fab, cnt := s.cnt }) g :).trans h

theorem State.onlyFabric.counted {s t u : State} (h : s.onlyFabric t) (g : t.counted u) : s.onlyFabric u := by
  obtain ⟨ctl, val, rfl⟩ := g
  exact h

theorem State.fab_counted {s t : State} (h : s.counted t) : t.fab = s.fab := by
  obtain ⟨ctl, val, rfl⟩ := h
  rfl

theorem State.fab_hubEvent (s : State) (ev n : Nat) : (s.hubEvent ev n).fab = s.fab := State.fab_counted (s.hubEvent_counted ev n)

theorem State.onlyFabric.bytes {s t : State} (h : s.onlyFabric t) : s.sameBytes t :=
  State.sameBytes_of (congrArg State.mem h :) (congrArg State.work h :) (congrArg State.mould h :)

namespace State.onlySends
variable {s t u : State}

theorem refl (s : State) : s.onlySends s := ⟨rfl, List.prefix_rfl, rfl, fun _x => rfl⟩

theorem trans (h : s.onlySends t) (g : t.onlySends u) : s.onlySends u :=
  ⟨h.1.trans g.1, h.2.1.trans g.2.1, g.2.2.1.trans h.2.2.1, fun p => (g.2.2.2 p).trans (h.2.2.2 p)⟩

theorem of_fab (h : s.onlyFabric t) (hfab : t.fab = s.fab) : s.onlySends t := by
  refine ⟨h, ?_, ?_, fun p => ?_⟩
  · rw [hfab]
  · rw [hfab]
  · rw [State.port, hfab, State.port]

theorem ite {p : Prop} [Decidable p] (ha : s.onlySends t) (hb : s.onlySends u) : s.onlySends (if p then t else u) :=
  iteInduction (fun _x => ha) fun _x => hb

theorem foldl {α : Type} (l : List α) {g : State → α → State} (hg : ∀ (s : State) (a : α), s.onlySends (g s a)) (s : State) :
    s.onlySends (l.foldl g s) := by
  induction l generalizing s with
  | nil => exact refl s
  | cons a l ih => exact (hg s a).trans (ih _)

theorem hubEvent (s : State) (ev n : Nat) : s.onlySends (s.hubEvent ev n) :=
  .of_fab (.counted (t := s) rfl (s.hubEvent_counted ev n)) (s.fab_hubEvent ev n)

theorem crossed (s : State) (n m : Nat) : s.onlySends (s.crossed n m) := .of_fab rfl rfl

theorem modPort (s : State) (p : Nat) {f : Port → Port} (hf : ∀ k, (f k).sansTx = k.sansTx) : s.onlySends (s.modPort p f) :=
  ⟨rfl, List.prefix_rfl, rfl, fun q => by
    rw [s.port_modPort p q f]
    exact iteInduction (motive := fun k => Port.sansTx k = _) (fun h => h ▸ hf _) fun _x => rfl⟩

theorem sent (s : State) (l : List (Nat × FabFrame)) :
    s.onlySends { s with fab := { s.fab with sent := s.fab.sent ++ l } } := ⟨rfl, List.prefix_append _ _, rfl, fun _x => rfl⟩

theorem waiting (s : State) (l : List FabFrame) : s.onlySends { s with fab := { s.fab with waiting := l } } :=
  ⟨rfl, List.prefix_rfl, rfl, fun _x => rfl⟩

theorem freeBuffer (s : State) (b : Option (Nat × Nat)) : s.onlySends (s.freeBuffer b) := by
  cases b with
  | none => exact refl s
  | some x => exact modPort s x.1 fun _x => rfl

theorem onWire (s : State) (p : Nat) (f : FabFrame) : s.onlySends (s.onWire p f) := by
  delta State.onWire
  exact ((sent s _).trans (crossed _ _ _)).trans (hubEvent _ _ _)

theorem transmit (s : State) (p : Nat) (f : FabFrame) : s.onlySends (s.transmit p f) := by
  delta State.transmit
  extract_lets k g
  refine ((modPort s p ?_).trans (onWire _ _ _)).trans (freeBuffer _ _)
  exact fun _x => rfl

theorem portSend (s : State) (p : Nat) (f : FabFrame) : s.onlySends (s.portSend p f) := by
  delta State.portSend
  refine .ite (transmit s p f) ((modPort s p ?_).trans (hubEvent _ _ _))
  exact fun _x => rfl

theorem sendOut (s : State) (f : FabFrame) : s.onlySends (s.sendOut f) := by
  rw [State.sendOut]
  cases s.hops f.hdr.dst.toNat with
  | nil => exact waiting s _
  | cons a l => exact portSend s _ f

theorem floodBut (s : State) (a : Lsa) (but : Option Nat) : s.onlySends (s.floodBut a but) := foldl _ (fun s q => portSend s q _) s

theorem flood (s : State) : State.onlySends { s with fab := { s.fab with lsaSeq := s.fab.lsaSeq + 1 } } s.flood := by
  delta State.flood
  extract_lets _ s1
  exact floodBut s1 _ _

end State.onlySends

end Sys2Proof.Machine
end

section
/-! PROOFS. Fabric ports that leave a state (R434, R439). -/

set_option Elab.async false
set_option tactic.hygienic false

namespace Sys2Proof.Machine

/-! ### Ports that leave a state -/

/-- A port that has left its state for state `st` (R434, R440). -/
noncomputable def Port.left (k : Port) (now st : Nat) : Port :=
  { k with
    st := st, since := now, downAt := if k.st = 4 then now else k.downAt, enc := false, keyTx := [], keyRx := [], ecdh := false,
    lastseq := if k.st = 4 then k.rxSeq else k.lastseq, caught := if k.st = 4 then k.replay else k.caught, replay := [], queue := [] }

/-- From `s` to `t` only the fabric and the counters change, and of each port only the frames it sends and their counts. -/
def State.keepsPorts (s t : State) : Prop := s.onlyFabric t ∧ ∀ p, (t.port p).sansTx = (s.port p).sansTx

theorem State.keepsPorts.trans {s t u : State} (h : s.keepsPorts t) (g : t.keepsPorts u) : s.keepsPorts u :=
  ⟨h.1.trans g.1, fun p => (g.2 p).trans (h.2 p)⟩

theorem State.onlySends.keepsPorts {s t : State} (h : s.onlySends t) : s.keepsPorts t := ⟨h.1, h.2.2.2⟩

theorem State.onlySends.dropBuffers (s : State) (p : Nat) : s.onlySends (s.dropBuffers p) := by
  delta State.dropBuffers
  extract_lets s1
  have hstep : ∀ (s : State) (q : Nat), s.onlySends (if (s.port q).queue = [] then s else
      s.modPort q (fun k => { k with queue := k.queue.map (FabFrame.unbuffer p) })) := fun s q =>
    .ite (.refl s) (.modPort s q fun _x => rfl)
  exact .trans (t := s1) (.foldl _ hstep s) (.waiting s1 _)

theorem State.keepsPorts_unroute (s : State) (p : Nat) : s.keepsPorts (s.unroute p) := ⟨rfl, fun _x => rfl⟩

theorem State.keepsPorts_flood (s : State) : s.keepsPorts s.flood :=
  .trans (t := { s with fab := { s.fab with lsaSeq := s.fab.lsaSeq + 1 } }) ⟨rfl, fun _x => rfl⟩ (State.onlySends.flood s).keepsPorts

/-- A port that leaves its state changes its own port, the jobs of its key exchange and the fabric. -/
theorem State.portLeave_facts (s : State) (p st : Nat) :
    (State.modPort { s with sec := s.sec.dropPort p } p fun k => k.left s.now st).keepsPorts (s.portLeave p st) := by
  delta State.portLeave
  extract_lets k s1
  change s1.keepsPorts _
  clear_value s1
  refine iteInduction (motive := s1.keepsPorts) (fun _x => ?_) fun _x => (State.onlySends.refl s1).keepsPorts
  refine (State.onlySends.dropBuffers s1 p).keepsPorts.trans ((State.keepsPorts_unroute _ p).trans ?_)
  exact (State.keepsPorts_flood _).trans (State.onlySends.foldl _ (fun s f => .sendOut s f) _).keepsPorts

theorem State.portLeave_self (s : State) (p st : Nat) : ((s.portLeave p st).port p).sansTx = ((s.port p).left s.now st).sansTx :=
  ((s.portLeave_facts p st).2 p).trans (congrArg Port.sansTx (State.port_modPort_self _ _ _))

theorem State.portLeave_ne (s : State) {p q : Nat} (st : Nat) (h : q ≠ p) : ((s.portLeave p st).port q).sansTx = (s.port q).sansTx :=
  ((s.portLeave_facts p st).2 q).trans (congrArg Port.sansTx ((State.port_modPort _ _ _ _).trans (if_neg h)))

theorem State.core_portLeave (s : State) (p st : Nat) : (s.portLeave p st).core = s.core := (congrArg State.core (s.portLeave_facts p st).1 :)

end Sys2Proof.Machine
end

section
/-! PROOFS. Mould images: their staging, the start of a commit, and the mould that is applied (chapter 13). -/

set_option Elab.async false
set_option tactic.hygienic false

namespace Sys2Proof.Machine

/-! ### What is done core by core -/

/-- What the handling of a core gives it, and the handling of others leaves it, each handled core has at the end. -/
theorem State.foldl_cores {P : Core → Prop} {g : State → Nat → State} (hself : ∀ s c, P ((g s c).core c))
    (hkeep : ∀ s c d, P (s.core d) → P ((g s c).core d)) (l : List Nat) (s : State) : ∀ c ∈ l, P ((l.foldl g s).core c) := by
  have hfold : ∀ (l : List Nat) (s : State) d, P (s.core d) → P ((l.foldl g s).core d) := fun l => by
    induction l with
    | nil => exact fun _x _y h => h
    | cons a l ih => exact fun s d h => ih _ d (hkeep s a d h)
  induction l generalizing s with
  | nil => exact fun _x hc => absurd hc List.not_mem_nil
  | cons a l ih => exact fun c hc => (List.mem_cons.1 hc).elim (fun e => e ▸ hfold l _ a (hself s a)) (ih _ c)

/-! ### The cores under a new mould -/

/-- What applying a mould sets, and the settling of its cores leaves. -/
noncomputable def State.setup (s : State) := (s.mould, s.mouldStatus, s.mouldCount, s.pwr, s.sec, s.flasks)

/-- From `s` to `t` what a mould sets stays, and no core comes to serve a flask. -/
def State.unseats (s t : State) : Prop := t.setup = s.setup ∧ ∀ d, (s.core d).serves = none → (t.core d).serves = none

namespace State.unseats
variable {s t u : State}

theorem trans (h : s.unseats t) (g : t.unseats u) : s.unseats u := ⟨g.1.trans h.1, fun d hd => g.2 d (h.2 d hd)⟩

theorem modCore (s : State) (c : Nat) {f : Core → Core} (hf : ∀ k, k.serves = none → (f k).serves = none) : s.unseats (s.modCore c f) :=
  ⟨rfl, fun d hd => by
    rw [State.modCore, State.core_setCore]
    exact iteInduction (motive := fun k : Core => k.serves = none) (fun h => hf _ (h ▸ hd)) fun _x => hd⟩

theorem foldl {α : Type} {g : State → α → State} (hg : ∀ (s : State) (a : α), s.unseats (g s a)) (l : List α) (s : State) : s.unseats (l.foldl g s) := by
  induction l generalizing s with
  | nil => exact ⟨rfl, fun _x hd => hd⟩
  | cons a l ih => exact (hg s a).trans (ih _)

theorem zeroSpan (s : State) (lo len : Nat) : s.unseats (s.zeroSpan lo len) := ⟨rfl, fun _x hd => hd⟩

theorem zeroPad (s : State) (old : Option (List (Nat × Bool))) (c : Nat) : s.unseats (s.zeroPad old c) :=
  foldl (fun t _x => iteInduction (motive := t.unseats) (fun _x => ⟨rfl, fun _x hd => hd⟩) fun _x => zeroSpan t _ _) _ s

theorem darken (s : State) (c : Nat) : s.unseats (s.darken c) :=
  (zeroSpan s _ _).trans (modCore (s.zeroSpad c) c (f := fun k => { k with pwr := 0 }) fun _x h => h)

theorem repower (s : State) (c : Nat) : s.unseats (s.repower c) := by
  refine modCore s c ?_
  exact fun _x h => h

theorem loadTables (s : State) (c : Nat) : s.unseats (s.loadTables c) := by
  refine modCore s c ?_
  exact fun _x h => h

theorem settleCore (s : State) (old : Option (List (Nat × Bool))) (c : Nat) :
    s.unseats (s.settleCore old c) ∧ ((s.settleCore old c).core c).serves = none := by
  refine iteInduction (motive := fun t : State => s.unseats t ∧ (t.core c).serves = none) (fun _x => ⟨?_, ?_⟩) fun _x => ?_
  · exact (darken s c).trans (modCore (s.darken c) c (f := fun k => { k with loaded := 0, serves := none }) fun _x _y => rfl)
  · exact congrArg Core.serves (State.core_modCore_self (s.darken c) c fun k => { k with loaded := 0, serves := none })
  · have h1 := modCore (s.zeroPad old c) c (f := fun k => { k with serves := none }) fun _x _y => rfl
    have hself := congrArg Core.serves (State.core_modCore_self (s.zeroPad old c) c fun k => { k with serves := none })
    have h2 := (repower ((s.zeroPad old c).modCore c fun k => { k with serves := none }) c).trans (loadTables _ c)
    exact ⟨(zeroPad s old c).trans (h1.trans h2), h2.2 c hself⟩

end State.unseats

/-! ### The mould that is applied -/

theorem State.stage_newFlask (s : State) (d : FlaskDef) : (s.newFlask d).stage = .idle := by
  unfold State.newFlask State.openPaths
  have hpath : ∀ (l : List Nat) (z : Flask), (l.foldl (fun z l => s.repath z (fun a b _x => a == l || b == l)) z).stage = z.stage := fun l => by
    induction l with
    | nil => exact fun _x => rfl
    | cons a l ih => exact fun z => ih _
  exact hpath _ _

/-- What a new address leaves: all but the fabric and its counters. -/
theorem State.onlyFabric_setAddress (s : State) (a : BitVec 12) (v : Bool) : s.onlyFabric (s.setAddress a v) := by
  unfold State.setAddress
  refine iteInduction (motive := s.onlyFabric) (fun _x => rfl) fun _x => ?_
  have h := (State.keepsPorts_flood { s with fab := { s.fab with addr := a, addrv := v, oldAddr := if s.fab.addrv && v then some s.fab.addr else none } }).1
  exact (congrArg (fun t : State => { t with fab := s.fab, cnt := s.cnt }) h :)

/-- The flasks of a new mould, each as it is before its first pour. -/
noncomputable def State.newFlasks (s : State) (m : Mould) : Sparse Flask :=
  (List.range 16).filterMap (fun f => (Sparse.get none m.flasks f).map (fun d => (f, s.newFlask d)))

theorem State.stage_newFlasks (s : State) (m : Mould) (f : Nat) : (Sparse.get Flask.init (s.newFlasks m) f).stage = .idle :=
  Sparse.get_of_all (P := fun x : Flask => x.stage = .idle) rfl (fun e he => by
    obtain ⟨g, -, hg⟩ := List.mem_filterMap.1 he
    obtain ⟨d, -, rfl⟩ := Option.map_eq_some_iff.1 hg
    exact s.stage_newFlask d) f

theorem State.unseats.of_onlyFabric {s t : State} (h : s.onlyFabric t) : s.unseats t :=
  ⟨(congrArg State.setup h :), fun d hd => (congrArg (fun t : State => (t.core d).serves) h :).trans hd⟩

theorem State.unseats.setSticky (s : State) {b : Nat} (hb : b < 64) : s.unseats (s.setSticky b) :=
  have h := (s.setSticky_facts hb).2.2
  ⟨(congrArg State.setup h :), fun d hd => (congrArg (fun t : State => (t.core d).serves) h :).trans hd⟩

/-- In `t` the staged image of `s` is the mould in force, beside what the registers say (R409, R412). -/
def State.remoulded (s t : State) : Prop :=
  t.digest = mouldDigest s.staged ∧ t.staged = [] ∧ t.mouldStatus.stage = 0 ∧ t.mouldStatus.reason = 0 ∧ t.mouldCount = s.mouldCount + 1 ∧
    t.sec = { s.sec with ksids := [], ksovf := false } ∧ (∀ f, (t.flask f).stage = .idle) ∧
    t.pwr = { s.pwr with clken := (mouldOf s.staged).clken.setWidth 100, slew := (mouldOf s.staged).slew, pcap := (mouldOf s.staged).pcap } ∧
    ∀ c < 64, (t.core c).serves = none

theorem State.remoulded_applyMould (s : State) : s.applyMould.mould = some (mouldOf s.staged) ∧ s.remoulded s.applyMould := by
  delta State.applyMould
  extract_lets m olds pwr s1 s2 s3 s4 s5 status sec t
  have h4 : s3.unseats s4 := State.unseats.foldl (fun s c => (State.unseats.settleCore s _ c).1) _ s3
  have hserves : ∀ c ∈ List.range 64, (s4.core c).serves = none := State.foldl_cores (P := fun k : Core => k.serves = none)
    (fun s c => (State.unseats.settleCore s _ c).2) (fun s c d h => (State.unseats.settleCore s _ c).1.2 d h) _ s3
  have h5 : s4.unseats s5 := (iteInduction (motive := s4.unseats) (fun _x => .setSticky s4 (by decide)) fun _x => ⟨rfl, fun _x h => h⟩).trans
    (.of_onlyFabric (State.onlyFabric_setAddress _ _ _))
  have hall : s5.setup = s3.setup := (h4.trans h5).1
  have hcore : ∀ c < 64, (s5.core c).serves = none := fun c hc => h5.2 c (hserves c (List.mem_range.2 hc))
  clear_value s5
  exact ⟨(congrArg (·.1) hall :), rfl, rfl, rfl, rfl, (congrArg (·.2.2.1 + 1) hall :), (congrArg (fun x => { x.2.2.2.2.1 with ksids := [], ksovf := false }) hall :),
    fun f => (congrArg (fun x => (Sparse.get Flask.init x.2.2.2.2.2 f).stage) hall :).trans (s.stage_newFlasks m f), (congrArg (·.2.2.2.1) hall :), hcore⟩

/-! ### The commands -/

/-- An image part that is staged (R407). -/
theorem State.stage_respond (s : State) (off : Nat) (d : List Byte) (ctag : BitVec 16) : let t := (s.stage off d).respond ctag 0x20 0 []
    t.staged = (if off = 0 then d else s.staged ++ d) ∧ t.says 0x11 0x20 0 ctag [] ∧
      { t with cp := s.cp, cnt := s.cnt, staged := s.staged, mouldStatus := s.mouldStatus } = s :=
  have hl := State.onlyLink_respond (s.stage off d) ctag 0x20 0 []
  ⟨(congrArg State.staged hl :), State.says_respond (s.stage off d) _ _ _ _,
    (congrArg (fun t : State => { t with staged := s.staged, mouldStatus := s.mouldStatus }) hl :)⟩

/-- Settles O39. -/
theorem mouldImagesAreStaged : Obligations.MouldImagesAreStaged := by
  intro h p s
  refine ⟨fun ha => ?_, fun ha hc => ?_, fun r ha hc => ?_, fun g hg hop hstage => ?_⟩
  · refine ha.elim [] fun cp cnt heq => ?_
    obtain ⟨h1, h2, h3⟩ := State.stage_respond (s.relink cp cnt) (leAt p 0 4) (p.drop 16) h.ctag
    have h4 := (congrArg (State.relink · s.cp s.cnt) h3 :)
    refine ⟨fun h0 => ?_, fun h0 hlen => ?_, fun h0 hlen => ?_⟩
    · exact ⟨_, congrArg Host.Outcome.next (heq.trans (if_neg fun hn => hn.1 h0)), h1.trans (if_pos h0), h2, h4⟩
    · exact ⟨_, congrArg Host.Outcome.next (heq.trans (if_neg fun hn => hn.2 hlen)), h1.trans (if_neg h0), h2, h4⟩
    · exact ⟨_, congrArg Host.Outcome.next (heq.trans (if_pos ⟨h0, hlen⟩)), State.says_respond (s.relink cp cnt) _ _ _ _,
        .trans (t := s.relink cp cnt) rfl (State.onlyLink_respond _ _ _ _ _)⟩
  · refine ha.elim [] fun cp cnt heq => ?_
    have hdo : (s.relink cp cnt).startCommit h.ctag = { s.relink cp cnt with
        bg := some ⟨0x21, h.ctag, .hashing, []⟩, mouldStatus := { s.mouldStatus with stage := 2 }, sec := { s.sec with sha := s.sec.sha ++ [.mould] } } := by
      rw [State.startCommit, show (s.relink cp cnt).checksEarly = none from hc]
      rfl
    exact ⟨_, congrArg Host.Outcome.next (heq.trans hdo), rfl, rfl, rfl, rfl, rfl, State.sameBytes_of rfl rfl rfl⟩
  · refine ha.elim [] fun cp cnt heq => ?_
    have hdo : (s.relink cp cnt).startCommit h.ctag = (s.relink cp cnt).rejectMould h.ctag r := by
      rw [State.startCommit, show (s.relink cp cnt).checksEarly = some r from hc]
    have hl := State.onlyLink_respond { s.relink cp cnt with bg := none, mouldStatus :=
      ⟨BitVec.ofNat 16 r.entry, BitVec.ofNat 8 r.sectype, BitVec.ofNat 8 r.secidx, BitVec.ofNat 8 r.reason, 0⟩ } h.ctag 0x21 0x0E r.payload
    exact ⟨_, congrArg Host.Outcome.next (heq.trans hdo), State.says_respond _ _ _ _ _, (congrArg State.mould hl :), (congrArg State.staged hl :),
      (congrArg State.bg hl :), fun v k => hl.bytes v k⟩
  · obtain ⟨hmould, hfacts⟩ := s.remoulded_applyMould
    have hexec : exec .mouldApplyDone s = .next (({ s.applyMould with bg := none }).respond g.ctag 0x21 0 []) := by
      change execMouldApplyDone s = _
      rw [execMouldApplyDone, hg]
      exact congrArg Host.Outcome.next (if_pos ⟨hop, hstage⟩)
    generalize s.applyMould = v at hexec hmould hfacts
    have hl := State.onlyLink_respond { v with bg := none } g.ctag 0x21 0 []
    exact ⟨_, hexec, (congrArg State.mould hl :).trans hmould, (congrArg State.bg hl :), State.says_respond _ _ _ _ _, (congrArg s.remoulded hl :).mpr hfacts⟩

end Sys2Proof.Machine
end

section
/-! PROOFS. The commands that stop and reset a flask, and scratchpads that are zeroed (R476, R477, R570). -/

set_option Elab.async false
set_option tactic.hygienic false

namespace Sys2Proof

/-- A table from which keys are taken reads its default there, and elsewhere what it read. -/
theorem Sparse.get_filter {α : Type} {d : α} (p : Nat → Bool) (k : Nat) (m : Sparse α) :
    Sparse.get d (m.filter (fun e => p e.1)) k = if p k then Sparse.get d m k else d := by
  induction m with
  | nil => exact (ite_self d).symm
  | cons e r ih =>
    by_cases hp : p e.1
    · rw [List.filter_cons_of_pos (p := fun e : Nat × α => p e.1) hp, Sparse.get, Sparse.get, ih]
      by_cases he : e.1 = k
      · rw [if_pos he, if_pos he, if_pos (he ▸ hp)]
      · rw [if_neg he, if_neg he]
    · rw [List.filter_cons_of_neg (p := fun e : Nat × α => p e.1) hp, ih, Sparse.get]
      by_cases he : e.1 = k
      · rw [← he, if_neg hp, if_neg hp]
      · rw [if_neg he]

namespace Machine

/-! ### Scratchpads that are zeroed -/

/-- From `s` to `t` memory below the scratchpads reads as before. -/
def State.lowSame (s t : State) : Prop :=
  (t.draws = s.draws ∧ t.mould = s.mould) ∧ ∀ key < 3 * 2 ^ 48, Sparse.get 0 t.mem key = Sparse.get 0 s.mem key ∧ Sparse.get none t.work key = Sparse.get none s.work key

namespace State.lowSame
variable {s t u : State}

theorem refl (s : State) : s.lowSame s := ⟨⟨rfl, rfl⟩, fun _x _y => ⟨rfl, rfl⟩⟩

theorem trans (h : s.lowSame t) (g : t.lowSame u) : s.lowSame u :=
  ⟨⟨g.1.1.trans h.1.1, g.1.2.trans h.1.2⟩, fun key hk => ⟨(g.2 key hk).1.trans (h.2 key hk).1, (g.2 key hk).2.trans (h.2 key hk).2⟩⟩

theorem foldl {α : Type} {g : State → α → State} (hg : ∀ (s : State) (a : α), s.lowSame (g s a)) (l : List α) (s : State) :
    s.lowSame (l.foldl g s) := by
  induction l generalizing s with
  | nil => exact refl s
  | cons a l ih => exact (hg s a).trans (ih _)

theorem zeroSpan (s : State) {lo : Nat} (h : 3 * 2 ^ 48 ≤ lo) (len : Nat) : s.lowSame (s.zeroSpan lo len) := by
  refine ⟨⟨rfl, rfl⟩, fun key hk => ?_⟩
  have hout : (!(decide (lo < key + 1) && decide (key < lo + len))) = true := by
    rw [decide_eq_false ((Nat.le_of_lt_succ · |>.not_gt (Nat.lt_of_lt_of_le hk h))), Bool.false_and, Bool.not_false]
  exact ⟨(Sparse.get_filter (fun k => !(decide (lo < k + 1) && decide (k < lo + len))) key _).trans (if_pos hout),
    (Sparse.get_filter (fun k => !(decide (lo < k + 1) && decide (k < lo + len))) key _).trans (if_pos hout)⟩

theorem readByte (h : s.lowSame t) (v : Viewer) {key : Nat} (hk : key < 3 * 2 ^ 48) : t.readByte v key = s.readByte v key := by
  rw [State.readByte, State.readByte, State.seesWork_congr h.1.2, (h.2 key hk).1, (h.2 key hk).2]

theorem zeroKinds (s : State) (c : Nat) (kinds : List Nat) : s.lowSame (s.zeroKinds c kinds) :=
  foldl (fun t _x => iteInduction (motive := t.lowSame) (fun _x => zeroSpan t (Nat.le_add_right _ _) _) fun _x => refl t) _ s

theorem zeroParked (s : State) (f l : Nat) (kinds : List Nat) : s.lowSame (s.zeroParked f l kinds) :=
  foldl (fun t _x => iteInduction (motive := t.lowSame) (fun _x => zeroSpan t (Nat.le_add_right_of_le (by decide)) _) fun _x => refl t) _ s

theorem defaultCore (s : State) (c : Nat) : s.lowSame (s.defaultCore c) := ⟨⟨rfl, rfl⟩, fun _x _y => ⟨rfl, rfl⟩⟩

end State.lowSame

theorem State.cores_zeroKinds (s : State) (c : Nat) (kinds : List Nat) : (s.zeroKinds c kinds).cores = s.cores := by
  unfold State.zeroKinds
  refine foldl_keeps (p := fun t : State => t.cores = s.cores) _ ?_ _ s rfl
  exact fun _x _y h => iteInduction (motive := fun t : State => t.cores = s.cores) (fun _x => h) fun _x => h

theorem State.cores_zeroParked (s : State) (f l : Nat) (kinds : List Nat) : (s.zeroParked f l kinds).cores = s.cores := by
  unfold State.zeroParked
  refine foldl_keeps (p := fun t : State => t.cores = s.cores) _ ?_ _ s rfl
  exact fun _x _y h => iteInduction (motive := fun t : State => t.cores = s.cores) (fun _x => h) fun _x => h

/-! ### Cores at their defaults -/

/-- A core at its defaults (R570). -/
def Core.atDefaults (k : Core) : Prop := k.arch = Arch.init ∧ k.serves = none ∧ k.faultCode = 0 ∧ k.hazchk = false

/-- A core as a reset leaves it, before its tables are written. -/
noncomputable def Core.defaulted (k : Core) : Core :=
  { k.fresh.clearSeq with remoteTok := [], haltreq := false, hazchk := false, serves := none }

theorem State.core_defaultCore (s : State) (c : Nat) : (s.defaultCore c).core = ((s.modCore c Core.defaulted).modCore c fun k =>
    { k with loaded := (s.modCore c Core.defaulted).tablesOf c }).core := rfl

theorem State.defaultCore_self (s : State) (c : Nat) : ((s.defaultCore c).core c).atDefaults := by
  rw [State.core_defaultCore, State.core_modCore_self, State.core_modCore_self]
  exact ⟨rfl, rfl, rfl, rfl⟩

theorem State.defaultCore_ne (s : State) {c d : Nat} (h : d ≠ c) : (s.defaultCore c).core d = s.core d := by
  rw [State.core_defaultCore, State.core_modCore_ne _ _ h, State.core_modCore_ne _ _ h]

/-- A flask that is reset while no pour runs: its cores are at their defaults, and memory below the scratchpads stays (R477). -/
theorem State.flaskResetCores_facts {s : State} {f : Nat} {d : FlaskDef} (hd : s.flaskDef f = some d) : let t := s.flaskResetCores f
    (∀ c ∈ d.coreList ++ d.spareList ++ s.hosts f, s.fenced c = false → (t.core c).atDefaults) ∧
      t.draws = s.draws + 1 ∧ ∀ v key, key < 3 * 2 ^ 48 → t.readByte v key = s.readByte v key := by
  rw [State.flaskResetCores, hd]
  dsimp -zeta only
  extract_lets cores s1 s2
  have hself : ∀ (s : State) c, (((s.zeroKinds c [0, 1, 2]).defaultCore c).core c).atDefaults := fun s c => State.defaultCore_self _ c
  have hkeep : ∀ (s : State) c d, (s.core d).atDefaults → (((s.zeroKinds c [0, 1, 2]).defaultCore c).core d).atDefaults := fun s c d h => by
    by_cases hd : d = c
    · subst hd
      exact hself s d
    · rw [State.defaultCore_ne _ hd, State.core_congr (s.cores_zeroKinds c _)]
      exact h
  have h1 : ∀ c ∈ cores, (s1.core c).atDefaults := State.foldl_cores (P := Core.atDefaults) hself hkeep cores s
  have h2 : s2.cores = s1.cores := by
    exact foldl_keeps (p := fun t : State => t.cores = s1.cores) _ (fun t _x ht => (t.cores_zeroParked _ _ _).trans ht) _ s1 rfl
  have hlow : s.lowSame s2 := (State.lowSame.foldl (fun s c => (State.lowSame.zeroKinds s c _).trans (.defaultCore _ c)) cores s).trans
    (State.lowSame.foldl (fun s x => State.lowSame.zeroParked s f _ _) _ s1)
  refine ⟨fun c hc hf => ?_, congrArg (· + 1) hlow.1.1, fun v key hk => hlow.readByte v hk⟩
  have hmem : c ∈ cores := List.mem_filter.2 ⟨List.mem_eraseDups.2 hc, by rw [hf]; rfl⟩
  exact (congrArg (fun k : Core => k.atDefaults) (State.core_congr h2 c)).mpr (h1 c hmem)

/-! ### Flasks that are stopped -/

/-- A running pour that a command stops (R476, R477): the flask stops, its cores' queues are discarded, and the command waits. -/
theorem State.stopFor_facts {s : State} {f : Nat} (h : (s.flask f).stage = .running) (ctag : BitVec 16) (op : BitVec 8) (why : StopWhy) :
    let t := s.stopFor f ctag op why
    (t.flask f).stage = .stopping why ∧ (t.flask f).waiter = some (ctag, op) ∧ t.cp.blocked = true ∧
      (∀ c ∈ s.hosts f, (t.core c).lme.queue = [] ∧ (t.core c).te.queue = [] ∧ (t.core c).ve.queue = [] ∧ (t.core c).se.queue = []) ∧
      (∀ c n, t.thread c n = s.thread c n) ∧ s.sameBytes t := by
  have ht : s.stopFor f ctag op why =
      ((s.stopFlask f why).modFlask f (fun x => { x with waiter := some (ctag, op) })).modCp (fun k => { k with blocked := true }) := by
    rw [State.stopFor, h]
  have hf := ((s.stopFlask f why).flask_modFlask_self f fun x => { x with waiter := some (ctag, op) })
  rw [s.flask_stopFlask_self f why] at hf
  rw [ht]
  refine ⟨(congrArg Flask.stage hf :), (congrArg Flask.waiter hf :), rfl, fun c hc => ?_, fun c n => ?_, ?_⟩
  · obtain ⟨n, hn⟩ := Nat.exists_eq_succ_of_ne_zero (List.count_pos_iff.2 hc).ne'
    have hcore := s.core_stopFlask f why c
    rw [hn, Function.iterate_succ_apply'] at hcore
    exact (congrArg (fun k : Core => k.lme.queue = [] ∧ k.te.queue = [] ∧ k.ve.queue = [] ∧ k.se.queue = []) hcore :).mpr ⟨rfl, rfl, rfl, rfl⟩
  · exact (congrArg (fun k : Core => k.thread n) (s.core_stopFlask f why c) :).trans (congrFun (Function.iterate_invariant (f := Core.dropQueues) (g := fun k => k.thread n) rfl _) _)
  · have hrest := s.rest_stopFlask f why
    exact State.sameBytes_of (congrArg State.mem hrest :) (congrArg State.work hrest :) (congrArg State.mould hrest :)

/-- Settles O41. -/
theorem flaskCommandsStop : Obligations.FlaskCommandsStop := by
  intro h p s d f hm hd
  have hmould : ¬ s.mould.isNone = true := by
    rw [Option.isNone_iff_eq_none]
    exact Option.isSome_iff_ne_none.1 hm
  have hflask : ¬ (s.flaskDef f).isNone = true := by
    rw [hd]
    exact Bool.false_ne_true
  refine ⟨fun op row why hrow ha hrun => ha.elim [] fun cp cnt heq => ?_, fun ha hoff => ha.elim [] fun cp cnt heq => ?_⟩
  · have hon : s.pourOn f = true := decide_eq_true (hrun ▸ nofun)
    obtain ⟨rfl, rfl, rfl⟩ | ⟨rfl, rfl, rfl⟩ := hrow
    · exact ⟨_, congrArg Host.Outcome.next (heq.trans ((if_neg hmould).trans ((if_neg hflask).trans (if_neg (ne_false_of_eq_true hon))))),
        State.stopFor_facts (s := s.relink cp cnt) hrun h.ctag 0x31 .abort⟩
    · exact ⟨_, congrArg Host.Outcome.next (heq.trans ((if_neg hmould).trans ((if_neg hflask).trans (if_pos hon)))),
        State.stopFor_facts (s := s.relink cp cnt) hrun h.ctag 0x32 .reset⟩
  · have hfacts := State.flaskResetCores_facts (s := s.relink cp cnt) hd
    have hl := State.onlyLink_respond ((s.relink cp cnt).flaskResetCores f) h.ctag 0x32 0 []
    exact ⟨_, congrArg Host.Outcome.next (heq.trans ((if_neg hmould).trans ((if_neg hflask).trans (if_neg (ne_true_of_eq_false hoff))))),
      State.says_respond _ _ _ _ _, (congrArg (fun t : State => (∀ c ∈ d.coreList ++ d.spareList ++ s.hosts f, s.fenced c = false → (t.core c).atDefaults) ∧
      t.draws = s.draws + 1 ∧ ∀ v key, key < 3 * 2 ^ 48 → t.readByte v key = s.readByte v key) hl :).mpr hfacts⟩

end Machine
end Sys2Proof
end

section
/-! PROOFS. Background commands that begin (R478 to R481). -/

set_option Elab.async false
set_option tactic.hygienic false

namespace Sys2Proof.Machine

/-! ### The report -/

theorem length_bytesAt (l : List Byte) (off n : Nat) : (bytesAt l off n).length = n := by
  rw [bytesAt, List.length_append, List.length_replicate]
  exact Nat.add_sub_cancel' (List.length_take_le _ _)

theorem bytesAt_of_prefix {l r : List Byte} (h : l <+: r) {off n : Nat} (hn : off + n ≤ l.length) : bytesAt r off n = bytesAt l off n := by
  obtain ⟨t, rfl⟩ := h
  rw [bytesAt, bytesAt, List.drop_append_of_le_length (Nat.le_of_add_right_le hn),
    List.take_append_of_le_length (List.length_drop ▸ Nat.le_sub_of_add_le' hn)]

theorem bytesAt_append (l m : List Byte) : bytesAt (l ++ m) l.length m.length = m := by
  rw [bytesAt, List.drop_left, List.take_length, Nat.sub_self, List.replicate_zero, List.append_nil]

theorem length_append_of {l m : List Byte} {a b : Nat} (ha : l.length = a) (hb : m.length = b) : (l ++ m).length = a + b := by
  rw [List.length_append, ha, hb]

/-- The report has its length, and the nonce stands at its place in it (Table 17-3). -/
theorem State.reportHead_facts (s : State) (nonce : List Byte) : (s.reportHead nonce).length = 3328 ∧
    bytesAt (s.reportHead nonce) 48 64 = bytesAt nonce 0 64 := by
  have hite : ∀ {c : Prop} [Decidable c] {l m : List Byte}, l.length = 64 → m.length = 64 → (if c then l else m).length = 64 :=
    fun {c _ l m} hl hm => iteInduction (motive := fun l : List Byte => l.length = 64) (fun _x => hl) fun _x => hm
  delta State.reportHead
  extract_lets committed
  constructor
  · show List.length _ = 48 + 64 + 64 + 64 + 8 + 8 + 2048 + 1024
    refine length_append_of (length_append_of (length_append_of (length_append_of (length_append_of (length_append_of (length_append_of
      rfl ?_) ?_) ?_) rfl) rfl) ?_) ?_
    · exact length_bytesAt _ _ _
    · exact hite (length_bytesAt _ _ _) List.length_replicate
    · exact hite List.length_replicate (length_bytesAt _ _ _)
    · exact length_bytesAt _ _ _
    · rw [List.length_map, List.length_range]
  · refine (bytesAt_of_prefix ((List.prefix_append _ _).trans ((List.prefix_append _ _).trans ((List.prefix_append _ _).trans
      ((List.prefix_append _ _).trans ((List.prefix_append _ _).trans (List.prefix_append _ _)))))) ?_).trans ?_
    · rw [length_append_of (a := 48) (b := 64) rfl (length_bytesAt _ _ _)]
    · exact (congrArg (bytesAt _ 48 ·) (length_bytesAt nonce 0 64).symm).trans (bytesAt_append _ _)

/-! ### Levels -/

/-- What setting a debug level leaves (R543). -/
theorem State.setLevel_facts (s : State) (v : Nat) : (∃ cs, s.setLevel v = { s with sec := { s.sec with debug := v }, cores := cs }) ∧
    (v = 0 → ∀ c < 64, ((s.setLevel v).core c).hazchk = false ∧ ((s.setLevel v).core c).haltreq = false) := by
  constructor
  · exact State.foldl_modCore_eq _ _ { s with sec := { s.sec with debug := v } }
  · rintro rfl c hc
    have hoff : ∀ k : Core, (k.hazchk && decide ((0 : Nat) ≠ 0)) = false ∧ (k.haltreq && decide ((0 : Nat) = 2)) = false := fun k =>
      ⟨Bool.and_false _, Bool.and_false _⟩
    refine State.foldl_cores (P := fun k : Core => k.hazchk = false ∧ k.haltreq = false) (fun s c => ?_) (fun s c d h => ?_) _ _ c (List.mem_range.2 hc)
    · rw [State.core_modCore_self]
      exact hoff _
    · rw [State.modCore, State.core_setCore]
      exact iteInduction (motive := fun k : Core => k.hazchk = false ∧ k.haltreq = false) (fun _x => hoff _) fun _x => h

/-- The end of a DEBUG_LEVEL leaves its answer, and the level and the cores as they are. -/
theorem State.debugEnd_facts (s : State) (g : Bg) (status : BitVec 8) : let t := s.debugEnd g status
    t.says 0x11 g.opcode status g.ctag [] ∧ t.sec.debug = s.sec.debug ∧ t.bg = none ∧ t.core = s.core ∧ s.sameBytes t := by
  have hl := State.onlyLink_respond { (if g.data.length = 272 then s.newNonce else s) with bg := none } g.ctag g.opcode status []
  refine ⟨State.says_respond _ _ _ _ _, (congrArg (fun t : State => t.sec.debug) hl :).trans (apply_ite (fun t : State => t.sec.debug) _ _ _ |>.trans (ite_self _)),
    (congrArg State.bg hl :), (congrArg State.core hl :).trans (apply_ite State.core _ _ _ |>.trans (ite_self _)), fun v k => (hl.bytes v k).trans ?_⟩
  exact iteInduction (motive := fun t : State => t.readByte v k = _) (fun _x => rfl) fun _x => rfl

theorem State.cmdAct_own (s : State) (ctag : BitVec 16) (p : List Byte) (found : List (Nat × EccFind)) :
    s.cmdAct 0x42 ctag p found = s.startOwn ctag p := by
  delta State.cmdAct
  generalize s.startOwn ctag p = t
  rfl

/-- OWN of a key whose point is in range asks for the check of its curve (R480). -/
theorem State.startOwn_of_lt {s : State} {p : List Byte} (hx : beNat (bytesAt p 16 66) < ecP) (hy : beNat (bytesAt p 82 66) < ecP)
    (h0 : beNat (bytesAt p 16 66) ≠ 0) (ctag : BitVec 16) : s.startOwn ctag p = { s with
      bg := some ⟨0x42, ctag, .checking, p⟩
      sec := { s.sec with bneShort := s.sec.bneShort ++ [⟨.own, beNat (bytesAt p 16 66), beNat (bytesAt p 82 66), 0, 0, 0⟩] } } := by
  delta State.startOwn
  extract_lets x y g
  exact if_neg (not_or.2 ⟨Nat.not_le.2 hx, not_or.2 ⟨Nat.not_le.2 hy, fun h => h0 h.1⟩⟩)

/-- Settles O42. -/
theorem backgroundCommandsBegin : Obligations.BackgroundCommandsBegin := by
  intro h p s
  refine ⟨fun ha => ha.elim [] fun cp cnt heq => ?_, fun ha hv hne => ha.elim [] fun cp cnt heq => ?_, fun ha hv hd hl hp ht => ha.elim [] fun cp cnt heq => ?_,
    fun ha hx hy h0 => ha.elim [] fun cp cnt heq => ?_, fun ha => ha.elim [] fun cp cnt heq => ?_⟩
  · obtain ⟨h1, h2⟩ := State.reportHead_facts (s.relink cp cnt) p
    exact ⟨_, (s.relink cp cnt).reportHead p, congrArg Host.Outcome.next (heq.trans (rfl : _ = (s.relink cp cnt).startAttest h.ctag p)),
      rfl, h1, h2, rfl, rfl⟩
  · obtain ⟨⟨cs, h1⟩, h2⟩ := State.setLevel_facts (s.relink cp cnt) (leAt p 0 1)
    obtain ⟨h3, h4, h5, h6, h7⟩ := State.debugEnd_facts ((s.relink cp cnt).setLevel (leAt p 0 1)) ⟨0x41, h.ctag, .verifying, p⟩ 0
    refine ⟨_, congrArg Host.Outcome.next (heq.trans ((if_neg hne).trans (if_pos hv))), h3, h4.trans (congrArg (fun t : State => t.sec.debug) h1 :), h5,
      fun h0 c hc => (congrArg (fun f : Nat → Core => (f c).hazchk = false ∧ (f c).haltreq = false) h6 :).mpr (h2 h0 c hc), fun v key => (h7 v key).trans ?_⟩
    exact State.sameBytes_of (s := s) (congrArg State.mem h1 :) (congrArg State.work h1 :) (congrArg State.mould h1 :) v key
  · exact ⟨_, _, congrArg Host.Outcome.next (heq.trans ((if_neg fun e => hd (e.symm.trans hv)).trans ((if_neg (by rw [hv]; decide)).trans
      ((if_neg (by rw [show (s.relink cp cnt).sec.lifecycle = 1 from hl]; decide)).trans (if_pos ⟨hp, ht⟩))))), rfl, rfl, rfl, rfl, rfl⟩
  · exact ⟨_, congrArg Host.Outcome.next (heq.trans ((State.cmdAct_own _ _ _ _).trans (State.startOwn_of_lt hx hy h0 h.ctag))), rfl, rfl, rfl, State.sameBytes_of rfl rfl rfl⟩
  · exact ⟨_, _, congrArg Host.Outcome.next heq, rfl, rfl, rfl, rfl, rfl, rfl, State.sameBytes_of rfl rfl rfl⟩

end Sys2Proof.Machine
end

section
/-! PROOFS. Memory that a command or the test port reads and writes, and the management connector (R467, R595 to R598). -/

set_option Elab.async false
set_option tactic.hygienic false

namespace Sys2Proof.Machine

/-! ### Runs of bytes that are written -/

theorem State.seesWork_other (s : State) (key : Nat) : s.seesWork .other key = false := by
  unfold State.seesWork
  cases s.vbOwner key <;> rfl

theorem State.writeRun_other (s : State) (key : Nat) (l : List Byte) : ∃ mem, s.writeRun .other key l = { s with mem := mem } := by
  induction l generalizing s key with
  | nil => exact ⟨s.mem, rfl⟩
  | cons b r ih =>
    obtain ⟨mem, h⟩ := ih (s.writeByte .other key b) (key + 1)
    refine ⟨mem, h.trans ?_⟩
    rw [State.writeByte, s.seesWork_other]
    rfl

/-- From `s` to `t` the stream engines of some cores change. -/
def State.onlySe (s t : State) : Prop :=
  (∃ cs, t = { s with cores := cs }) ∧ ∀ c, { t.core c with se := (s.core c).se } = s.core c

theorem State.onlySe_modCore {s t : State} (h : s.onlySe t) (c : Nat) {f : Core → Core} (hf : ∀ k, { f k with se := k.se } = k) :
    s.onlySe (t.modCore c f) := by
  obtain ⟨⟨cs, rfl⟩, h⟩ := h
  refine ⟨⟨_, rfl⟩, fun d => ?_⟩
  rw [State.modCore, State.core_setCore]
  refine iteInduction (motive := fun k : Core => { k with se := (s.core d).se } = s.core d) (fun hd => ?_) fun _x => h d
  exact (congrArg (fun k : Core => { k with se := (s.core d).se }) (hf _) :).trans (hd ▸ h d)

theorem State.onlySe_keyWritten (s : State) (runs : List (Nat × Nat)) : s.onlySe (s.keyWritten runs) := by
  delta State.keyWritten
  extract_lets hit
  refine foldl_keeps (p := s.onlySe) _ ?_ _ s ⟨⟨_, rfl⟩, fun _x => rfl⟩
  exact fun t c ht => iteInduction (motive := s.onlySe) (fun _x => State.onlySe_modCore ht c fun _x => rfl) fun _x => ht

/-- What a write of good blocks leaves: the bytes, beside marks of blocks and stream engines. -/
def State.wrote (s t : State) (key : Nat) (d : List Byte) : Prop :=
  t.mem = (s.writeRun .other key d).mem ∧ { t with mem := s.mem, lost := s.lost, cores := s.cores } = s ∧
    ∀ c, { t.core c with se := (s.core c).se } = s.core c

/-- A write of good blocks in which the check bits show nothing succeeds. -/
theorem State.writeSpans_good {s : State} {key : Nat} {d : List Byte} (source core : Nat) (hd : d ≠ [])
    (h : s.clear .other [(key, d.length)]) : ∃ t, s.writeSpans .other [] source core [(key, d)] = (t, true) ∧ s.wrote t key d := by
  have hrun : addRun key (key + d.length) [] = [(key, key + d.length)] :=
    if_pos (Nat.lt_add_of_pos_right (List.length_pos_iff.2 hd))
  delta State.writeSpans
  extract_lets runs whole mine s1 s2
  have hruns : runs = [(key, key + d.length)] := hrun
  have hbad : ¬ ((runBlocks runs).any fun b => s.deadLine (64 * b) || (s.blockLost .other b && !whole b)) = true := by
    rw [hruns]
    refine List.any_eq_true.not.2 fun ⟨b, hb, hbad⟩ => ?_
    obtain ⟨r, hr, hb⟩ := List.mem_flatMap.1 (List.mem_eraseDups.1 hb)
    cases List.mem_singleton.1 hr
    rw [Nat.add_sub_cancel_left] at hb
    obtain ⟨h1, h2⟩ := h _ (List.mem_singleton_self _) b hb
    rw [h1, h2] at hbad
    exact Bool.false_ne_true hbad
  refine ⟨_, (if_neg hbad).trans (if_neg Bool.false_ne_true), ?_⟩
  have h2 : s.wrote ((s.writeRun .other key d).keyWritten runs) key d := by
    obtain ⟨mem, hw⟩ := s.writeRun_other key d
    obtain ⟨⟨cs, hcs⟩, hk⟩ := State.onlySe_keyWritten (s.writeRun .other key d) runs
    have hcore : (s.writeRun .other key d).core = s.core := by rw [hw]; rfl
    rw [hcore] at hk
    rw [hcs] at hk ⊢
    exact ⟨rfl, by rw [hw], hk⟩
  refine foldl_keeps (p := fun u => s.wrote u key d) _ ?_ _ _ h2
  intro u b hu
  rw [u.seesWork_other]
  exact hu

theorem State.readByte_wrote {s t : State} {key : Nat} {d : List Byte} (h : s.wrote t key d) (w : Viewer) (j : Nat) :
    t.readByte w j = (s.writeRun .other key d).readByte w j := by
  obtain ⟨hmem, hrest, -⟩ := h
  obtain ⟨mem, hw⟩ := s.writeRun_other key d
  rw [hw] at hmem ⊢
  exact State.sameBytes_of hmem (congrArg State.work hrest :) (congrArg State.mould hrest :) w j

theorem State.getElem_sees (s : State) (v : Viewer) (key n : Nat) {i : Nat} (h : i < (s.sees v key n).length) :
    (s.sees v key n)[i] = s.readByte v (key + i) :=
  (List.getElem_map _).trans (congrArg (fun i => s.readByte v (key + i)) (List.getElem_range _))

theorem State.sees_wrote {s t : State} {key : Nat} {d : List Byte} (h : s.wrote t key d) : t.sees .other key d.length = d := by
  refine List.ext_getElem (by exact (List.length_map _).trans List.length_range) fun i hi hd => ?_
  rw [t.getElem_sees, State.readByte_wrote h, s.readByte_writeRun .other key i d hd]

theorem State.readByte_wrote_ne {s t : State} {key : Nat} {d : List Byte} (h : s.wrote t key d) (w : Viewer) {j : Nat}
    (hj : ¬ (key ≤ j ∧ j < key + d.length)) : t.readByte w j = s.readByte w j :=
  (State.readByte_wrote h w j).trans (s.readByte_writeRun_ne .other w key j d ((Decidable.not_and_iff_or_not.1 hj).imp Nat.lt_of_not_le Nat.le_of_not_lt))

/-! ### Memory that a command or the test port reaches -/

theorem State.targetCross_eq (s : State) (sp off n : Nat) : ∃ cnt, s.targetCross sp off n = { s with cnt := cnt } := by
  have e : @State.targetCross = @State.targetCross := rfl
  conv_rhs at e => delta State.targetCross
  rw [e]
  beta_reduce
  generalize stackOf (memKey sp off) = o
  cases o with
  | none => exact ⟨s.cnt, rfl⟩
  | some x => exact ⟨(s.crossed (64 + x.1) n).cnt, rfl⟩

theorem State.cmdCross_eq (s : State) (a : CmdAddr) : ∃ cnt, s.cmdCross a = { s with cnt := cnt } :=
  iteInduction (motive := fun t : State => ∃ cnt, t = { s with cnt := cnt }) (fun _x => s.targetCross_eq _ _ _) fun _x => ⟨s.cnt, rfl⟩

/-- A read that finds no error gives the bytes that anyone but the pour sees (R467). -/
theorem State.readMem_good {s : State} {a : CmdAddr} (h4 : a.space ≠ 4) (h : s.readable a) : ∃ cnt,
    s.readMem a [] = ({ s with cnt := cnt }, some (s.sees .other (memKey a.space a.off) a.len)) := by
  obtain ⟨cnt, hc⟩ := s.cmdCross_eq a
  refine ⟨cnt, (if_neg h4).trans ?_⟩
  rw [hc, State.readSpans_good _ _ _ _ _ (fun x hx b hb => ?_)]
  · exact congrArg (fun l => (_, some l)) (List.append_nil _)
  · cases List.mem_singleton.1 hx
    exact h b hb

/-- A write that finds no error leaves its data (R467). -/
theorem State.writeMem_good {s : State} {a : CmdAddr} {d : List Byte} (h4 : a.space ≠ 4) (hd : d ≠ []) (hlen : d.length = a.len)
    (h : s.readable a) : ∃ t cnt, s.writeMem a d [] = (t, true) ∧ State.wrote { s with cnt := cnt } t (memKey a.space a.off) d := by
  obtain ⟨cnt, hc⟩ := s.cmdCross_eq a
  obtain ⟨t, ht, hw⟩ := State.writeSpans_good (s := { s with cnt := cnt }) (key := memKey a.space a.off) 2 0 hd fun x hx b hb => by
    cases List.mem_singleton.1 hx
    exact h b (hlen ▸ hb)
  refine ⟨t, cnt, (if_neg h4).trans ?_, hw⟩
  rw [hc]
  exact ht

/-! ### The management connector -/

/-- While the cocoon runs, a command of the target acts, and one whose PEC fails sets CML (R595). -/
theorem State.smbus_of_runs {s : State} (h : s.cocoonRuns = true) (act : State → State) :
    (.next (s.smbus true act) : Host.Outcome State Fault Refusal) = .next (act s) ∧
      (.next (s.smbus false act) : Host.Outcome State Fault Refusal) = .next s.setCml :=
  have hr : ¬ s.cocoonRuns = false := ne_false_of_eq_true h
  ⟨congrArg _ (if_neg hr), congrArg _ (if_neg hr)⟩

theorem State.wake_of_doze {s : State} (h : s.pwr.state = .doze) (ht : s.pwr.target = none) (hw : s.wakesServed = true) :
    s.wake 4 2 = s.beginTransition .idle 2 := by
  delta State.wake
  rw [hw, h, ht]
  exact (if_neg Bool.noConfusion).trans ((if_neg fun h3 => absurd h3.2.1 (by decide)).trans rfl)

theorem State.beginTransition_wake (s : State) (t : Power) :
    s.beginTransition t 2 = s.modPwr fun p => { p with target := some t, wakeCause := 2, rstEntry := if t = Power.chrysalis then 0 else p.rstEntry } := by
  delta State.beginTransition
  cases s.bg with
  | none => rfl
  | some g => exact congrArg (fun u : State => u.modPwr _) (if_neg fun h => absurd h.2 (by decide))

theorem State.wake_of_chrysalis {s : State} (h : s.pwr.state = .chrysalis) (hb : s.pwr.boot = .ready) (ht : s.pwr.target = none)
    (hw : s.wakesServed = true) : s.wake 4 2 = s.startWake 4 2 := by
  delta State.wake
  rw [hw, h, hb, ht]
  exact (if_neg Bool.noConfusion).trans ((if_neg fun h3 => absurd h3.2.1 (by decide)).trans rfl)

/-- A word stands in the low half of the port's data register. -/
theorem fld_word_below (n : Nat) {w : Nat} (h : w < 2 ^ 64) : fld (BitVec.ofNat 128 (n * 2 ^ 64 + w)) 0 64 = w := by
  rw [fld, BitVec.toNat_ofNat, Nat.pow_zero, Nat.div_one, Nat.mod_mod_of_dvd _ (Nat.pow_dvd_pow 2 (by decide)),
    Nat.mul_add_mod', Nat.mod_eq_of_lt h]

theorem State.tapWord_facts (s : State) (ir : BitVec 8) (v : Word) :
    (s.tapWord ir v).tap.ir = ir ∧ fld (s.tapWord ir v).tap.dr 0 64 = v.toNat ∧ { s.tapWord ir v with tap := s.tap, free := s.free } = s :=
  ⟨rfl, fld_word_below _ v.isLt, rfl⟩

/-- What a boundary-scan instruction leaves at level Open, and below it (R598). -/
theorem State.boundary_facts {s : State} (hr : s.tapRuns = true) (ir : BitVec 8) :
    (s.sec.debug = 2 → s.pwr.state ≠ .chrysalis → s.boundary ir = s.tapOpen ir) ∧
      (s.sec.debug ≠ 2 ∨ s.pwr.state = .chrysalis → s.boundary ir = s.tapDr ir 0) :=
  ⟨fun hd hp => (if_neg (ne_false_of_eq_true hr)).trans (if_pos ⟨hd, hp⟩), fun h => (if_neg (ne_false_of_eq_true hr)).trans
    (if_neg fun hn => h.elim (fun hd => hd hn.1) hn.2)⟩

/-- A register that is read or written was granted. -/
theorem State.granted_of_readReg {s : State} {off : Nat} {v : Word} (h : s.readReg off = .ok v) : s.regGranted false (regAt off) = true := by
  refine Bool.eq_true_of_not_eq_false fun hg => ?_
  exact absurd h (iteInduction (motive := (· ≠ _)) (fun _x => nofun) fun _x => by rw [if_pos hg]; nofun)

theorem State.granted_of_writeReg {s u : State} {off : Nat} {v : Word} (h : s.writeReg off v = .ok u) : s.regGranted true (regAt off) = true := by
  refine Bool.eq_true_of_not_eq_false fun hg => ?_
  exact absurd h (iteInduction (motive := (· ≠ _)) (fun _x => nofun) fun _x => by rw [if_pos hg]; nofun)

/-- Settles O58: a command of the target acts or sets CML; an instruction of the port is refused, or leaves its register and what the
write or the read of memory leaves. -/
theorem managementAnswers : Obligations.ManagementAnswers := by
  refine fun s => ⟨fun hrun => ?_, rfl⟩
  have hs := fun act => State.smbus_of_runs hrun act
  have hr : ¬ s.tapRuns = false := ne_false_of_eq_true hrun
  refine ⟨hs _, hs _, hs _, hs _, hs _, hs _, hs _, hs _, hs _, hs _, ⟨_, (hs _).1, rfl⟩, (hs _).2,
    fun v hv => (hs _).1.trans (congrArg _ (if_neg hv)), fun v => (hs _).2, fun h ht hw => ?_, fun h hb ht hw => ?_, fun code hc => ?_,
    congrArg _ (if_pos hrun), congrArg _ (if_pos hrun), fun row ir hrow => ?_, fun d => ⟨fun h => ?_, fun v hp h0 hv => ?_,
      fun u hp h1 hu => ?_⟩, fun d found h => ?_, fun d hdebug hp hasleep hok h4 hread => ?_⟩
  · exact ⟨_, (hs _).1.trans (congrArg _ ((State.wake_of_doze h ht hw).trans (s.beginTransition_wake _))), rfl, rfl, rfl⟩
  · exact ⟨_, (hs _).1.trans (congrArg _ (State.wake_of_chrysalis h hb ht hw)), rfl, rfl, rfl⟩
  · exact congrArg _ (if_pos ⟨hrun, Bool.eq_false_iff.2 fun h => hc (List.contains_iff_mem.1 h)⟩)
  · obtain ⟨hopen, hclosed⟩ := State.boundary_facts hrun ir
    have hrow : exec row s = .next (s.boundary ir) := by obtain ⟨rfl, rfl⟩ | ⟨rfl, rfl⟩ := hrow <;> rfl
    exact ⟨fun hd hp => ⟨_, hrow.trans (congrArg Host.Outcome.next (hopen hd hp)), rfl, rfl⟩,
      fun h => hrow.trans (congrArg Host.Outcome.next (hclosed h))⟩
  · exact congrArg _ ((if_neg hr).trans (if_pos h))
  · have hw : (fld d 126 2 == 1) = false := by rw [h0]; rfl
    refine ⟨_, congrArg Host.Outcome.next ((if_neg hr).trans ((if_neg ?_).trans ((if_neg ?_).trans ((if_pos h0).trans ?_)))), s.tapWord_facts 0x20 v⟩
    · rw [hw, State.granted_of_readReg hv]
      exact fun h => h.elim hp Bool.noConfusion
    · exact ne_true_of_eq_false hw
    · rw [hv]
  · have hw : (fld d 126 2 == 1) = true := by rw [h1]; rfl
    refine ⟨u.tapOpen 0x20, congrArg _ ((if_neg hr).trans ((if_neg ?_).trans ((if_pos hw).trans ?_))), rfl, rfl⟩
    · rw [hw, State.granted_of_writeReg hu]
      exact fun h => h.elim hp Bool.noConfusion
    · rw [hu]
  · exact congrArg _ ((if_neg hr).trans (if_pos h))
  · have hd' : ¬ (s.sec.debug ≠ 2 ∨ s.pwr.state = .chrysalis) := fun h => h.elim (fun h => h hdebug) hp
    have ha : ¬ (s.addrAsleep ⟨0xFFF, fld d 112 4, fld d 64 48, 8⟩ = true ∨ s.addrOk ⟨0xFFF, fld d 112 4, fld d 64 48, 8⟩ = false) :=
      fun h => h.elim (ne_true_of_eq_false hasleep) (ne_false_of_eq_true hok)
    refine ⟨fun h0 => ?_, fun h1 => ?_⟩
    · obtain ⟨cnt, hm⟩ := State.readMem_good h4 hread
      have hlt : leNat (s.sees .other (memKey (fld d 112 4) (fld d 64 48)) 8) < 2 ^ 64 := by
        have := leNat_lt (s.sees .other (memKey (fld d 112 4) (fld d 64 48)) 8)
        rwa [State.sees, List.length_map, List.length_range] at this
      refine ⟨State.tapWord { s with cnt := cnt } 0x21 (.ofNat 64 (leNat (s.sees .other (memKey (fld d 112 4) (fld d 64 48)) 8))),
        congrArg _ ((if_neg hr).trans ((if_neg hd').trans ((if_neg ha).trans ((if_neg (by rw [h0]; decide)).trans ((if_pos h0).trans ?_))))),
        rfl, ?_, State.sameBytes_of rfl rfl rfl⟩
      · rw [hm]
      · exact (State.tapWord_facts _ _ _).2.1.trans ((BitVec.toNat_ofNat _ _).trans (Nat.mod_eq_of_lt hlt))
    · have hlen := length_leBytes 8 (fld d 0 64)
      obtain ⟨t, cnt, ht, hw⟩ := State.writeMem_good (d := leBytes 8 (fld d 0 64)) h4 (List.ne_nil_of_length_pos (hlen ▸ Nat.zero_lt_succ _))
        hlen hread
      have hb : t.sameBytes (t.tapOpen 0x21) := State.sameBytes_of rfl rfl rfl
      refine ⟨t.tapOpen 0x21, congrArg _ ((if_neg hr).trans ((if_neg hd').trans ((if_neg ha).trans ((if_pos h1).trans ?_)))), rfl, ?_,
        fun v key hk => (hb v key).trans ?_⟩
      · rw [ht]
      · have := State.sees_wrote hw
        rw [hlen] at this
        exact (List.map_congr_left fun i _x => hb .other _).trans this
      · rw [State.readByte_wrote_ne hw v (hlen.symm ▸ hk)]
        rfl

end Sys2Proof.Machine
end

section
/-! PROOFS. INFO, REG_READ and ERR_CLEAR (R466, R470, R471, R512). -/

set_option Elab.async false
set_option tactic.hygienic false

namespace Sys2Proof.Machine

/-! ### What INFO reports -/

theorem leNat_leBytes (n v : Nat) : leNat (leBytes n v) = v % 256 ^ n := by
  induction n generalizing v with
  | zero => exact (Nat.mod_one v).symm
  | succ n ih =>
    rw [leBytes, leNat, ih, Nat.pow_succ', Nat.mod_mul]
    rfl

/-- A sum of powers of two, one for each index whose bit is set, has those bits. -/
theorem foldl_bitNat (g : Nat → Bool) (n : Nat) : (List.range n).foldl (fun v i => v + bitNat (g i) i) 0 < 2 ^ n ∧
    ∀ i < n, ((List.range n).foldl (fun v i => v + bitNat (g i) i) 0).testBit i = g i := by
  induction n with
  | zero => exact ⟨Nat.one_pos, fun i hi => absurd hi (Nat.not_lt_zero i)⟩
  | succ n ih =>
    obtain ⟨hlt, hbit⟩ := ih
    rw [List.range_succ, List.foldl_append, List.foldl_cons, List.foldl_nil, Nat.add_comm]
    cases hg : g n with
    | false =>
      rw [show bitNat false n = 0 from rfl, Nat.zero_add]
      refine ⟨hlt.trans (Nat.pow_lt_pow_right Nat.one_lt_two n.lt_succ_self), fun i hi => ?_⟩
      obtain h | rfl := Nat.lt_succ_iff_lt_or_eq.1 hi
      · exact hbit i h
      · exact (Nat.testBit_lt_two_pow hlt).trans hg.symm
    | true =>
      rw [show bitNat true n = 2 ^ n from rfl]
      refine ⟨by rw [Nat.pow_succ, Nat.mul_two]; exact Nat.add_lt_add_left hlt _, fun i hi => ?_⟩
      obtain h | rfl := Nat.lt_succ_iff_lt_or_eq.1 hi
      · exact (Nat.testBit_two_pow_add_gt h _).trans (hbit i h)
      · exact (Nat.testBit_two_pow_add_eq _ _).trans ((congrArg not (Nat.testBit_lt_two_pow hlt)).trans hg.symm)

/-- The flags of INFO. -/
theorem testBit_flags (x y z : Bool) : ∀ b < 3, ((bitNat x 0 + bitNat y 1 + bitNat z 2) % 256 ^ 1).testBit b = [x, y, z].getD b false := by
  revert x y z
  decide

theorem bytesAt_of_le {q : List Byte} {off n : Nat} (h : off + n ≤ q.length) : bytesAt q off n = (q.drop off).take n := by
  rw [bytesAt, List.length_take_of_le (List.length_drop ▸ Nat.le_sub_of_add_le' h), Nat.sub_self]
  exact List.append_nil _

/-- Where INFO's response holds what. -/
theorem bytesAt_info (a b c d e f g : Nat) :
    let q := leBytes 8 a ++ leBytes 2 0x0100 ++ [0xA0] ++ leBytes 1 b ++ leBytes 1 c ++ leBytes 1 d ++ leBytes 1 e ++ [0] ++
      leBytes 2 f ++ leBytes 2 g ++ List.replicate 12 0
    q.length = 32 ∧ bytesAt q 0 8 = leBytes 8 a ∧ bytesAt q 11 1 = leBytes 1 b ∧ bytesAt q 12 1 = leBytes 1 c ∧
      bytesAt q 13 1 = leBytes 1 d ∧ bytesAt q 14 1 = leBytes 1 e ∧ bytesAt q 16 2 = leBytes 2 f ∧ bytesAt q 18 2 = leBytes 2 g := by
  intro q
  have hlen : q.length = 32 := rfl
  have hq {off n : Nat} (h : off + n ≤ 32) : bytesAt q off n = (q.drop off).take n := bytesAt_of_le (hlen.symm ▸ h)
  exact ⟨hlen, hq (by decide), hq (by decide), hq (by decide), hq (by decide), hq (by decide), hq (by decide), hq (by decide)⟩

theorem State.bytesAt_infoBytes (s : State) : s.infoBytes.length = 32 ∧ bytesAt s.infoBytes 0 8 = leBytes 8 s.sec.serial.toNat ∧
    bytesAt s.infoBytes 11 1 = leBytes 1 s.sec.lifecycle ∧ bytesAt s.infoBytes 12 1 = leBytes 1 s.sec.debug ∧
    bytesAt s.infoBytes 13 1 = leBytes 1 s.powerCode ∧
    bytesAt s.infoBytes 14 1 = leBytes 1 (bitNat s.mould.isSome 0 + bitNat s.fab.addrv 1 + bitNat s.bg.isSome 2) ∧
    bytesAt s.infoBytes 16 2 = leBytes 2 (if s.fab.addrv then s.fab.addr.toNat else 0) ∧
    bytesAt s.infoBytes 18 2 = leBytes 2 ((List.range 16).foldl (fun v f => v + bitNat (s.pourOn f) f) 0) :=
  bytesAt_info _ _ _ _ _ _ _

theorem leAt_of_bytesAt {q : List Byte} {off n v : Nat} (h : bytesAt q off n = leBytes n v) : leAt q off n = v % 256 ^ n :=
  (congrArg leNat h).trans (leNat_leBytes n v)

theorem State.infoBytes_facts (s : State) : s.infoBytes.length = 32 ∧ leAt s.infoBytes 0 8 = s.sec.serial.toNat ∧
    leAt s.infoBytes 11 1 = s.sec.lifecycle % 256 ∧ leAt s.infoBytes 12 1 = s.sec.debug % 256 ∧
    leAt s.infoBytes 13 1 = s.powerCode % 256 ∧
    (∀ b < 3, (leAt s.infoBytes 14 1).testBit b = ([s.mould.isSome, s.fab.addrv, s.bg.isSome].getD b false)) ∧
    leAt s.infoBytes 16 2 = (if s.fab.addrv = true then s.fab.addr.toNat else 0) ∧
    ∀ f < 16, (leAt s.infoBytes 18 2).testBit f = s.pourOn f := by
  obtain ⟨hlen, h0, h11, h12, h13, h14, h16, h18⟩ := s.bytesAt_infoBytes
  obtain ⟨hlt, hbit⟩ := foldl_bitNat s.pourOn 16
  refine ⟨hlen, (leAt_of_bytesAt h0).trans (Nat.mod_eq_of_lt s.sec.serial.isLt), leAt_of_bytesAt h11, leAt_of_bytesAt h12, leAt_of_bytesAt h13,
    fun b hb => ?_, (leAt_of_bytesAt h16).trans (Nat.mod_eq_of_lt (iteInduction (motive := (· < 256 ^ 2)) (fun _x => s.fab.addr.isLt.trans (by decide)) fun _x => by decide)),
    fun f hf => (congrArg (Nat.testBit · f) ((leAt_of_bytesAt h18).trans (Nat.mod_eq_of_lt hlt))).trans (hbit f hf)⟩
  rw [leAt_of_bytesAt h14]
  exact testBit_flags _ _ _ b hb

/-! ### Registers that show neither the link nor a counter -/

theorem State.regValue_core_relink (s : State) (cp : Cp) (cnt : Cnt) (c : Nat) {off : Nat} (h : ¬ (0x800 ≤ off ∧ off < 0x900)) :
    (s.relink cp cnt).regValue (.core c off) = s.regValue (.core c off) := by
  have hnone : entryAt off 0x800 8 32 = none := if_neg fun hin => h ⟨hin.1, hin.2.1⟩
  show (s.relink cp cnt).coreReg c off = s.coreReg c off
  delta State.coreReg
  rw [hnone]
  cases entryAt off 0x100 8 64 <;> rfl

theorem State.regValue_cocoon_relink (s : State) (cp : Cp) (cnt : Cnt) (off : Nat) :
    (s.relink cp cnt).regValue (.cocoon off) = s.regValue (.cocoon off) := by
  show (s.relink cp cnt).cocoonReg off = s.cocoonReg off
  have h1 : (s.relink cp cnt).cocoonSingle off = s.cocoonSingle off := by
    have hd : (s.relink cp cnt).domainRuns = s.domainRuns := rfl
    have hp : (s.relink cp cnt).powerCode = s.powerCode := rfl
    have hc : (s.relink cp cnt).changing = s.changing := rfl
    delta State.cocoonSingle
    rw [hd, hp, hc]
    rfl
  have h2 : (s.relink cp cnt).cocoonArray off = s.cocoonArray off := rfl
  rw [State.cocoonReg, h1, h2, State.cocoonReg]

theorem State.regValue_relink_of_steady (s : State) (cp : Cp) (cnt : Cnt) {off : Nat} (hlo : off < 0x400000 ∨ 0x3000000 ≤ off)
    (hcnt : ¬ (0x800 ≤ off % 0x10000 ∧ off % 0x10000 < 0x900)) (hhi : off < 0x4000000) :
    (s.relink cp cnt).regValue (regAt off) = s.regValue (regAt off) := by
  have key {c : Prop} [Decidable c] {a b : RegAt} (ha : c → (s.relink cp cnt).regValue a = s.regValue a)
      (hb : ¬ c → (s.relink cp cnt).regValue b = s.regValue b) :
      (s.relink cp cnt).regValue (if c then a else b) = s.regValue (if c then a else b) :=
    iteInduction (motive := fun a => (s.relink cp cnt).regValue a = s.regValue a) ha hb
  refine key (fun _x => s.regValue_core_relink cp cnt _ hcnt) fun h => ?_
  have hge := hlo.resolve_left h
  exact key (fun h => absurd (hge.trans_lt h.2) (by decide)) fun _x => key (fun h => absurd (hge.trans_lt h.2) (by decide)) fun _x =>
    key (fun _x => s.regValue_cocoon_relink cp cnt _) fun _x => key (fun h => absurd (h.1.trans_lt hhi) (Nat.lt_irrefl _)) fun _x => rfl

theorem State.readReg_relink_of_steady (s : State) (cp : Cp) (cnt : Cnt) {off : Nat} (hlo : off < 0x400000 ∨ 0x3000000 ≤ off)
    (hcnt : ¬ (0x800 ≤ off % 0x10000 ∧ off % 0x10000 < 0x900)) (hhi : off < 0x4000000) :
    (s.relink cp cnt).readReg off = s.readReg off := by
  delta State.readReg
  extract_lets a
  rw [s.regValue_relink_of_steady cp cnt hlo hcnt hhi]
  rfl

/-- What REG_READ of a register answers. -/
theorem State.doRegRead_facts {s : State} {p : List Byte} {off : Nat} (h : s.regOff p = some off) (ctag : BitVec 16) :
    s.onlyLink (s.doRegRead ctag p) ∧ match s.readReg off with
      | .ok v => (s.doRegRead ctag p).says 0x11 0x12 0 ctag (leBytes 8 v.toNat)
      | .error e => (s.doRegRead ctag p).says 0x11 0x12 e ctag [] := by
  cases hr : s.readReg off with
  | ok v =>
    have e : s.doRegRead ctag p = s.respond ctag 0x12 0 (leBytes 8 v.toNat) := by simp only [State.doRegRead, h, hr]
    exact e ▸ ⟨State.onlyLink_respond _ _ _ _ _, State.says_respond _ _ _ _ _⟩
  | error e =>
    have e : s.doRegRead ctag p = s.respond ctag 0x12 e [] := by simp only [State.doRegRead, h, hr]
    exact e ▸ ⟨State.onlyLink_respond _ _ _ _ _, State.says_respond _ _ _ _ _⟩

/-! ### Error bits that are cleared -/

theorem bitAt_cleared (w : Word) (b : Bool) : bitAt (if b then w &&& ~~~(1#64 <<< 63) else w) 63 = (bitAt w 63 && !b) := by
  cases b with
  | false => exact (Bool.and_true _).symm
  | true => exact (BitVec.getLsbD_and ..).trans rfl

/-- Settles O36. -/
theorem queriesAnswer : Obligations.QueriesAnswer := by
  intro h p s
  refine ⟨fun ha => ha.elim [] fun cp cnt heq => ?_, fun off v ha hoff hv hlo hcnt hhi => ha.elim [] fun cp cnt heq => ?_,
    fun off ha hoff => ha.elim [] fun cp cnt heq => ?_, fun ha hoff => ha.elim [] fun cp cnt heq => ?_, fun ha => ha.elim [] fun cp cnt heq => ?_⟩
  · exact ⟨_, _, congrArg Host.Outcome.next heq, State.says_respond _ _ _ _ _,
      .trans (t := s.relink cp cnt) rfl (State.onlyLink_respond _ _ _ _ _), (s.relink cp cnt).infoBytes_facts⟩
  · obtain ⟨hl, hsays⟩ := State.doRegRead_facts (s := s.relink cp cnt) hoff h.ctag
    rw [s.readReg_relink_of_steady cp cnt hlo hcnt hhi, hv] at hsays
    exact ⟨_, congrArg Host.Outcome.next heq, hsays, .trans (t := s.relink cp cnt) rfl hl⟩
  · obtain ⟨hl, hsays⟩ := State.doRegRead_facts (s := s.relink cp cnt) hoff h.ctag
    refine ⟨_, s.relink cp cnt, congrArg Host.Outcome.next heq, .trans (t := s.relink cp cnt) rfl hl, rfl, ?_⟩
    cases hr : (s.relink cp cnt).readReg off <;> rw [hr] at hsays <;> exact hsays
  · have e : (s.relink cp cnt).doRegRead h.ctag p = (s.relink cp cnt).respond h.ctag 0x12 0x0C [] := by
      rw [State.doRegRead, show (s.relink cp cnt).regOff p = none from hoff]
    exact ⟨_, congrArg Host.Outcome.next (heq.trans e), State.says_respond _ _ _ _ _,
      .trans (t := s.relink cp cnt) rfl (State.onlyLink_respond _ _ _ _ _)⟩
  · have hl := State.onlyLink_respond ((s.relink cp cnt).clearSticky (BitVec.ofNat 64 (leAt p 0 8))) h.ctag 0x02 0 (leBytes 8 s.err.sticky.toNat)
    have herr := (congrArg State.err hl :)
    exact ⟨_, congrArg Host.Outcome.next heq, State.says_respond _ _ _ _ _, (congrArg Err.sticky herr :),
      (congrArg (fun e : Err => bitAt e.eccInfo 63) herr).trans (bitAt_cleared _ _),
      (congrArg (fun e : Err => bitAt e.fenceInfo 63) herr).trans (bitAt_cleared _ _),
      (congrArg (fun e : Err => bitAt e.linkInfo 63) herr).trans (bitAt_cleared _ _),
      (congrArg (fun e : Err => bitAt e.permInfo 63) herr).trans (bitAt_cleared _ _), (congrArg Err.cores herr :),
      (congrArg (fun t : State => { t with err := s.err, cp := s.cp, cnt := s.cnt }) hl :)⟩

end Sys2Proof.Machine
end

section
/-! PROOFS. What NTT and AUTO compute (R154, R170). -/

set_option Elab.async false
set_option tactic.hygienic false

namespace Sys2Proof.Machine

/-! ### Powers and sums -/

theorem powMod_eq {e n : Nat} (b q : Nat) (h : e < 2 ^ n) : powMod b e q n = b ^ e % q := by
  induction n generalizing b e with
  | zero => rw [Nat.lt_one_iff.1 h]; rfl
  | succ n ih =>
    have hhalf : powMod (b * b % q) (e / 2) q n = b ^ (2 * (e / 2)) % q := by
      rw [ih _ (Nat.div_lt_of_lt_mul (Nat.pow_succ' ▸ h)), ← Nat.pow_mod, ← pow_two, ← pow_mul]
    obtain h0 | h1 := Nat.mod_two_eq_zero_or_one e
    · exact (if_neg (ne_of_eq_of_ne h0 (by decide))).trans (hhalf.trans
        (congrArg (b ^ · % q) (Nat.mul_div_cancel' (Nat.dvd_of_mod_eq_zero h0))))
    · exact (if_pos h1).trans ((congrArg (b * · % q) hhalf).trans ((Nat.mul_mod_mod _ _ _).trans (congrArg (· % q)
        ((pow_succ' b _).symm.trans (congrArg (b ^ ·) (Nat.two_mul_div_two_add_one_of_odd (Nat.odd_iff.2 h1)))))))

/-- Horner's rule modulo `q`. -/
theorem horner_modEq {q rho r : Nat} (h : rho ≡ r [MOD q]) (l : List Nat) :
    l.foldr (fun w acc => (w + rho * acc) % q) 0 ≡ ((List.range l.length).map fun t => l.getD t 0 * r ^ t).sum [MOD q] := by
  induction l with
  | nil => exact Nat.ModEq.rfl
  | cons w l ih =>
    have hsum : ((List.range (w :: l).length).map fun t => (w :: l).getD t 0 * r ^ t).sum =
        w + r * ((List.range l.length).map fun t => l.getD t 0 * r ^ t).sum := by
      rw [List.length_cons, List.range_succ_eq_map, List.map_cons, List.map_map, List.sum_cons, ← List.sum_map_mul_left]
      refine congrArg₂ (· + ·) (Nat.mul_one w) (congrArg List.sum (List.map_congr_left fun t _x => ?_))
      exact (congrArg (l.getD t 0 * ·) (pow_succ' r t)).trans (Nat.mul_left_comm _ _ _)
    rw [hsum]
    exact (Nat.mod_modEq _ q).trans ((Nat.ModEq.refl w).add (h.mul ih))

theorem bitrev_lt (n i : Nat) : bitrev n i < 2 ^ n := by
  induction n generalizing i with
  | zero => exact Nat.one_pos
  | succ n ih =>
    have hbit : i % 2 * 2 ^ n ≤ 2 ^ n := mul_le_of_le_one_left (Nat.zero_le _) (Nat.le_of_lt_succ (Nat.mod_lt i Nat.two_pos))
    exact (Nat.add_lt_add_of_le_of_lt hbit (ih _)).trans_le (Nat.mul_two _).ge

theorem nttWord_eq (q psi logn i : Nat) {x : List Nat} (hx : x.length = 2 ^ logn) :
    nttWord q psi logn x i = ((List.range (2 ^ logn)).map fun t => x.getD t 0 * psi ^ ((2 * bitrev logn i + 1) * t)).sum % q := by
  have hlt : 2 * bitrev logn i + 1 < 2 ^ (logn + 2) := (Nat.lt_succ_self (2 * bitrev logn i + 1)).trans_le
    ((Nat.mul_le_mul_left 2 (bitrev_lt logn i)).trans ((Nat.mul_comm 2 _).le.trans (Nat.le_mul_of_pos_right _ Nat.two_pos)))
  have hrho : powMod psi (2 * bitrev logn i + 1) q (logn + 2) ≡ psi ^ (2 * bitrev logn i + 1) [MOD q] := by
    rw [powMod_eq _ _ hlt]
    exact Nat.mod_modEq _ q
  refine (horner_modEq hrho x).trans ?_
  rw [hx]
  exact congrArg (fun f => ((List.range (2 ^ logn)).map f).sum % q) (funext fun t => by rw [pow_mul])

/-! ### The automorphism -/

/-- The places of two words of a slice differ modulo N: the multiplier is odd. -/
theorem auto_injective {logn k i j : Nat} (hk : k % 2 = 1) (hi : i < 2 ^ logn) (hj : j < 2 ^ logn) (h : j * k ≡ i * k [MOD 2 ^ logn]) : j = i :=
  (Nat.ModEq.cancel_right_of_coprime (((Nat.coprime_two_left).2 (Nat.odd_iff.2 hk)).pow_left logn) h).eq_of_lt_of_lt hj hi

theorem find?_range_eq {n i : Nat} {p : Nat → Bool} (hi : i < n) (hp : p i = true) (h : ∀ j < n, p j = true → j = i) :
    (List.range n).find? p = some i := by
  cases hf : (List.range n).find? p with
  | none => exact absurd hp (List.find?_eq_none.1 hf i (List.mem_range.2 hi))
  | some j => rw [h j (List.mem_range.1 (List.mem_of_find?_eq_some hf)) (List.find?_some hf)]

/-- The word that AUTO takes to a place: the one whose index leads there, negated where it wraps. -/
theorem getD_autoCoeff {q logn k i t : Nat} {x : List Nat} (hk : k % 2 = 1) (hi : i < 2 ^ logn) (ht : t < 2 ^ logn)
    (hp : i * k % (2 * 2 ^ logn) = t ∨ i * k % (2 * 2 ^ logn) = t + 2 ^ logn) :
    (autoCoeff q (2 ^ logn) k x).getD t 0 = if i * k % (2 * 2 ^ logn) = t then x.getD i 0 else (q - x.getD i 0) % q := by
  have hmod {j : Nat} (h : j * k % (2 * 2 ^ logn) = t ∨ j * k % (2 * 2 ^ logn) = t + 2 ^ logn) : j * k ≡ t [MOD 2 ^ logn] := by
    rw [Nat.ModEq, ← Nat.mod_mul_left_mod]
    obtain h | h := h <;> rw [h]
    exact Nat.add_mod_right _ _
  have hfind : (List.range (2 ^ logn)).find? (fun i => i * k % (2 * 2 ^ logn) == t || i * k % (2 * 2 ^ logn) == t + 2 ^ logn) = some i :=
    find?_range_eq hi (by rw [Bool.or_eq_true, beq_iff_eq, beq_iff_eq]; exact hp) fun j hj h => by
      rw [Bool.or_eq_true, beq_iff_eq, beq_iff_eq] at h
      exact auto_injective hk hi hj ((hmod h).trans (hmod hp).symm)
  rw [autoCoeff, List.getD_eq_getElem _ _ (by rwa [List.length_map, List.length_range]), List.getElem_map, List.getElem_range, hfind]

/-- Settles O20: Horner's rule, and the one index that an odd multiplier takes to a place. -/
theorem transformWords : Obligations.TransformWords := by
  refine ⟨fun q psi logn i x _x hx _y => nttWord_eq q psi logn i hx, fun q logn k i x _x _y hk hx _z hi => ?_⟩
  refine ⟨(List.length_map _).trans List.length_range, fun hp => ?_, fun hp => ?_⟩
  · rw [getD_autoCoeff hk hi hp (.inl rfl), if_pos rfl]
  · have ht : i * k % (2 * 2 ^ logn) - 2 ^ logn < 2 ^ logn :=
      Nat.sub_lt_left_of_lt_add hp (Nat.two_mul _ ▸ Nat.mod_lt _ (Nat.mul_pos Nat.two_pos (Nat.two_pow_pos logn)))
    rw [getD_autoCoeff hk hi ht (.inr (Nat.sub_add_cancel hp).symm), if_neg fun h => ?_]
    exact (Nat.sub_lt (Nat.lt_of_lt_of_le (Nat.two_pow_pos logn) hp) (Nat.two_pow_pos logn)).ne h.symm

end Sys2Proof.Machine
end

section
/-! PROOFS. What the fault of a running pour leaves on its cores: heads that fail their start checks, and flights that abort. -/

set_option Elab.async false
set_option tactic.hygienic false

namespace Sys2Proof.Machine

/-! ### The places of discarded instructions -/

theorem Core.tokq_release (k : Core) (o : Op) (q : Nat) : (k.release o).tokq q =
    if o.sen = true ∧ q = o.sq then ⟨(k.tokq q).count, (k.tokq q).reserved - 1⟩ else k.tokq q := by
  unfold Core.release
  cases o.sen with
  | false => rfl
  | true =>
    by_cases hq : q = o.sq
    · subst hq
      simp
    · simp [hq, Core.tokq_modTokq_ne]

/-- Discarding entries releases the place that each had reserved. -/
theorem tokq_releasePlaces (r : Rec) (l : List QEnt) (q : Nat) : Sparse.get ⟨0, 0⟩ (releasePlaces r l).tokq q =
    ⟨(Sparse.get ⟨0, 0⟩ r.tokq q).count,
      (Sparse.get ⟨0, 0⟩ r.tokq q).reserved - (l.filter fun e => e.op.sen && e.op.sq == q).length⟩ := by
  have hstep (m : Sparse TokQ) (e : QEnt) :
      Sparse.get ⟨0, 0⟩ (if e.op.sen then Sparse.modify ⟨0, 0⟩ m e.op.sq fun x => { x with reserved := x.reserved - 1 } else m) q =
        ⟨(Sparse.get ⟨0, 0⟩ m q).count, (Sparse.get ⟨0, 0⟩ m q).reserved - if e.op.sen && e.op.sq == q then 1 else 0⟩ := by
    cases e.op.sen with
    | false => rfl
    | true =>
      by_cases hq : e.op.sq = q
      · subst hq
        rw [if_pos rfl, Sparse.get_modify_self, Bool.true_and, beq_self_eq_true, if_pos rfl]
      · rw [if_pos rfl, Sparse.get_modify_ne _ _ _ (Ne.symm hq), Bool.true_and, beq_false_of_ne hq]
        rfl
  unfold releasePlaces
  dsimp only
  generalize r.tokq = m
  induction l generalizing m with
  | nil => rfl
  | cons e l ih =>
    refine (ih _).trans ((congrArg (fun t : TokQ => (⟨t.count, t.reserved - _⟩ : TokQ)) (hstep m e)).trans ?_)
    rw [List.filter_cons]
    split
    · rw [List.length_cons, Nat.add_comm, Nat.sub_sub]
    · rfl

theorem Core.tokq_dropQueues (k : Core) (q : Nat) :
    k.dropQueues.tokq q = ⟨(k.tokq q).count, (k.tokq q).reserved - k.promised q⟩ := tokq_releasePlaces _ _ _

/-- A core whose queues have been discarded has no place promised. -/
theorem Core.promised_iterate_dropQueues (k : Core) (n q : Nat) :
    ((Core.dropQueues^[n + 1] k).tokq q).reserved = (k.tokq q).reserved - k.promised q := by
  induction n generalizing k with
  | zero => exact congrArg TokQ.reserved (k.tokq_dropQueues q)
  | succ n ih =>
    rw [Function.iterate_succ_apply, ih, Core.tokq_dropQueues]
    rfl

/-! ### The fault of a running pour -/

/-- A core that holds its first fault (R270, step 1). -/
noncomputable def Core.recording (k : Core) (unit thread : Nat) (pc : BitVec 32) (word : Word) (code : BitVec 8) : Core :=
  if k.faultCode = 0 then
    { k with faultCode := code, faultUnit := BitVec.ofNat 4 unit, faultThread := BitVec.ofNat 4 thread, faultPc := pc, faultWord := word }
  else k

/-- A flask that is stopped discards the queues of each core that its map names, once for each time that it does. -/
theorem State.core_stopFlask_modFlask (w : State) {f : Nat} {g : Flask → Flask} (why : StopWhy) {d : Nat}
    (hg : ∀ x, (g x).map = x.map) :
    ((w.modFlask f g).stopFlask f why).core d = Core.dropQueues^[(w.hosts f).count d] (w.core d) := by
  rw [State.core_stopFlask, State.hosts, State.flask_modFlask_self, hg]
  rfl

section
variable {s v : State} {c unit thread : Nat} {pc : BitVec 32} {word : Word} {code : BitVec 8}

theorem State.core_pourFault {f l : Nat} (hs : v.serving c = some (f, l)) (hr : (v.flask f).stage = .running) (d : Nat) :
    (v.pourFault c unit thread pc word code).core d =
      Core.dropQueues^[(v.hosts f).count d] ((v.modCore c (·.recording unit thread pc word code)).core d) :=
  (congrArg (fun t : State => t.core d) (v.pourFault_running unit thread pc word code hs hr)).trans
    (State.core_stopFlask_modFlask _ _ fun _x => rfl)

/-- What neither the record of a fault nor the discard of the queues changes is as it was. -/
theorem State.pourFault_keeps {α : Sort _} (P : Core → α) (hdrop : ∀ k, P k.dropQueues = P k)
    (hrec : ∀ k : Core, P (k.recording unit thread pc word code) = P k) (hs : v.pourRuns c) (d : Nat) :
    P ((v.pourFault c unit thread pc word code).core d) = P (v.core d) := by
  obtain ⟨f, l, hs, hr⟩ := hs
  rw [State.core_pourFault hs hr]
  generalize (v.hosts f).count d = n
  induction n with
  | zero =>
    by_cases hd : d = c
    · subst hd
      exact (congrArg P (v.core_modCore_self d _)).trans (hrec _)
    · exact congrArg P (v.core_modCore_ne _ hd)
  | succ n ih => exact (congrArg P (Function.iterate_succ_apply' _ _ _)).trans ((hdrop _).trans ih)

/-- A fault that discards the queues of its core releases their places (R270, step 3). -/
theorem State.discards_pourFault {f l : Nat} (hr : v.pourRuns c) (hs : v.serving c = some (f, l)) (hc : c ∈ v.hosts f) :
    ∃ k : Core, (v.pourFault c unit thread pc word code).core c = k.dropQueues ∧
      ∀ q, (k.dropQueues.tokq q).reserved = ((v.core c).tokq q).reserved - (v.core c).promised q := by
  obtain ⟨g, m, hg, hr⟩ := hr
  obtain rfl : f = g := congrArg Prod.fst (Option.some.inj (hs.symm.trans hg))
  obtain ⟨n, hn⟩ : ∃ n, (v.hosts f).count c = n + 1 := ⟨_, (Nat.succ_pred_eq_of_pos (List.count_pos_iff.2 hc)).symm⟩
  refine ⟨Core.dropQueues^[n] ((v.core c).recording unit thread pc word code), ?_, fun q => ?_⟩
  · rw [State.core_pourFault hs hr, hn, State.core_modCore_self, Function.iterate_succ_apply']
  · rw [← Function.iterate_succ_apply' Core.dropQueues, Core.promised_iterate_dropQueues, Core.recording]
    split <;> rfl

theorem State.hosts_modFlask (w : State) {g : Flask → Flask} (hg : ∀ x, (g x).map = x.map) (a f : Nat) :
    (w.modFlask a g).hosts f = w.hosts f := by
  by_cases h : f = a
  · subst h
    exact (congrArg Flask.map (w.flask_modFlask_self f g)).trans (hg _)
  · exact congrArg Flask.map (w.flask_modFlask_ne g h)

theorem State.hosts_progress (s : State) (c f : Nat) : (s.progress c).hosts f = s.hosts f := by
  unfold State.progress
  split
  · refine s.hosts_modFlask ?_ _ f
    exact fun _x => rfl
  · rfl

theorem State.core_progress (s : State) (c d : Nat) : (s.progress c).core d = s.core d :=
  State.core_congr (s.cores_progress c) d

/-- A fault after steps that leave the core's record of faults, its flask and the time is one of the pour as it was. -/
theorem State.pourFaulted_of (hrun : s.pourRuns c) (hcore : (v.core c).serves = (s.core c).serves)
    (hcode : (v.core c).faultCode = (s.core c).faultCode) (hflasks : v.flasks = s.flasks) (hnow : v.now = s.now) :
    (v.progress c).pourRuns c ∧
      s.pourFaulted ((v.progress c).pourFault c unit thread pc word code) c unit thread pc word code ∧
      (∀ d n, ((v.progress c).pourFault c unit thread pc word code).thread d n = v.thread d n) ∧
      ((v.progress c).pourFault c unit thread pc word code).rest = v.rest := by
  obtain ⟨f, l, hs, hr⟩ := hrun
  have hs' : v.serving c = some (f, l) := hcore.trans hs
  have hp : v.progress c = v.modFlask f fun x => { x with lastProgress := v.now } := by
    rw [State.progress, hs']
  have hr' : ((v.progress c).flask f).stage = .running := by
    rw [hp, State.flask_modFlask_self]
    exact (congrArg Flask.stage (State.flask_congr hflasks f)).trans hr
  have hcores : (v.progress c).core c = v.core c := by rw [hp]; rfl
  have hsp : (v.progress c).serving c = some (f, l) := by rw [hp]; exact hs'
  have hfacts := (v.progress c).pourFault_facts unit thread pc word code hsp hr'
  have hfirst := hfacts.2.2.2.2.2.2
  rw [hcores, hcode] at hfirst
  refine ⟨⟨f, l, hsp, hr'⟩, ⟨f, l, hs, hfacts.1, hfacts.2.1.trans ?_, hfirst⟩,
    fun d n => (hfacts.2.2.1 d n).trans (v.thread_progress c d n), hfacts.2.2.2.2.1.trans ?_⟩
  · rw [State.now_progress, hnow]
  · rw [hp]
    rfl

end

/-! ### Heads that fail a start check -/

/-- How many entries of a list are to fill a place of queue `q`. -/
noncomputable def promises (q : Nat) (l : List QEnt) : Nat := (l.filter fun e => e.op.sen && e.op.sq == q).length

theorem promises_insert (q : Nat) (a b : List QEnt) (e : QEnt) : promises q (a ++ e :: b) = promises q [e] + promises q (a ++ b) := by
  refine (List.perm_middle.filter _).length_eq.trans ?_
  rw [← List.singleton_append, List.filter_append, List.length_append]
  rfl

theorem promises_singleton (q : Nat) (e : QEnt) : promises q [e] = if e.op.sen = true ∧ q = e.op.sq then 1 else 0 := by
  have hiff : (e.op.sen && e.op.sq == q) = decide (e.op.sen = true ∧ q = e.op.sq) := by
    rw [Bool.decide_and, Bool.decide_coe]
    exact congrArg (e.op.sen && ·) (decide_eq_decide.2 eq_comm)
  rw [promises, List.filter_singleton, hiff]
  by_cases h : e.op.sen = true ∧ q = e.op.sq
  · rw [if_pos h, decide_eq_true h]
    rfl
  · rw [if_neg h, decide_eq_false h]
    rfl

theorem Core.promised_popped (k : Core) {u : Nat} {e : QEnt} {rest : List QEnt} (hu : u ∈ [1, 2, 3]) (n q : Nat)
    (hq : (k.engine u).queue = e :: rest) : k.promised q = promises q [e] + (k.popped u e n).promised q := by
  have hself : ((k.popped u e n).engine u).queue = rest := by
    rw [Core.engine_popped, hq]
    rfl
  have hother {v : Nat} (hv : v ∈ [1, 2, 3]) (h : v ≠ u) : ((k.popped u e n).engine v).queue = (k.engine v).queue := by
    rw [Core.popped, Core.engine_setEngine_ne _ _ hu hv h]
    cases e.op.wen <;> rfl
  have hse : (k.popped u e n).se.queue = k.se.queue := by
    rw [Core.popped, Core.se_setEngine]
    cases e.op.wen <;> rfl
  have hdef (k : Core) : k.promised q =
      promises q ((k.engine 1).queue ++ ((k.engine 2).queue ++ ((k.engine 3).queue ++ k.se.queue))) := by
    rw [← List.append_assoc, ← List.append_assoc]
    rfl
  rw [hdef, hdef, hse]
  simp only [List.mem_cons, List.not_mem_nil, or_false] at hu
  obtain rfl | rfl | rfl := hu
  · rw [hq, hself, hother (by decide) (by decide), hother (by decide) (by decide)]
    exact promises_insert q [] _ e
  · rw [hq, hself, hother (by decide) (by decide), hother (by decide) (by decide)]
    exact promises_insert q _ _ e
  · rw [hq, hself, hother (by decide) (by decide), hother (by decide) (by decide), ← List.append_assoc, List.cons_append,
      promises_insert, List.append_assoc]

/-- An engine whose head has failed its start check holds no new flight. -/
theorem State.startUnit_of_flights {s t : State} {c u : Nat} {check : State → QEnt → Except (BitVec 8) Plan}
    {act : State → QEnt → State} {hit : State → QEnt → List Range → List Range} (ht : s.startHead c u check act hit = t)
    (hf : ((t.core c).engine u).flights = ((s.core c).engine u).flights) : s.startUnit c u check act hit = t := by
  have hnone : ((t.core c).engine u).flights[((s.core c).engine u).flights.length]? = none :=
    (congrArg (fun l : List Flight => l[_]?) hf).trans (List.getElem?_eq_none le_rfl)
  unfold State.startUnit
  rw [ht]
  simp only [hnone]

section
variable {s t v : State} {c u : Nat} {e : QEnt} {rest : List QEnt} {code : BitVec 8}

/-- A core whose head `e` has failed its start check: it has given up its token and its place. -/
noncomputable def Core.failed (k : Core) (u : Nat) (e : QEnt) (n : Nat) : Core := (k.popped u e n).release e.op

theorem Core.failed_keeps {α : Sort _} (P : Core → α) (htokq : ∀ k q f, P (Core.modTokq k q f) = P k)
    (hset : ∀ k g, P (Core.setEngine k u g) = P k) (k : Core) (n : Nat) : P (k.failed u e n) = P k := by
  have hpop : P (k.popped u e n) = P k := (hset _ _).trans (by cases e.op.wen; exacts [rfl, htokq k e.op.wq _])
  unfold Core.failed Core.release
  cases e.op.sen
  exacts [hpop, (htokq _ _ _).trans hpop]

theorem Core.promised_failed (k : Core) (hu : u ∈ [1, 2, 3]) (n q : Nat) (hq : (k.engine u).queue = e :: rest) :
    ((k.failed u e n).tokq q).reserved - (k.failed u e n).promised q = (k.tokq q).reserved - k.promised q := by
  have hprom : (k.failed u e n).promised q = (k.popped u e n).promised q := by
    unfold Core.failed Core.release
    cases e.op.sen <;> rfl
  have hres : ((k.failed u e n).tokq q).reserved = (k.tokq q).reserved - promises q [e] := by
    have hpop : ((k.popped u e n).tokq q).reserved = (k.tokq q).reserved := by
      rw [Core.tokq_popped]
      split <;> rfl
    rw [Core.failed, Core.tokq_release, promises_singleton, ← hpop]
    split <;> rfl
  rw [hprom, hres, k.promised_popped hu n q hq, Nat.sub_sub]

end

section
variable {s : State} {c u : Nat} {e : QEnt} {rest : List QEnt} {code : BitVec 8} {check : State → QEnt → Except (BitVec 8) Plan}
  {act : State → QEnt → State} {hit : State → QEnt → List Range → List Range}

/-- The state in which the head `e` of unit `u` has failed its start check. -/
noncomputable def State.failedHead (s : State) (c u : Nat) (e : QEnt) (code : BitVec 8) : State :=
  (((s.popHead c u e).modCore c fun k => k.release e.op).progress c).pourFault c u e.op.thread e.pc e.op.word code

theorem State.core_release_popHead (s : State) (c : Nat) (e : QEnt) (hu : u ≠ 4) :
    ((s.popHead c u e).modCore c fun k => k.release e.op).core c = (s.core c).failed u e s.cycle := by
  rw [s.popHead_eq c e hu, State.core_modCore_self, State.core_modCore_self]
  rfl

theorem Core.faultCode_setEngine (k : Core) (u : Nat) (g : Engine) : (k.setEngine u g).faultCode = k.faultCode := by
  unfold Core.setEngine
  split_ifs <;> rfl

/-- The architectural state of a core but for its token queues. -/
noncomputable def Arch.sansTokq (a : Arch) : Arch := { a with rcd := { a.rcd with tokq := [] } }

/-- What O17 says of the state `t`, whose core `c` is `k`, after the head `e` of unit `u` has failed its start check. -/
def State.failsTo (s t : State) (k : Core) (c u : Nat) (e : QEnt) (code : BitVec 8) : Prop :=
  (∃ f l, s.serving c = some (f, l) ∧ (t.flask f).stage = .stopping .fault ∧
    (t.flask f).fault = some ⟨code, l, BitVec.ofNat 8 u, BitVec.ofNat 8 e.op.thread, e.pc, e.op.word, some s.now⟩ ∧
    ((s.core c).faultCode = 0 → k.faultCode = code ∧ k.faultUnit = BitVec.ofNat 4 u ∧
      k.faultThread = BitVec.ofNat 4 e.op.thread ∧ k.faultPc = e.pc ∧ k.faultWord = e.op.word)) ∧
    (∀ f l, s.serving c = some (f, l) → c ∈ s.hosts f → (k.engine u).queue = [] ∧
      ∀ q, (k.tokq q).reserved = ((s.core c).tokq q).reserved - (s.core c).promised q) ∧
    (∀ q, (k.tokq q).count = ((s.core c).tokq q).count - (if e.op.wen = true ∧ q = e.op.wq then 1 else 0)) ∧
    (k.engine u).flights = ((s.core c).engine u).flights ∧
    k.arch.tiles = (s.core c).arch.tiles ∧ k.arch.bufs = (s.core c).arch.bufs ∧
    k.arch.rcd.slots = (s.core c).arch.rcd.slots ∧ (∀ n, k.thread n = s.thread c n) ∧ t.rest = s.rest ∧ s.sameBytes t

theorem State.failedHead_failsTo (hu : u ∈ [1, 2, 3]) (hq : ((s.core c).engine u).queue = e :: rest) (hs : s.pourRuns c) :
    s.failsTo (s.failedHead c u e code) ((s.failedHead c u e code).core c) c u e code := by
  have hcore := s.core_release_popHead c e (u := u) (by rintro rfl; exact absurd hu (by decide))
  have hserves := (s.core c).failed_keeps (u := u) (e := e) Core.serves (fun _x _y _z => rfl) (Core.serves_setEngine · u ·) s.cycle
  obtain ⟨hrun, hfault, hthread, hrest⟩ := State.pourFaulted_of (unit := u) (thread := e.op.thread) (pc := e.pc)
    (word := e.op.word) (code := code) hs
    ((congrArg Core.serves hcore).trans hserves)
    ((congrArg Core.faultCode hcore).trans (Core.failed_keeps Core.faultCode (fun _x _y _z => rfl) (Core.faultCode_setEngine · u ·) _ _))
    rfl rfl
  have hpre := (State.core_progress _ c c).trans hcore
  have hkeep {α : Type} (P : Core → α) (hdrop : ∀ k, P k.dropQueues = P k)
      (hrec : ∀ k : Core, P (k.recording u e.op.thread e.pc e.op.word code) = P k) :
      P ((s.failedHead c u e code).core c) = P ((s.core c).failed u e s.cycle) :=
    (State.pourFault_keeps P hdrop hrec hrun c).trans (congrArg P hpre)
  have harch := (hkeep (·.arch.sansTokq) (fun _x => rfl) fun k => by unfold Core.recording; split <;> rfl).trans
    (Core.failed_keeps (·.arch.sansTokq) (fun _x _y _z => rfl) (fun k g => congrArg Arch.sansTokq (k.arch_setEngine u g)) _ _)
  have hrest : (s.failedHead c u e code).rest = s.rest := hrest
  have hthread (n : Nat) : (s.failedHead c u e code).thread c n = s.thread c n := by
    refine (hthread c n).trans ((congrArg (Core.thread · n) hcore).trans ?_)
    exact Core.failed_keeps (Core.thread · n) (fun _x _y _z => rfl)
      (fun k g => congrArg (fun a : Arch => Sparse.get Thread.idle a.rcd.threads n) (k.arch_setEngine u g)) _ _
  have h1 : ((s.failedHead c u e code).core c).arch.tiles = (s.core c).arch.tiles := (congrArg Arch.tiles harch :)
  have h2 : ((s.failedHead c u e code).core c).arch.bufs = (s.core c).arch.bufs := (congrArg Arch.bufs harch :)
  have h3 : ((s.failedHead c u e code).core c).arch.rcd.slots = (s.core c).arch.rcd.slots :=  (congrArg (fun a : Arch => a.rcd.slots) harch :)
  refine ⟨hfault, fun f l hs hc => ?_, fun q => ?_, ?_, h1, h2, h3, hthread, hrest, State.sameBytes_of_rest hrest⟩
  · obtain ⟨k, hk, hres⟩ := State.discards_pourFault (unit := u) (thread := e.op.thread) (pc := e.pc) (word := e.op.word)
      (code := code) hrun ((congrArg Core.serves hpre).trans (hserves.trans hs)) ((State.hosts_progress _ c f).symm ▸ hc)
    have hk : (s.failedHead c u e code).core c = k.dropQueues := hk
    rw [hpre] at hres
    rw [hk]
    refine ⟨?_, fun q => (hres q).trans (Core.promised_failed _ hu _ q hq)⟩
    unfold Core.engine
    split_ifs <;> rfl
  · refine (hkeep (fun k => (k.tokq q).count) (fun k => (congrArg TokQ.count (k.tokq_dropQueues q) :)) fun k => ?_).trans ?_
    · unfold Core.recording
      split <;> rfl
    · rw [Core.failed, Core.tokq_release, apply_ite TokQ.count, ite_self, Core.tokq_popped]
      split <;> rfl
  · refine (hkeep (fun k => (k.engine u).flights) (fun k => ?_) fun k => ?_).trans ?_
    · unfold Core.engine
      split_ifs <;> rfl
    · unfold Core.recording
      split <;> rfl
    · have hrel : (((s.core c).popped u e s.cycle).release e.op).engine u = ((s.core c).popped u e s.cycle).engine u := by
        unfold Core.release
        cases e.op.sen <;> rfl
      rw [Core.failed, hrel, Core.engine_popped]

theorem State.failsTo_ite {t : State} {g : Core → Core} {b : Bool} (h : s.failsTo t (t.core c) c u e code)
    (hg : s.failsTo (t.modCore c g) (g (t.core c)) c u e code) :
    s.failsTo (if b then t.modCore c g else t) ((if b then t.modCore c g else t).core c) c u e code := by
  cases b with
  | false => exact h
  | true => exact (State.core_modCore_self t c g).symm ▸ hg

end

/-- Settles O17: an error of the check leaves `failedHead`, after which the LME's row frees the walker. -/
theorem startChecksFault : Obligations.StartChecksFault := by
  intro c s u check row e rest code hrow hq hr hc hs
  suffices h : ∃ t, exec row s = .next t ∧ s.failsTo t (t.core c) c u e code from h
  have hfails (act : State → QEnt → State) (hit : State → QEnt → List Range → List Range) (hu : u ∈ [1, 2, 3]) :
      s.failsTo (s.startUnit c u check act hit) ((s.startUnit c u check act hit).core c) c u e code := by
    have h := State.failedHead_failsTo (code := code) hu hq hs
    exact (State.startUnit_of_flights (State.startHead_error (act := act) (hit := hit) hq hr hc) h.2.2.2.1).symm ▸ h
  clear hc hr hs
  obtain ⟨rfl, rfl, rfl⟩ | ⟨rfl, rfl, rfl⟩ | ⟨rfl, rfl, rfl, hm⟩ := hrow
  · have h := hfails (lmeAct c) (lmeHit c) (by decide)
    exact ⟨_, rfl, State.failsTo_ite (g := fun k => { k with se := { k.se with walk := none } }) h h⟩
  · exact ⟨_, rfl, hfails (teAct c) (teHit c) (by decide)⟩
  · exact ⟨_, congrArg (fun v : State => Host.Outcome.next (v.startUnit c 3 (veCheck c none) (veAct c) (veHit c)))
      (State.vePreRead_of_no_list hq hm none), hfails (veAct c) (veHit c) (by decide)⟩

end Sys2Proof.Machine
end
